-- ==== Sys2Proof/Word.lean ====
section
/-! DEFINITION. The plainest data of the model: bytes, tables of a fixed number of entries, index lists,
and the saturating and clamping arithmetic that 00_scope.md ("Conventions") names. -/

namespace Sys2Proof

/-- One byte of a packet (10_packet_and_record_formats.md: "every number is sent as whole bytes"). -/
abbrev Byte := BitVec 8

/-- A table of exactly `n` entries, numbered 0 to `n - 1`. -/
structure Tab (n : Nat) (α : Type) where
  list : List α
  len : list.length = n
deriving DecidableEq, Repr

/-- The table whose every entry is `a`. -/
def Tab.fill (n : Nat) {α : Type} (a : α) : Tab n α := ⟨List.replicate n a, List.length_replicate⟩

/-- Entry `i` of a table. -/
def Tab.get {n : Nat} {α : Type} (t : Tab n α) (i : Fin n) : α := t.list[i.val]'(by rw [t.len]; exact i.isLt)

/-- The table with entry `i` replaced by `a`. -/
def Tab.set {n : Nat} {α : Type} (t : Tab n α) (i : Fin n) (a : α) : Tab n α :=
  ⟨t.list.set i.val a, by rw [List.length_set, t.len]⟩

/-- The table with entry `i` replaced by `f` of it. -/
def Tab.modify {n : Nat} {α : Type} (t : Tab n α) (i : Fin n) (f : α → α) : Tab n α := t.set i (f (t.get i))

/-- The table of `f` of each entry. -/
def Tab.map {n : Nat} {α β : Type} (t : Tab n α) (f : α → β) : Tab n β :=
  ⟨t.list.map f, by rw [List.length_map, t.len]⟩

/-- The numbers 0 to `n - 1`, in order. -/
def fins (n : Nat) : List (Fin n) := List.finRange n

/-- The table whose entry `i` is `f i`. -/
def Tab.make (n : Nat) {α : Type} (f : Fin n → α) : Tab n α :=
  ⟨(fins n).map f, by rw [List.length_map]; exact List.length_finRange⟩

@[simp] theorem Tab.get_fill {n : Nat} {α : Type} (a : α) (i : Fin n) : (Tab.fill n a).get i = a := by
  simp [Tab.get, Tab.fill]

@[simp] theorem Tab.get_set_same {n : Nat} {α : Type} (t : Tab n α) (i : Fin n) (a : α) : (t.set i a).get i = a := by
  simp [Tab.get, Tab.set]

theorem Tab.get_set {n : Nat} {α : Type} (t : Tab n α) (i j : Fin n) (a : α) :
    (t.set i a).get j = if i = j then a else t.get j := by
  by_cases h : i = j
  · subst h; simp
  · have h' : i.val ≠ j.val := fun e => h (Fin.ext e)
    simp [Tab.get, Tab.set, List.getElem_set, h, h']

@[simp] theorem Tab.get_set_ne {n : Nat} {α : Type} (t : Tab n α) {i j : Fin n} (a : α) (h : i ≠ j) :
    (t.set i a).get j = t.get j := by
  rw [Tab.get_set, if_neg h]

@[simp] theorem Tab.get_modify_same {n : Nat} {α : Type} (t : Tab n α) (i : Fin n) (f : α → α) :
    (t.modify i f).get i = f (t.get i) := Tab.get_set_same _ _ _

@[simp] theorem Tab.get_modify_ne {n : Nat} {α : Type} (t : Tab n α) {i j : Fin n} (f : α → α) (h : i ≠ j) :
    (t.modify i f).get j = t.get j := Tab.get_set_ne _ _ h

theorem Tab.get_modify {n : Nat} {α : Type} (t : Tab n α) (i j : Fin n) (f : α → α) :
    (t.modify i f).get j = if i = j then f (t.get j) else t.get j := by
  unfold Tab.modify
  rw [Tab.get_set]
  split
  · rename_i h; subst h; rfl
  · rfl

@[simp] theorem Tab.get_map {n : Nat} {α β : Type} (t : Tab n α) (f : α → β) (i : Fin n) :
    (t.map f).get i = f (t.get i) := by
  simp [Tab.get, Tab.map]

@[simp] theorem Tab.get_make {n : Nat} {α : Type} (f : Fin n → α) (i : Fin n) : (Tab.make n f).get i = f i := by
  simp [Tab.get, Tab.make, fins]

/-- Two tables are equal when all their entries are. -/
theorem Tab.ext_get {n : Nat} {α : Type} {t u : Tab n α} (h : ∀ i, t.get i = u.get i) : t = u := by
  cases t with
  | mk l hl => cases u with
    | mk m hm =>
      have : l = m := by
        apply List.ext_getElem
        · rw [hl, hm]
        · intro k h1 _
          exact h ⟨k, hl ▸ h1⟩
      subst this; rfl

/-- `a + b`, stopping at `top` (00_scope.md: "a value that saturates stops at the top of its range"). -/
def satAdd (top a b : Nat) : Nat := min top (a + b)

/-- `v` replaced by the nearer end of `lo` to `hi` when it lies outside. -/
def clamp (lo hi v : Nat) : Nat := max lo (min hi v)

/-- The index `v` of a table of `n` entries, if it names one. -/
def asFin (n v : Nat) : Option (Fin n) := if h : v < n then some ⟨v, h⟩ else none

@[simp] theorem asFin_val {n : Nat} (i : Fin n) : asFin n i.val = some i := by simp [asFin]

theorem asFin_eq_some {n v : Nat} {i : Fin n} (h : asFin n v = some i) : v = i.val := by
  unfold asFin at h
  split at h
  · cases h; rfl
  · cases h

/-- ceil(a ÷ b) for b above 0 (00_scope.md, Conventions). -/
def ceilDiv (a b : Nat) : Nat := (a + b - 1) / b

end Sys2Proof
end

