-- ==== Sys2Proof/Config.lean ====
section
/-! DEFINITION. What the manual fixes as numbers of the part (00_scope.md, "Numbers used throughout" and
"Global settings"), and the values it leaves open. -/

namespace Sys2Proof.Config

/-- The last second of the business day; the clock holds there (R2). -/
def clockTop : Nat := 129599

/-- Grid columns per row of storage, whatever the geometry (R150). -/
def gridColumns : Nat := 64

/-- Grid rows of storage (R150). -/
def gridRows : Nat := 36

/-- Defaults of the global settings (00_scope.md, "Global settings"). -/
def listLead : Nat := 14400
def countdownWindow : Nat := 1800
def boardLead : Nat := 1200
def lateWindow : Nat := 900
def holdPeriod : Nat := 480
def silenceLimit : Nat := 30
def staleLimit : Nat := 120
def exactLimit : Nat := 20
def step : Nat := 10
def plentyLimit : Nat := 100
def fastPct : Nat := 80
def soldoutLifetime : Nat := 60

/-- Grid geometry after a pin reset (R101, R169). -/
def columns : Nat := 48
def rows : Nat := 27

/-- Frame rate after a pin reset (R169). -/
def rate : Nat := 60

/-- Depths of the queues (R176, R187, R133, R164). -/
def fifoDepth : Nat := 4
def eventDepth : Nat := 16
def normalDepth : Nat := 16
def announceDepth : Nat := 8
def pictureDepth : Nat := 2

/-- Cells of one unit (R137). -/
def unitCells : Nat := 8

/-- The most jobs that may pin one tile (R119). -/
def pinTop : Nat := 16

/-- The top of a 16-bit count that saturates (R127, R148, R193). -/
def countTop : Nat := 65535

/-- What IDENT reads (R185). -/
def vendorCode : Nat := 77
def partCode : Nat := 816
def revision : Nat := 1

/-- FREE VALUE (log 16): the 16-bit subject index of a REFUSED event for a QUERY SETTING, as a function
of its key's item code, panel and class. R185 makes the QUERY's key the refusal's key and R183 gives the
event a 16-bit subject index; the key of a SETTING query is four bytes, and the spec does not say which
sixteen bits stand. -/
opaque settingRefusalKey : Nat → Nat → Nat → BitVec 16

/-- FREE VALUE (log 31): the showing id that an event of the SLG or a HOLD reply carries for a showing slot that the SCH has
already emptied, while the request that tells the SLG so is on its way, as a function of the slot. R31 and R52 name the showing id, and
do not say which number stands where no showing has the slot any more. -/
opaque goneShowingId : Nat → BitVec 16

end Sys2Proof.Config
end

