-- ==== Sys2Proof/Syntax.lean ====
section
/-! DEFINITION. The commands: one constructor of `Instr` for each row of spec/opcode_table.json, in the
table's order, and the data that the commands from outside carry. The table's rows have no fields; a
command's operands are the bytes or the level that arrive from outside, or the block, panel, channel or
sender that the step belongs to (log 1). Also the packets of chapter 10 as the parse FIFO holds them. -/

namespace Sys2Proof

/-- The nine blocks (00_scope.md, "Functional block diagram"). -/
inductive Block where
  | tif | lck | sch | slg | ntc | cmp | tst | blc | pnl
deriving DecidableEq, Repr

/-- The senders of a purge (6.4). -/
inductive PurgeSender where
  | sch | slg | cmp
deriving DecidableEq, Repr

/-- The senders of an auto raise (R80). -/
inductive RaiseSender where
  | sch | slg
deriving DecidableEq, Repr

/-- What stands between a start of packet and what ends it, as the line code brings it (R196). -/
inductive TrunkFrame where
  /-- SOP, these data bytes, EOP. -/
  | whole (bytes : List Byte)
  /-- A second SOP came before the EOP of the packet under way. -/
  | unclosed
  /-- An EOP that closes no SOP. -/
  | strayEnd
  /-- A control group, or a group that is neither data nor control, inside a packet. -/
  | broken
deriving DecidableEq, Repr

/-- The fields of a LISTING packet as sent, before any check (10.3). -/
structure ListingFields where
  slot : Nat
  id : Nat
  auditorium : Nat
  title : Nat
  start : Nat
  runtime : Nat
  format : Nat
  rating : Nat
  subtitled : Nat
  boardLead : Nat
  boardingClass : Nat
  soldoutClass : Nat
  noticePanels : Nat
  capacity : Nat
  sold : Nat
  blocked : Nat
deriving DecidableEq, Repr

/-- The fields of a PICTURE packet (10.3). -/
structure Picture where
  panel : Nat
  window : Nat
  tag : Nat
  segment : Nat
  data : List Byte
deriving DecidableEq, Repr

/-- The fields of a RAISE packet as sent; the line count is the number of lines (10.3, R197). -/
structure RaiseFields where
  entry : Nat
  cls : Nat
  panels : Nat
  lifetime : Nat
  lines : List (List Nat)
deriving DecidableEq, Repr

/-- A packet that may wait in the parse FIFO (R176), its fields as sent. The value of a SET, the body of
a TABLE and the key of a QUERY are kept as bytes, whose meaning is the item's (R197, R198). -/
inductive Packet where
  | listing (f : ListingFields)
  | cancel (id : Nat)
  | remove (id : Nat)
  | tally (id sold blocked : Nat)
  | hold (desk tag id seats period : Nat)
  | release (desk tag id seats convert : Nat)
  | desk (desk operation : Nat)
  | raise (f : RaiseFields)
  | withdraw (entry : Nat)
  | force (entry panel : Nat)
  | lobby (mode : Nat)
  | time (value : Nat)
  | set (item key : Nat) (value : List Byte)
  | table (item index : Nat) (body : List Byte)
  | query (item : Nat) (key : List Byte)
  | reset (type : Nat)
deriving DecidableEq, Repr

/-- The code of a packet's kind (10.2). -/
def Packet.kind : Packet → Nat
  | .listing _ => 2
  | .cancel _ => 3
  | .remove _ => 4
  | .tally _ _ _ => 5
  | .hold _ _ _ _ _ => 6
  | .release _ _ _ _ _ => 7
  | .desk _ _ => 8
  | .raise _ => 9
  | .withdraw _ => 10
  | .force _ _ => 11
  | .lobby _ => 12
  | .time _ => 13
  | .set _ _ _ => 14
  | .table _ _ _ => 15
  | .query _ _ => 16
  | .reset _ => 18

/-- The commands, in the order of spec/opcode_table.json. -/
inductive Instr where
  | secondsPulse
  | clockHold
  | minuteBoundary
  | openAt
  | windowAt
  | minuteAt
  | boardAt
  | startAt
  | endAt
  | reapAt
  | packetReceive (frame : TrunkFrame)
  | enumerate
  | picture
  | time
  | listing
  | cancel
  | remove
  | listingTally
  | stateChange
  | tally
  | tallyStale
  | hold
  | release
  | holdExpiry
  | deskOpen
  | deskClose
  | deskBeat
  | deskSilence
  | raise
  | autoRaise (sender : RaiseSender)
  | raiseReport
  | autoFreeReport
  | withdraw
  | force
  | lobbyOpen
  | lobbyClosed
  | noticeExpiry
  | saleEnd
  | presenceReportNtc (panel : Fin 8)
  | presenceReportCmp (panel : Fin 8)
  | viewChange
  | noticeContentChange
  | rosterChange
  | deskChange
  | filterLoadReport
  | pageAdvance
  | jobIssue (panel : Fin 8)
  | purge (sender : PurgeSender)
  | purgeReport
  | unpin (channel : Fin 4)
  | unpinReport
  | jobArrival (channel : Fin 4)
  | jobCancel (channel : Fin 4)
  | entryFreeNotice
  | unitGrant
  | unitWritten
  | jobCompletedReport (channel : Fin 4)
  | jobDiscardedReport (channel : Fin 4)
  | jobAbandonedReport (channel : Fin 4)
  | jobClearedReport (channel : Fin 4)
  | queueRoomReport (channel : Fin 4)
  | frameStart (panel : Fin 8)
  | geometryReport (panel : Fin 8)
  | openWindowsReport (panel : Fin 8)
  | linkPhaseIdle (panel : Fin 8)
  | presenceFall (panel : Fin 8)
  | presenceRise (panel : Fin 8)
  | panelBack (panel : Fin 8)
  | gridClearedReport (panel : Fin 8)
  | gridClearedAnswer (panel : Fin 8)
  | setListLead
  | setCountdownWindow
  | setBoardLead
  | setLateWindow
  | setHoldPeriod
  | setSilenceLimit
  | setStaleLimit
  | setExactLimit
  | setStep
  | setPlentyLimit
  | setFastPct
  | setSoldoutLifetime
  | setClockFormat
  | setArbitration
  | setChannelsRun
  | setEnableMask
  | setClosedMask
  | setNoticeHold
  | setNoticeLayout
  | setBaseLayout
  | setPanelEnable
  | setPanelGeometry
  | setPanelRate
  | setChannelClear
  | setLinkClear
  | setUnknownItem
  | tableTitle
  | tableLayout
  | tableFilter
  | tableStyle
  | tablePhrase
  | tableTemplate
  | tableClassMap
  | tableUnknownItem
  | queryIdent
  | queryLink
  | queryClock
  | querySetting
  | queryShowing
  | queryTitle
  | queryRoster
  | queryLedger
  | queryHold
  | queryDesk
  | queryNotice
  | queryPanelNotices
  | queryNoticeMap
  | queryLayout
  | queryFilter
  | queryBaseLayout
  | queryStyle
  | queryPhrase
  | queryTemplate
  | queryClassMap
  | queryPanelBuild
  | queryTile
  | queryTileStore
  | queryChannels
  | queryChannel
  | queryPanel
  | queryUnknownItem
  | queryReadAnswer
  | resetAll
  | resetOps
  | resetTake (block : Block)
  | pinReset
  | eventOffer (block : Block)
  | passBufferReceive (packet : List Byte)
  | returnReadyChange (go : Bool)
  | returnLaneGrant
  | reportSent
  | resetNRises
  | badResetType
  | lobbyBadMode
  | deskBadOperation
deriving DecidableEq, Repr

end Sys2Proof
end

