-- ==== Sys2Proof/WellFormed.lean ====
section
/-! DEFINITION. Which packets can be sent at all: every number fits the bytes that chapter 10 gives its
field, and every count fits its byte. A packet within these bounds may still be refused by its owner
(R198). And which commands stand for something that can arrive. -/

namespace Sys2Proof

/-- A number that fits one, two or three bytes (chapter 10). -/
def fits1 (n : Nat) : Bool := decide (n < 256)
def fits2 (n : Nat) : Bool := decide (n < 65536)
def fits3 (n : Nat) : Bool := decide (n < 16777216)

/-- A LISTING's fields fit their bytes (10.3). -/
def ListingFields.wf (f : ListingFields) : Bool :=
  fits1 f.slot && fits2 f.id && fits1 f.auditorium && fits1 f.title && fits3 f.start && fits2 f.runtime
    && fits1 f.format && fits1 f.rating && fits1 f.subtitled && fits2 f.boardLead && fits1 f.boardingClass
    && fits1 f.soldoutClass && fits1 f.noticePanels && fits2 f.capacity && fits2 f.sold && fits2 f.blocked

/-- A RAISE's fields fit their bytes, and so do its line count and glyph counts (10.3). -/
def RaiseFields.wf (f : RaiseFields) : Bool :=
  fits1 f.entry && fits1 f.cls && fits2 f.panels && fits2 f.lifetime && fits1 f.lines.length
    && f.lines.all fun l => fits1 l.length && l.all fits2

/-- A PICTURE's fields fit their bytes, with 1 to 1,019 bytes of picture data (10.3). -/
def Picture.wf (f : Picture) : Bool :=
  fits1 f.panel && fits1 f.window && fits2 f.tag && fits1 f.segment
    && decide (1 ≤ f.data.length) && decide (f.data.length ≤ 1019)

/-- A packet whose fields fit their bytes (10.3, 10.4). -/
def Packet.wf : Packet → Bool
  | .listing f => f.wf
  | .cancel id => fits2 id
  | .remove id => fits2 id
  | .tally id sold blocked => fits2 id && fits2 sold && fits2 blocked
  | .hold dk tag id seats period => fits1 dk && fits1 tag && fits2 id && fits1 seats && fits2 period
  | .release dk tag id seats convert => fits1 dk && fits1 tag && fits2 id && fits1 seats && fits1 convert
  | .desk d op => fits1 d && fits1 op
  | .raise f => f.wf
  | .withdraw e => fits1 e
  | .force e p => fits1 e && fits1 p
  | .lobby m => fits1 m
  | .time v => fits3 v
  | .set item key _ => fits2 item && fits2 key
  | .table item index _ => fits2 item && fits2 index
  | .query item _ => fits2 item
  | .reset t => fits1 t

/-- A REPORT packet as it can arrive on the return lane: kind 128 first, a header of four bytes, at most
1,024 bytes of payload, and two check bytes (10.2, R199). -/
def reportWf (bytes : List Byte) : Bool :=
  decide (6 ≤ bytes.length) && decide (bytes.length ≤ 1030) && (bytes.head? == some 128#8)

/-- A command that stands for something that can happen: a packet arriving on RET_IN is a REPORT. -/
def Instr.wf : Instr → Bool
  | .passBufferReceive packet => reportWf packet
  | _ => true

end Sys2Proof
end

