-- ==== Sys2Proof/Decode.lean ====
section
/-! DEFINITION. Reading and writing the bytes of chapter 10: numbers, the check, the length test of
R197 and the fields of each packet, the bodies of TABLE packets, and packets as bytes. The table of
commands gives its rows no bits, so no word spells a command. -/

namespace Sys2Proof

/-- The command that a word of `nbits` bits spells by the bits of spec/opcode_table.json. The table gives
bits to none of its rows. -/
def decodeTableWord (_nbits _w : Nat) : Option Instr := none

/-! ## Numbers (chapter 10: "most significant byte first") -/

/-- A number of two bytes. -/
def num2 (a b : Byte) : Nat := a.toNat * 256 + b.toNat

/-- A number of three bytes. -/
def num3 (a b c : Byte) : Nat := a.toNat * 65536 + b.toNat * 256 + c.toNat

/-- A number as one, two or three bytes. -/
def put1 (n : Nat) : List Byte := [BitVec.ofNat 8 n]
def put2 (n : Nat) : List Byte := [BitVec.ofNat 8 (n / 256), BitVec.ofNat 8 n]
def put3 (n : Nat) : List Byte := [BitVec.ofNat 8 (n / 65536), BitVec.ofNat 8 (n / 256), BitVec.ofNat 8 n]

/-- The number in all the bytes of a list, most significant first. -/
def numAll (bs : List Byte) : Nat := bs.foldl (fun n b => n * 256 + b.toNat) 0

/-! ## The check (R196) -/

/-- One data bit: the register shifts up, and where the bit that leaves its top differs from the data
bit, 1021 hexadecimal is combined in. -/
def checkBit (r : BitVec 16) (b : Bool) : BitVec 16 :=
  if r.getLsbD 15 != b then (r <<< 1) ^^^ 0x1021#16 else r <<< 1

/-- One byte, most significant bit first. -/
def checkByte (r : BitVec 16) (x : Byte) : BitVec 16 :=
  [x.getLsbD 7, x.getLsbD 6, x.getLsbD 5, x.getLsbD 4, x.getLsbD 3, x.getLsbD 2, x.getLsbD 1, x.getLsbD 0].foldl
    checkBit r

/-- The check over some bytes: the register starts at FFFF hexadecimal. -/
def check (bs : List Byte) : BitVec 16 := bs.foldl checkByte 0xFFFF#16

/-- The two check bytes, most significant first. -/
def checkBytes (bs : List Byte) : List Byte := put2 (check bs).toNat

/-! ## Counted runs -/

/-- `k` glyphs of two bytes, and the bytes behind them. -/
def readGlyphs : Nat → List Byte → Option (List Nat × List Byte)
  | 0, bs => some ([], bs)
  | k + 1, a :: b :: bs =>
    match readGlyphs k bs with
    | some (gs, rest) => some (num2 a b :: gs, rest)
    | none => none
  | _ + 1, _ => none

/-- A glyph run: a count of one byte, then its glyphs. -/
def readRun : List Byte → Option (List Nat × List Byte)
  | [] => none
  | n :: bs => readGlyphs n.toNat bs

/-- `k` glyph runs. -/
def readRuns : Nat → List Byte → Option (List (List Nat) × List Byte)
  | 0, bs => some ([], bs)
  | k + 1, bs =>
    match readRun bs with
    | some (l, rest) =>
      match readRuns k rest with
      | some (ls, rest') => some (l :: ls, rest')
      | none => none
    | none => none

/-- A glyph run as bytes. -/
def putRun (gs : List Nat) : List Byte := put1 gs.length ++ (gs.map put2).flatten

/-! ## TABLE bodies (10.4), as sent -/

/-- A cell of four bytes as sent (10.5). -/
structure RawCell where
  glyph : Nat
  inkPaper : Nat
  flags : Nat
deriving DecidableEq, Repr

/-- A pane of ten bytes as sent (10.4). -/
structure RawPane where
  kind : Nat
  top : Nat
  left : Nat
  height : Nat
  width : Nat
  o0 : Nat
  o1 : Nat
  o2 : Nat
  o3 : Nat
  o4 : Nat
deriving DecidableEq, Repr

/-- A style field of seven bytes as sent (10.4). -/
structure RawField where
  kind : Nat
  start : Nat
  width : Nat
  ink : Nat
  paper : Nat
  alignment : Nat
  flags : Nat
deriving DecidableEq, Repr

/-- A TABLE body whose counts end exactly where its bytes do (R197), its values unchecked. -/
inductive TableBody where
  | title (long short : List Nat) (hint : Nat)
  | layout (background : RawCell) (panes : List RawPane)
  | filter (states auditoriums maxLines : Nat)
  | style (ink paper : Nat) (fields : List RawField)
  | phrase (glyphs : List Nat)
  | template (lines : List (List (Nat × Nat)))
  | classMap (boarding soldout : Nat)
deriving DecidableEq, Repr

/-- `k` panes of ten bytes. -/
def readPanes : Nat → List Byte → Option (List RawPane × List Byte)
  | 0, bs => some ([], bs)
  | k + 1, a :: b :: c :: d :: e :: f :: g :: h :: i :: j :: bs =>
    match readPanes k bs with
    | some (ps, rest) =>
      some (⟨a.toNat, b.toNat, c.toNat, d.toNat, e.toNat, f.toNat, g.toNat, h.toNat, i.toNat, j.toNat⟩ :: ps, rest)
    | none => none
  | _ + 1, _ => none

/-- `k` style fields of seven bytes. -/
def readFields : Nat → List Byte → Option (List RawField × List Byte)
  | 0, bs => some ([], bs)
  | k + 1, a :: b :: c :: d :: e :: f :: g :: bs =>
    match readFields k bs with
    | some (fs, rest) => some (⟨a.toNat, b.toNat, c.toNat, d.toNat, e.toNat, f.toNat, g.toNat⟩ :: fs, rest)
    | none => none
  | _ + 1, _ => none

/-- `k` template items of two bytes. -/
def readItems : Nat → List Byte → Option (List (Nat × Nat) × List Byte)
  | 0, bs => some ([], bs)
  | k + 1, a :: b :: bs =>
    match readItems k bs with
    | some (is, rest) => some ((a.toNat, b.toNat) :: is, rest)
    | none => none
  | _ + 1, _ => none

/-- `k` template lines, each an item count and its items. -/
def readItemLines : Nat → List Byte → Option (List (List (Nat × Nat)) × List Byte)
  | 0, bs => some ([], bs)
  | _ + 1, [] => none
  | k + 1, n :: bs =>
    match readItems n.toNat bs with
    | some (l, rest) =>
      match readItemLines k rest with
      | some (ls, rest') => some (l :: ls, rest')
      | none => none
    | none => none

/-- A TITLE body. -/
def readTitle (bs : List Byte) : Option TableBody :=
  match readRun bs with
  | some (long, rest) =>
    match readRun rest with
    | some (short, [h]) => some (.title long short h.toNat)
    | _ => none
  | none => none

/-- A LAYOUT body. -/
def readLayout : List Byte → Option TableBody
  | a :: b :: c :: d :: n :: bs =>
    match readPanes n.toNat bs with
    | some (ps, []) => some (.layout ⟨num2 a b, c.toNat, d.toNat⟩ ps)
    | _ => none
  | _ => none

/-- A FILTER body. -/
def readFilter : List Byte → Option TableBody
  | [a, b, c, d, e, f] => some (.filter a.toNat (numAll [b, c, d, e]) f.toNat)
  | _ => none

/-- A STYLE body. -/
def readStyle : List Byte → Option TableBody
  | a :: b :: n :: bs =>
    match readFields n.toNat bs with
    | some (fs, []) => some (.style a.toNat b.toNat fs)
    | _ => none
  | _ => none

/-- A PHRASE body. -/
def readPhrase (bs : List Byte) : Option TableBody :=
  match readRun bs with
  | some (gs, []) => some (.phrase gs)
  | _ => none

/-- A TEMPLATE body. -/
def readTemplate : List Byte → Option TableBody
  | n :: bs =>
    match readItemLines n.toNat bs with
    | some (ls, []) => some (.template ls)
    | _ => none
  | _ => none

/-- A CLASS_MAP body. -/
def readClassMap : List Byte → Option TableBody
  | [a, b] => some (.classMap a.toNat b.toNat)
  | _ => none

/-- The item code names a TABLE item (10.4). -/
def isTableItem (item : Nat) : Bool := decide (32 ≤ item) && decide (item ≤ 38)

/-- The body of a TABLE item, where its counts end exactly with its bytes (R197). -/
def readBody (item : Nat) (bs : List Byte) : Option TableBody :=
  match item with
  | 32 => readTitle bs
  | 33 => readLayout bs
  | 34 => readFilter bs
  | 35 => readStyle bs
  | 36 => readPhrase bs
  | 37 => readTemplate bs
  | 38 => readClassMap bs
  | _ => none

/-! ## The length test and the fields of a payload (10.2 to 10.4, R197) -/

/-- The bytes of a SET item's value; none where the code names no SET item. -/
def setValueSize (item : Nat) : Option Nat :=
  if item = 0 then none
  else if item ≤ 17 then some 2
  else if item ≤ 21 then some 1
  else if item = 22 then some 2
  else if item = 23 then some 1
  else if item ≤ 25 then some 0
  else none

/-- The bytes of a QUERY item's key; none where the code names no QUERY item. -/
def queryKeySize (item : Nat) : Option Nat :=
  if item = 20 then some 2
  else if isTableItem item then some 2
  else if item < 48 then none
  else if item ≤ 50 then some 0
  else if item = 61 || item = 62 then some 0
  else if item ≤ 64 then some 2
  else if item = 65 then some 4
  else none

/-- What a good taken packet is: one for the parse FIFO, a PICTURE, or an ENUMERATE. -/
inductive Decoded where
  | fifo (p : Packet)
  | picture (p : Picture)
  | enumerate (field : Nat)
deriving DecidableEq, Repr

/-- A LISTING payload. -/
def readListing : List Byte → Option Packet
  | [slot, i1, i0, aud, title, s2, s1, s0, r1, r0, fmt, rating, sub, b1, b0, bc, sc, np, c1, c0, d1, d0, k1, k0] =>
    some (.listing
      { slot := slot.toNat, id := num2 i1 i0, auditorium := aud.toNat, title := title.toNat
        start := num3 s2 s1 s0, runtime := num2 r1 r0, format := fmt.toNat, rating := rating.toNat
        subtitled := sub.toNat, boardLead := num2 b1 b0, boardingClass := bc.toNat, soldoutClass := sc.toNat
        noticePanels := np.toNat, capacity := num2 c1 c0, sold := num2 d1 d0, blocked := num2 k1 k0 })
  | _ => none

/-- A RAISE payload, walked along its line count and glyph counts. -/
def readRaise : List Byte → Option Packet
  | e :: c :: p1 :: p0 :: l1 :: l0 :: n :: bs =>
    match readRuns n.toNat bs with
    | some (ls, []) => some (.raise ⟨e.toNat, c.toNat, num2 p1 p0, num2 l1 l0, ls⟩)
    | _ => none
  | _ => none

/-- A SET payload: item, key and a value of the item's size; any length where the code names no item. -/
def readSet : List Byte → Option Packet
  | i1 :: i0 :: k1 :: k0 :: v =>
    match setValueSize (num2 i1 i0) with
    | some n => if v.length = n then some (.set (num2 i1 i0) (num2 k1 k0) v) else none
    | none => some (.set (num2 i1 i0) (num2 k1 k0) v)
  | _ => none

/-- A TABLE payload: item, index and a body that ends where its counts say; any length where the code
names no item. -/
def readTable : List Byte → Option Packet
  | i1 :: i0 :: k1 :: k0 :: b =>
    if isTableItem (num2 i1 i0) && (readBody (num2 i1 i0) b).isNone then none
    else some (.table (num2 i1 i0) (num2 k1 k0) b)
  | _ => none

/-- A QUERY payload: item and a key of the item's size; any length where the code names no item. -/
def readQuery : List Byte → Option Packet
  | i1 :: i0 :: k =>
    match queryKeySize (num2 i1 i0) with
    | some n => if k.length = n then some (.query (num2 i1 i0) k) else none
    | none => some (.query (num2 i1 i0) k)
  | _ => none

/-- A PICTURE payload of 6 to 1,024 bytes. -/
def readPicture : List Byte → Option Picture
  | p :: w :: t1 :: t0 :: n :: d :: ds =>
    if ds.length ≤ 1018 then some ⟨p.toNat, w.toNat, num2 t1 t0, n.toNat, d :: ds⟩ else none
  | _ => none

/-- The packet of a kind with a payload; none for an unknown kind or a wrong length (R174, R197). -/
def decodePayload (kind : Nat) (bs : List Byte) : Option Decoded :=
  match kind, bs with
  | 1, bs => (readPicture bs).map .picture
  | 2, bs => (readListing bs).map .fifo
  | 3, [a, b] => some (.fifo (.cancel (num2 a b)))
  | 4, [a, b] => some (.fifo (.remove (num2 a b)))
  | 5, [a, b, c, d, e, f] => some (.fifo (.tally (num2 a b) (num2 c d) (num2 e f)))
  | 6, [a, b, c, d, e, f, g] => some (.fifo (.hold a.toNat b.toNat (num2 c d) e.toNat (num2 f g)))
  | 7, [a, b, c, d, e, f] => some (.fifo (.release a.toNat b.toNat (num2 c d) e.toNat f.toNat))
  | 8, [a, b] => some (.fifo (.desk a.toNat b.toNat))
  | 9, bs => (readRaise bs).map .fifo
  | 10, [a] => some (.fifo (.withdraw a.toNat))
  | 11, [a, b] => some (.fifo (.force a.toNat b.toNat))
  | 12, [a] => some (.fifo (.lobby a.toNat))
  | 13, [a, b, c] => some (.fifo (.time (num3 a b c)))
  | 14, bs => (readSet bs).map .fifo
  | 15, bs => (readTable bs).map .fifo
  | 16, bs => (readQuery bs).map .fifo
  | 17, [a] => some (.enumerate a.toNat)
  | 18, [a] => some (.fifo (.reset a.toNat))
  | _, _ => none

/-! ## Packets as bytes -/

/-- The payload of a packet (10.3, 10.4). -/
def encodePayload : Packet → List Byte
  | .listing f =>
    put1 f.slot ++ put2 f.id ++ put1 f.auditorium ++ put1 f.title ++ put3 f.start ++ put2 f.runtime ++ put1 f.format
      ++ put1 f.rating ++ put1 f.subtitled ++ put2 f.boardLead ++ put1 f.boardingClass ++ put1 f.soldoutClass
      ++ put1 f.noticePanels ++ put2 f.capacity ++ put2 f.sold ++ put2 f.blocked
  | .cancel id => put2 id
  | .remove id => put2 id
  | .tally id sold blocked => put2 id ++ put2 sold ++ put2 blocked
  | .hold desk tag id seats period => put1 desk ++ put1 tag ++ put2 id ++ put1 seats ++ put2 period
  | .release desk tag id seats convert => put1 desk ++ put1 tag ++ put2 id ++ put1 seats ++ put1 convert
  | .desk d op => put1 d ++ put1 op
  | .raise f =>
    put1 f.entry ++ put1 f.cls ++ put2 f.panels ++ put2 f.lifetime ++ put1 f.lines.length ++ (f.lines.map putRun).flatten
  | .withdraw e => put1 e
  | .force e p => put1 e ++ put1 p
  | .lobby m => put1 m
  | .time v => put3 v
  | .set item key v => put2 item ++ put2 key ++ v
  | .table item index b => put2 item ++ put2 index ++ b
  | .query item k => put2 item ++ k
  | .reset t => put1 t

/-- The payload of a PICTURE packet. -/
def encodePicture (f : Picture) : List Byte :=
  put1 f.panel ++ put1 f.window ++ put2 f.tag ++ put1 f.segment ++ f.data

/-- A packet as the bytes between SOP and EOP: header, payload, check (R196, 10.2). -/
def packetBytes (kind destination : Nat) (payload : List Byte) : List Byte :=
  let body := put1 kind ++ put1 destination ++ put2 payload.length ++ payload
  body ++ checkBytes body

/-- What the tests of R170 find in the bytes between SOP and EOP. -/
inductive Framed where
  | formatFailure
  | checkFailure
  | good (kind destination : Nat) (payload : List Byte)
deriving DecidableEq, Repr

/-- The format test, then the check test (R170). -/
def testFrame : List Byte → Framed
  | k :: d :: n1 :: n0 :: rest =>
    if 1024 < num2 n1 n0 || rest.length != num2 n1 n0 + 2 then .formatFailure
    else
      let payload := rest.take (num2 n1 n0)
      if rest.drop (num2 n1 n0) = checkBytes (k :: d :: n1 :: n0 :: payload) then .good k.toNat d.toNat payload
      else .checkFailure
  | _ => .formatFailure

end Sys2Proof
end

