-- ==== Sys2Proof/Machine/State.lean ====
section
/-! DEFINITION. Everything the spec gives the machine to hold, as plain data, block by block, with the
requests in flight between the blocks, the queue of commands, and the state after reset. -/

namespace Sys2Proof.Machine

/-! ## Cells and grids -/

/-- A cell of a grid, a tile or a layout's background (R100, R150). -/
structure Cell where
  glyph : Nat
  ink : Nat
  paper : Nat
  transparent : Bool
  blink : Bool
  underline : Bool
deriving DecidableEq, Repr

/-- Glyph 32, ink 0, paper 0, all flags clear (R150). -/
def Cell.blank : Cell := ⟨32, 0, 0, false, false, false⟩

/-- A grid of 36 rows x 64 columns: (row x 64 + column, cell) pairs with addresses strictly rising and
no entry equal to the blank cell, which an unlisted address reads as (R150, R169). -/
abbrev Grid := List (Nat × Cell)

/-! ## LCK: the lobby clock (1.1) -/

/-- The lobby clock. -/
structure Lck where
  clock : Nat
  held : Bool
  /-- The model's own: the hold is reached and its CLOCK_HELD event is still to be posted (log 5). -/
  holdDue : Bool
deriving DecidableEq, Repr

/-! ## SCH: showings, titles, schedule list, rosters (1.2 to 1.8) -/

/-- Lifecycle state of a showing slot, in the order of R7. `opened` is OPEN. -/
inductive ShowState where
  | empty | listed | opened | boarding | running | ended | cancelled
deriving DecidableEq, Repr

/-- Presentation format, in the order of R7. -/
inductive Format where
  | twoD | threeD | large | large3D
deriving DecidableEq, Repr

/-- The schedule fields of a showing record (R7). Panel sets are masks, panel n at weight 2^n. -/
structure Showing where
  state : ShowState
  id : Option Nat
  auditorium : Option Nat
  title : Option (Fin 64)
  start : Nat
  runtime : Nat
  format : Format
  rating : Fin 16
  subtitled : Bool
  boardLead : Nat
  boardingClass : Option (Fin 12)
  soldoutClass : Option (Fin 12)
  noticePanels : BitVec 8
  autoEntry : Option (Fin 24)
deriving DecidableEq, Repr

/-- Every schedule field at its EMPTY value (R7). -/
def Showing.empty : Showing :=
  ⟨.empty, none, none, none, 0, 0, .twoD, 0, false, 0, none, none, 0#8, none⟩

/-- A title table entry (R8). -/
structure Title where
  long : List Nat
  short : List Nat
  hint : Option (Fin 2)
deriving DecidableEq, Repr

/-- The empty title entry (R8). -/
def Title.empty : Title := ⟨[], [], none⟩

/-- Kinds of schedule entry, in the order of R15. -/
inductive EntryKind where
  | openAt | windowAt | minuteAt | boardAt | startAt | endAt | reapAt
deriving DecidableEq, Repr

/-- An entry of the schedule list (R15). -/
structure SchedEntry where
  slot : Fin 96
  due : Nat
  kind : EntryKind
deriving DecidableEq, Repr

/-- The Showing Schedule. -/
structure Sch where
  showings : Tab 96 Showing
  titles : Tab 64 Title
  list : List SchedEntry
  rosters : Tab 8 (List (Fin 96))
  listLead : Nat
  countdownWindow : Nat
  boardLead : Nat
  lateWindow : Nat
  /-- The model's own: (clock value, packet kind), clock values rising: an entry due at d was reached by
  the kind of the first pair whose value is at or above d (log 7). -/
  causes : List (Nat × Nat)
deriving DecidableEq, Repr

/-! ## SLG: ledger, holds, desks (chapter 2) -/

/-- Figure cases in the order of R56. -/
inductive FigureCase where
  | stateShown | askAtDesk | soldOut | fullCheckBack | goodAvailability | exact | rounded
deriving DecidableEq, Repr

/-- The figure key (R59). -/
structure FigureKey where
  figure : FigureCase
  shown : Nat
  badge : Bool
deriving DecidableEq, Repr

/-- The ledger fields of a showing record (R27), under the names the rule gives them. -/
structure Ledger where
  C : Nat
  S : Nat
  B : Nat
  P : Nat
  H : Nat
  A : Nat
  stamp : Nat
  stale : Bool
  oversold : Bool
  soldout : Bool
  key : Option FigureKey
deriving DecidableEq, Repr

/-- Every ledger field at its EMPTY value (R27). -/
def Ledger.empty : Ledger := ⟨0, 0, 0, 0, 0, 0, 0, false, false, false, none⟩

/-- A LIVE hold entry (R37). -/
structure Hold where
  desk : Fin 16
  tag : Nat
  slot : Fin 96
  seats : Nat
  remaining : Nat
deriving DecidableEq, Repr

/-- Desk states in the order of R45. `opened` is OPEN. -/
inductive DeskState where
  | closed | opened | silent
deriving DecidableEq, Repr

/-- A desk entry (R45). -/
structure Desk where
  state : DeskState
  gap : Nat
  lastGap : Nat
  measuring : Bool
  lateReleases : Nat
  owned : Nat
deriving DecidableEq, Repr

/-- A desk after a reset (R53). -/
def Desk.closed : Desk := ⟨.closed, 0, 0, false, 0, 0⟩

/-- The model's own: the next step of R50 for the seconds pulse that the SLG is handling (log 4). -/
inductive PulseStage where
  | idle | ages | desks
deriving DecidableEq, Repr

/-- The Seat Ledger. -/
structure Slg where
  ledger : Tab 96 Ledger
  holds : Tab 64 (Option Hold)
  desks : Tab 16 Desk
  holdPeriod : Nat
  silenceLimit : Nat
  staleLimit : Nat
  exactLimit : Nat
  step : Nat
  plentyLimit : Nat
  fastPct : Nat
  soldoutLifetime : Nat
  stage : PulseStage
  /-- The model's own: showings that step 4 of R50 must recompute (log 4). -/
  touched : Tab 96 Bool
deriving DecidableEq, Repr

/-! ## NTC: notices and panel views (chapter 4) -/

/-- The content of a notice: the text lines a RAISE carried, or a template or none (R70). -/
inductive Content where
  | lines (l : List (List Nat))
  | template (t : Option (Fin 8))
deriving DecidableEq, Repr

/-- A LIVE notice entry (R70); `origin` none is HEAD. -/
structure Notice where
  cls : Fin 12
  origin : Option (Fin 96)
  panels : BitVec 8
  lifetime : Nat
  linked : Option (Fin 96)
  content : Content
deriving DecidableEq, Repr

/-- A view: BASE is none, a notice entry is some (R72). -/
abbrev View := Option (Fin 24)

/-- A waiting notice and its forced mark (R73, R83). -/
structure Waiting where
  entry : Fin 24
  forced : Bool
deriving DecidableEq, Repr

/-- A context of a save stack (R74). -/
structure Context where
  view : View
  layout : Fin 16
  cursors : Tab 8 Nat
deriving DecidableEq, Repr

/-- The notice state of one panel (R72). The save stack is listed from the top down. Class masks have
class n at weight 2^n. -/
structure NtcPanel where
  waiting : List Waiting
  view : View
  stack : List Context
  enableMask : BitVec 12
  closedMask : BitVec 12
  hold : Bool
  map : Tab 12 (Fin 16)
  /-- Whether the last report of R155 said LIVE (R97, log 9). -/
  live : Bool
deriving DecidableEq, Repr

/-- A panel's notice state after a pin reset (R72; not LIVE: log 9). -/
def NtcPanel.reset : NtcPanel := ⟨[], none, [], 0xFFF#12, 1#12, false, Tab.fill 12 1, false⟩

/-- The Notice Controller. -/
structure Ntc where
  entries : Tab 24 (Option Notice)
  /-- The raise sequence, oldest raise first (R71). -/
  sequence : List (Fin 24)
  panels : Tab 8 NtcPanel
  lobbyOpen : Bool
deriving DecidableEq, Repr

/-! ## CMP: layouts, views, builds (chapters 3 and 5) -/

/-- Forms of a CLOCK pane in the order of R100. -/
inductive ClockForm where
  | h24 | h12 | follow
deriving DecidableEq, Repr

/-- Pane kinds with their options, in the order of R100. -/
inductive PaneKind where
  | listing (filter : Fin 8) (style : Fin 4) (dwell : Nat)
  | trailer (window : Fin 2)
  | deskStrip (ink paper : Nat)
  | clock (form : ClockForm) (ink paper : Nat)
  | noticeText (ink paper : Nat)
  | text (phrase : Fin 48) (ink paper : Nat)
deriving DecidableEq, Repr

/-- A pane of a layout (R100). -/
structure Pane where
  kind : PaneKind
  top : Nat
  left : Nat
  height : Nat
  width : Nat
deriving DecidableEq, Repr

/-- A layout: a background cell and 0 to 8 panes (R100). -/
structure Layout where
  background : Cell
  panes : List Pane
deriving DecidableEq, Repr

/-- A filter (R104): states OPEN, BOARDING, RUNNING, CANCELLED at weights 1, 2, 4, 8; auditorium n at
weight 2^n. -/
structure Filter where
  states : BitVec 4
  auditoriums : BitVec 32
  maxLines : Nat
deriving DecidableEq, Repr

/-- The field kinds of a line style, in the order of R64. -/
inductive FieldKind where
  | time | titleLong | titleShort | auditorium | format | rating | subtitle | seats | badge | state
deriving DecidableEq, Repr

/-- Alignments in the order of R64. -/
inductive Alignment where
  | left | right | natural
deriving DecidableEq, Repr

/-- A field of a line style (R64). -/
structure StyleField where
  kind : FieldKind
  start : Nat
  width : Nat
  ink : Nat
  paper : Nat
  alignment : Alignment
  blink : Bool
  underline : Bool
deriving DecidableEq, Repr

/-- A line style (R64). -/
structure Style where
  baseInk : Nat
  basePaper : Nat
  fields : List StyleField
deriving DecidableEq, Repr

/-- An item of a template line (R67). -/
inductive TemplateItem where
  | phrase (p : Fin 48)
  | field (k : FieldKind)
deriving DecidableEq, Repr

/-- The class map entry of one class: boarding template and sold-out template (R67). -/
structure ClassTemplates where
  boarding : Option (Fin 8)
  soldout : Option (Fin 8)
deriving DecidableEq, Repr

/-- The model's own: what an issued row job of a LISTING pane was made from (R102, R107, log 19). `tile` is the showing slot whose line was
looked up, with the purges of it that the TST had taken, none for a row without a showing; `roster` is the roster that the CMP read. -/
structure IssuedRow where
  tile : Option (Fin 96 × Nat)
  roster : List (Fin 96)
deriving DecidableEq, Repr

/-- What the CMP keeps for a pane of a current view (R107 to R109). -/
structure PaneState where
  dirty : Bool
  issueRow : Nat
  cursor : Nat
  dwell : Nat
  /-- The model's own: the row jobs issued since the pane was last marked, where it is a LISTING pane (log 19). -/
  issued : List IssuedRow
deriving DecidableEq, Repr

/-- A pane state with nothing dirty and everything 0 (R118). -/
def PaneState.clean : PaneState := ⟨false, 0, 0, 0, []⟩

/-- The two lanes of a channel (R130). -/
inductive Lane where
  | normal | announce
deriving DecidableEq, Repr

/-- Build states in the order of R115. -/
inductive BuildState where
  | clean | dirty | building | ready | syncing
deriving DecidableEq, Repr

/-- Why a panel's issue is stalled (R112, R113); `queueFull` names the lane of its channel. -/
inductive Stall where
  | queueFull (lane : Lane)
  | noTile
deriving DecidableEq, Repr

/-- The composition state of one panel (R105, R109 to R116). -/
structure CmpPanel where
  baseLayout : Fin 16
  columns : Nat
  rows : Nat
  rate : Nat
  /-- Whether the last report of R155 said LIVE (R111, log 9). -/
  live : Bool
  view : View
  cls : Option (Fin 12)
  layout : Fin 16
  lane : Lane
  backgroundDue : Bool
  panes : Tab 8 PaneState
  outstanding : List Nat
  stall : Option Stall
  build : BuildState
  /-- SYNCING with its COPY not yet issued (R112, R116). -/
  copyDue : Bool
  shown : Option (Fin 16)
  /-- The job number counter: the number given last (R112, R118, log 11). -/
  jobNumber : Nat
deriving DecidableEq, Repr

/-- A panel's composition state after a pin reset (R105, R118). -/
def CmpPanel.reset : CmpPanel :=
  ⟨0, Config.columns, Config.rows, Config.rate, false, none, none, 0, .normal, false,
    Tab.fill 8 PaneState.clean, [], none, .clean, false, none, 0⟩

/-- The Composition Unit. -/
structure Cmp where
  layouts : Tab 16 Layout
  filters : Tab 8 Filter
  styles : Tab 4 Style
  phrases : Tab 48 (List Nat)
  templates : Tab 8 (List (List TemplateItem))
  classMap : Tab 12 ClassTemplates
  /-- clock_format: true is 12-hour (R60). -/
  twelveHour : Bool
  panels : Tab 8 CmpPanel
deriving DecidableEq, Repr

/-! ## TST: the tile store (chapter 6) -/

/-- Tile slot states in the order of R119. -/
inductive TileState where
  | free | valid | purging
deriving DecidableEq, Repr

/-- A tile slot (R119); the key is (showing slot, line style). -/
structure Tile where
  state : TileState
  key : Option (Fin 96 × Fin 4)
  cells : List Cell
  pins : Nat
  fmt : Nat
deriving DecidableEq, Repr

/-- A tile reference: tile slot and format number (R123). -/
structure TileRef where
  slot : Fin 96
  fmt : Nat
deriving DecidableEq, Repr

/-- The Tile Store. -/
structure Tst where
  slots : Tab 96 Tile
  /-- VALID slots, least recently used first (R120). -/
  useList : List (Fin 96)
  hits : Nat
  formats : Nat
  replacements : Nat
  noTile : Nat
  purges : Nat
  /-- The model's own: the purges of each showing slot that the TST has taken since the pin reset (log 19). -/
  purged : Tab 96 Nat
deriving DecidableEq, Repr

/-! ## BLC: the blit channels (chapter 7) -/

/-- Where a job's cells come from, with the source's detail, in the order of R130. -/
inductive Source where
  | fill (cell : Cell)
  | tile (ref : TileRef)
  | text (phrase : Fin 48) (ink paper : Nat)
  | notice (entry : Fin 24) (line : Nat) (ink paper : Nat)
  | desk (ink paper : Nat)
  | clock (form : ClockForm) (ink paper : Nat)
  | copy
deriving DecidableEq, Repr

/-- A job (R130). `span` none is ROW; some k is GRID with k columns. -/
structure Job where
  panel : Fin 8
  number : Nat
  lane : Lane
  source : Source
  span : Option Nat
  row : Nat
  column : Nat
  count : Nat
  done : Nat
  line : Option (List Cell)
deriving DecidableEq, Repr

/-- Channel states in the order of R133. -/
inductive ChanState where
  | idle | active | stopped | fault
deriving DecidableEq, Repr

/-- Port phases of a channel in the order of R133. -/
inductive PortPhase where
  | none | requesting | writing
deriving DecidableEq, Repr

/-- Why a unit failed (R137), in the order of 10.5. -/
inductive FaultReason where
  | outOfGrid | noSource
deriving DecidableEq, Repr

/-- The fault record of a channel with its cleared mark (R133, R146). -/
structure FaultRecord where
  reason : FaultReason
  panel : Fin 8
  number : Nat
  cleared : Bool
deriving DecidableEq, Repr

/-- The counts of a channel (R148). -/
structure ChanCounts where
  units : Nat
  completed : Nat
  discarded : Nat
  abandoned : Nat
  cleared : Nat
  faults : Nat
deriving DecidableEq, Repr

/-- A blit channel (R133). Cancel pending has panel n at weight 2^n. -/
structure Channel where
  state : ChanState
  normal : List Job
  announce : List Job
  current : Option Job
  aside : Option Job
  phase : PortPhase
  cancelPending : BitVec 8
  fault : Option FaultRecord
  counts : ChanCounts
deriving DecidableEq, Repr

/-- A channel with no work, no fault and the given counts (R149). -/
def Channel.idle (c : ChanCounts) : Channel := ⟨.idle, [], [], none, none, .none, 0#8, none, c⟩

/-- A unit in writing through the grid port: its channel, its panel and its cells with their grid
addresses (R136, R137). -/
structure WritingUnit where
  channel : Fin 4
  panel : Fin 8
  cells : List (Nat × Cell)
deriving DecidableEq, Repr

/-- The four Blit Channels and their arbiter. -/
structure Blc where
  channels : Tab 4 Channel
  /-- channels_run (R142). -/
  run : Bool
  /-- arbitration: true is rotating (R143). -/
  rotating : Bool
  lastGranted : Fin 4
  /-- The unit in writing; the grid port is busy while there is one (R136). -/
  unit : Option WritingUnit
deriving DecidableEq, Repr

/-! ## PNL: the panel ports (chapter 8) -/

/-- Port modes in the order of R150. -/
inductive Mode where
  | dark | waiting | live
deriving DecidableEq, Repr

/-- Link phases in the order of R150. -/
inductive LinkPhase where
  | idle | grid | segment
deriving DecidableEq, Repr

/-- A picture segment that passed the checks of R175 (8.5). -/
structure Segment where
  window : Fin 2
  tag : Nat
  number : Nat
  data : List Byte
deriving DecidableEq, Repr

/-- A frame begun on a panel link: its header, whether it is a blank frame (R156), and whether the port has been muted while it was in
sending, so that its remaining cells are sent blank (R153). -/
structure Frame where
  number : Nat
  columns : Nat
  rows : Nat
  rate : Nat
  blank : Bool
  blanked : Bool
deriving DecidableEq, Repr

/-- A panel port (R150). The active tag is grid 1 when `activeOne`. Open windows have window n at
weight 2^n. -/
structure Port where
  enable : Bool
  mode : Mode
  level : Bool
  presence : Nat
  grid0 : Grid
  grid1 : Grid
  activeOne : Bool
  columns : Nat
  rows : Nat
  geometryPending : Option (Nat × Nat)
  rate : Nat
  ratePending : Option Nat
  mute : Bool
  swapHold : Bool
  windows : BitVec 2
  buffer : List Segment
  phase : LinkPhase
  frameNumber : Nat
  dropped : Nat
  gated : Nat
  /-- The frame whose grid part is being sent (phase GRID). -/
  frame : Option Frame
  /-- A frame whose grid part follows the segment in sending (R157). -/
  frameWaiting : Option Frame
  /-- The segment being sent (phase SEGMENT). -/
  segment : Option Segment
deriving DecidableEq, Repr

/-- A port after a pin reset, with the level of its presence line (R169). -/
def Port.reset (level : Bool) : Port :=
  ⟨true, .waiting, level, 0, [], [], false, Config.columns, Config.rows, none, Config.rate, none, true, false,
    0#2, [], .idle, 0, 0, 0, none, none, none⟩

/-! ## TIF: the trunk interface (chapter 9) -/

/-- Refusal reasons in the order of 10.5. -/
inductive Reason where
  | badField | badItem | unknownShowing | duplicateId | slotBusy | tooLate | notOnSale | deskNotOpen
  | holdTableFull | autoPoolFull | classShown | classChange | inUse | busy
deriving DecidableEq, Repr

/-- Event kinds in the order of 10.5. -/
inductive EventKind where
  | refused | oversold | stale | deskSilent | panelLost | panelBack | channelFault | clockHeld
deriving DecidableEq, Repr

/-- An event record (R186). -/
structure Event where
  kind : EventKind
  subject : Nat
  detail : List Nat
  stamp : Nat
deriving DecidableEq, Repr

/-- A taken packet in the parse FIFO with its recorded clock (R174, R176). -/
structure Taken where
  packet : Packet
  clock : Nat
deriving DecidableEq, Repr

/-- A taken PICTURE on its way to its port, with its recorded clock (R174, R175). -/
structure TakenPicture where
  picture : Picture
  clock : Nat
deriving DecidableEq, Repr

/-- A query reply: item code, key bytes and body (R199). -/
structure Reply where
  item : Nat
  key : List Byte
  body : List Byte
deriving DecidableEq, Repr

/-- The reply slot in the order of R184. -/
inductive ReplySlot where
  | empty
  | reserved
  | full (r : Reply)
deriving DecidableEq, Repr

/-- A read outstanding at the owner of a QUERY item (R184). -/
structure Read where
  item : Nat
  key : List Byte
deriving DecidableEq, Repr

/-- The six link fault flags (R192). -/
structure LinkFlags where
  checkFail : Bool
  formatFail : Bool
  badKind : Bool
  ingressOverrun : Bool
  pictureDrop : Bool
  reportDrop : Bool
deriving DecidableEq, Repr

/-- All six flags clear. -/
def LinkFlags.clear : LinkFlags := ⟨false, false, false, false, false, false⟩

/-- The eight counts (R193). -/
structure LinkCounts where
  received : Nat
  taken : Nat
  forwarded : Nat
  checkFailures : Nat
  formatFailures : Nat
  badKinds : Nat
  overruns : Nat
  pictureDrops : Nat
deriving DecidableEq, Repr

/-- All eight counts 0. -/
def LinkCounts.zero : LinkCounts := ⟨0, 0, 0, 0, 0, 0, 0, 0⟩

/-- A RESET in delivery: whether it is RESET ALL, and the blocks that have not yet taken it (R178). -/
structure Resetting where
  all : Bool
  waiting : List Block
deriving DecidableEq, Repr

/-- A taken ENUMERATE on the forward path (R173): destination, position field, and its bytes as received. -/
structure Enumerating where
  destination : Nat
  field : Nat
  bytes : List Byte
deriving DecidableEq, Repr

/-- The Trunk Interface. -/
structure Tif where
  position : Nat
  fifo : List Taken
  slot : ReplySlot
  read : Option Read
  events : List Event
  dropped : Nat
  flags : LinkFlags
  counts : LinkCounts
  passBuffer : Option (List Byte)
  /-- The last granted source of RET_OUT: true is OWN, false is PASS (R189). -/
  lastOwn : Bool
  /-- The REPORT in sending on RET_OUT (R191). -/
  retOut : Option (List Byte)
  /-- The packet sent last on trunk-out (R172, log 20). -/
  trunkOut : Option (List Byte)
  upstreamReady : Bool
  resetting : Option Resetting
  enumerating : Option Enumerating
  pictures : List TakenPicture
deriving DecidableEq, Repr

/-- The Trunk Interface after a pin reset (R194). -/
def Tif.reset : Tif :=
  ⟨0, [], .empty, none, [], 0, .clear, .zero, none, false, none, none, false, none, none, []⟩

/-! ## Requests in flight -/

/-- A request with the number of RESETs its sender had taken when it sent it (R178, log 8). -/
structure Mail (α : Type) where
  epoch : Nat
  body : α
deriving DecidableEq, Repr

/-- An auto raise (R80). `boarding` tells the two origins apart; `id` is the showing id of the slot. -/
structure AutoRaise where
  cls : Fin 12
  slot : Fin 96
  id : Option Nat
  panels : BitVec 8
  lifetime : Nat
  template : Option (Fin 8)
  cause : Nat
  boarding : Bool
deriving DecidableEq, Repr

/-- What the SCH sends the SLG (R23). `fresh` marks a new listing; `cause` is the cause kind of R36. -/
inductive ToSlg where
  | listingTally (slot : Fin 96) (capacity sold blocked stamp : Nat) (fresh : Bool)
  | stateChange (slot : Fin 96) (state : ShowState) (cause : Nat)
deriving DecidableEq, Repr

/-- What the SCH sends the NTC (R23). -/
inductive ToNtc where
  | autoRaise (r : AutoRaise)
  | saleEnd (slot : Fin 96)
deriving DecidableEq, Repr

/-- What the NTC sends the SCH (R22, R80). -/
inductive ToSch where
  | raiseReport (slot : Fin 96) (id : Option Nat) (entry : Option (Fin 24))
  | autoFree (entry : Fin 24) (slot : Fin 96)
deriving DecidableEq, Repr

/-- A view change (R75): for an entry its class and layout; for BASE none of them. -/
structure ViewChange where
  panel : Fin 8
  view : View
  cls : Option (Fin 12)
  layout : Option (Fin 16)
  cursors : Tab 8 Nat
deriving DecidableEq, Repr

/-- What the NTC sends the CMP (R75, R78). -/
inductive ToCmp where
  | view (v : ViewChange)
  | content (panel : Fin 8)
deriving DecidableEq, Repr

/-- What the TST sends the CMP (R124, R125). -/
inductive FromTst where
  | purged (slot : Fin 96)
  | unpinned
deriving DecidableEq, Repr

/-- What the CMP sends a channel (R112, R141). -/
inductive ToChannel where
  | job (j : Job)
  | cancel (panel : Fin 8)
deriving DecidableEq, Repr

/-- What a channel reports to the CMP (R140). -/
inductive FromChannel where
  | completed (panel : Fin 8) (number : Nat)
  | discarded (panel : Fin 8) (number : Nat)
  | abandoned (panel : Fin 8) (number : Nat)
  | cleared (panel : Fin 8) (number : Nat)
  | room (lane : Lane)
deriving DecidableEq, Repr

/-- What the CMP sends a port (R116, R169); `epoch` counts the RESETs the port had taken at the swap or the cleared report that this
answers (log 8). -/
inductive ToPort where
  | windows (epoch : Nat) (w : BitVec 2)
  | cleared (epoch : Nat)
deriving DecidableEq, Repr

/-- What a port sends the CMP (R155, R162, R169): a report of R155 names the new mode; `epoch` counts the RESETs the port had taken. -/
inductive FromPort where
  | presence (mode : Mode)
  | geometry (columns rows rate : Nat)
  | gridCleared (epoch : Nat)
deriving DecidableEq, Repr

/-- The requests in flight, one list for each pair of sender and receiver (for each channel or port where
they are independent), oldest first. -/
structure Links where
  /-- Minute boundaries on their way to the CMP (R4). -/
  minutes : Nat
  /-- Seconds pulses on their way to the SLG, the NTC, the CMP and the ports (R5). -/
  pulseSlg : Nat
  pulseNtc : Nat
  pulseCmp : Nat
  pulsePnl : Tab 8 Nat
  schSlg : List (Mail ToSlg)
  schTst : List (Mail (Fin 96))
  slgTst : List (Mail (Fin 96))
  cmpTst : List (Mail (Fin 96))
  schCmp : List (Mail (Fin 8))
  schNtc : List (Mail ToNtc)
  slgNtc : List (Mail AutoRaise)
  slgCmp : List (Mail Unit)
  ntcSch : List (Mail ToSch)
  ntcCmp : List (Mail ToCmp)
  ntcBlc : List (Fin 24)
  cmpSch : List (Fin 8)
  cmpBlc : Tab 4 (List ToChannel)
  cmpPnl : Tab 8 (List ToPort)
  tstCmp : List (Mail FromTst)
  blcCmp : Tab 4 (List FromChannel)
  blcTst : Tab 4 (List TileRef)
  pnlCmp : Tab 8 (List FromPort)
  pnlNtc : Tab 8 (List Mode)
  /-- Events posted and not yet offered to the event queue, by block (R187). -/
  posted : Tab 9 (List Event)
deriving DecidableEq, Repr

/-- No request in flight. -/
def Links.empty : Links :=
  ⟨0, 0, 0, 0, Tab.fill 8 0, [], [], [], [], [], [], [], [], [], [], [], [], Tab.fill 4 [], Tab.fill 8 [], [],
    Tab.fill 4 [], Tab.fill 4 [], Tab.fill 8 [], Tab.fill 8 [], Tab.fill 9 []⟩

/-! ## The whole part -/

/-- The machine. -/
structure State where
  lck : Lck
  sch : Sch
  slg : Slg
  ntc : Ntc
  cmp : Cmp
  tst : Tst
  blc : Blc
  ports : Tab 8 Port
  tif : Tif
  links : Links
  /-- RESETs taken by each block (the model's own, log 8). -/
  taken : Tab 9 Nat
  /-- RESET_N is low, or the power-on hold lasts (R194). -/
  inReset : Bool
  /-- The commands that are waiting, first in, first out. -/
  pending : List Instr
deriving DecidableEq, Repr

/-- Why the machine stops. The spec gives no command that stops the part: a refused packet posts an event
(R183), a malformed one sets a flag (R192), a failed unit puts its channel in FAULT (R144). So there is
no fault. -/
inductive Fault where
deriving DecidableEq, Repr

/-- Why a command has no meaning. -/
inductive Refusal where
  /-- Raised by exec for a command that is not modelled yet; safe. -/
  | notModelled (mnemonic : String)
deriving DecidableEq, Repr

/-- The SCH after a pin reset (R8, R21, R26). -/
def Sch.reset : Sch :=
  ⟨Tab.fill 96 Showing.empty, Tab.fill 64 Title.empty, [], Tab.fill 8 [], Config.listLead,
    Config.countdownWindow, Config.boardLead, Config.lateWindow, []⟩

/-- The SLG after a pin reset (R51, R53, R60). -/
def Slg.reset : Slg :=
  ⟨Tab.fill 96 Ledger.empty, Tab.fill 64 none, Tab.fill 16 Desk.closed, Config.holdPeriod, Config.silenceLimit,
    Config.staleLimit, Config.exactLimit, Config.step, Config.plentyLimit, Config.fastPct,
    Config.soldoutLifetime, .idle, Tab.fill 96 false⟩

/-- The NTC after a pin reset (R72, R84, R99). -/
def Ntc.reset : Ntc := ⟨Tab.fill 24 none, [], Tab.fill 8 NtcPanel.reset, false⟩

/-- The CMP after a pin reset (R60, R64, R66, R67, R100, R104, R105, R118). -/
def Cmp.reset : Cmp :=
  ⟨Tab.fill 16 ⟨Cell.blank, []⟩, Tab.fill 8 ⟨0#4, 0#32, 96⟩, Tab.fill 4 ⟨0, 0, []⟩, Tab.fill 48 [],
    Tab.fill 8 [], Tab.fill 12 ⟨none, none⟩, false, Tab.fill 8 CmpPanel.reset⟩

/-- The TST after a pin reset (R129). -/
def Tst.reset : Tst := ⟨Tab.fill 96 ⟨.free, none, [], 0, 0⟩, [], 0, 0, 0, 0, 0, Tab.fill 96 0⟩

/-- The Blit Channels after a pin reset (R142, R143, R149). -/
def Blc.reset : Blc := ⟨Tab.fill 4 (Channel.idle ⟨0, 0, 0, 0, 0, 0⟩), true, true, 3, none⟩

/-- The machine right after a pin reset, RESET_N high again, every presence line low, no command waiting
(R6, R26, R53, R99, R118, R129, R149, R169, R194; log 13, 14). -/
def State.reset : State :=
  ⟨⟨0, false, false⟩, .reset, .reset, .reset, .reset, .reset, .reset, Tab.fill 8 (Port.reset false), .reset, .empty,
    Tab.fill 9 0, false, []⟩

end Sys2Proof.Machine
end

