-- ==== Sys2Proof/Machine/Ops.lean ====
section
/-! DEFINITION. The named operations over the machine's state: one replacement for each part of State,
reads and writes of a grid, posting events and refusals, sending requests into the links, and what every
command passes through. -/

namespace Sys2Proof.Machine

/-! ## Replacing one part of the machine -/

/-- The machine with its `lck` replaced. -/
def State.withLck (s : State) (x : Lck) : State := { s with lck := x }

/-- The machine with its `sch` replaced. -/
def State.withSch (s : State) (x : Sch) : State := { s with sch := x }

/-- The machine with its `slg` replaced. -/
def State.withSlg (s : State) (x : Slg) : State := { s with slg := x }

/-- The machine with its `ntc` replaced. -/
def State.withNtc (s : State) (x : Ntc) : State := { s with ntc := x }

/-- The machine with its `cmp` replaced. -/
def State.withCmp (s : State) (x : Cmp) : State := { s with cmp := x }

/-- The machine with its `tst` replaced. -/
def State.withTst (s : State) (x : Tst) : State := { s with tst := x }

/-- The machine with its `blc` replaced. -/
def State.withBlc (s : State) (x : Blc) : State := { s with blc := x }

/-- The machine with its `ports` replaced. -/
def State.withPorts (s : State) (x : Tab 8 Port) : State := { s with ports := x }

/-- The machine with its `tif` replaced. -/
def State.withTif (s : State) (x : Tif) : State := { s with tif := x }

/-- The machine with its `links` replaced. -/
def State.withLinks (s : State) (x : Links) : State := { s with links := x }

/-- The machine with its `taken` replaced. -/
def State.withTaken (s : State) (x : Tab 9 Nat) : State := { s with taken := x }

/-- The machine with its `inReset` replaced. -/
def State.withInReset (s : State) (x : Bool) : State := { s with inReset := x }

/-- The machine with its `pending` replaced. -/
def State.withPending (s : State) (x : List Instr) : State := { s with pending := x }

/-! ## Codes (10.2, 10.5) -/

/-- The place of a block in the tables kept per block. -/
def blockIx : Block → Fin 9
  | .tif => 0
  | .lck => 1
  | .sch => 2
  | .slg => 3
  | .ntc => 4
  | .cmp => 5
  | .tst => 6
  | .blc => 7
  | .pnl => 8

/-- The code of a refusal reason (10.5). -/
def Reason.code : Reason → Nat
  | .badField => 1
  | .badItem => 2
  | .unknownShowing => 3
  | .duplicateId => 4
  | .slotBusy => 5
  | .tooLate => 6
  | .notOnSale => 7
  | .deskNotOpen => 8
  | .holdTableFull => 9
  | .autoPoolFull => 10
  | .classShown => 11
  | .classChange => 12
  | .inUse => 13
  | .busy => 14

/-- The code of an event kind (10.5). -/
def EventKind.code : EventKind → Nat
  | .refused => 1
  | .oversold => 2
  | .stale => 3
  | .deskSilent => 4
  | .panelLost => 5
  | .panelBack => 6
  | .channelFault => 7
  | .clockHeld => 8

/-- The code of a fault reason in a CHANNEL_FAULT detail (10.5). -/
def FaultReason.code : FaultReason → Nat
  | .outOfGrid => 1
  | .noSource => 2

/-- The members of a panel set, in panel order (panel n at weight 2^n). -/
def panelsOf (m : BitVec 8) : List (Fin 8) := (fins 8).filter fun p => m.getLsbD p.val

/-- A panel set with panel `p` added. -/
def addPanel (m : BitVec 8) (p : Fin 8) : BitVec 8 := m ||| (1#8 <<< p.val)

/-- A panel set with panel `p` taken out. -/
def dropPanel (m : BitVec 8) (p : Fin 8) : BitVec 8 := m &&& ~~~(1#8 <<< p.val)

/-! ## Grids (R150) -/

/-- The address of a grid place. -/
def gridAddress (row column : Nat) : Nat := row * Config.gridColumns + column

/-- The cell at an address; an unlisted address reads as the blank cell (log 25). -/
def Grid.read : Grid → Nat → Cell
  | [], _ => Cell.blank
  | (b, c) :: rest, a => if b = a then c else Grid.read rest a

/-- Put a cell at an address in a list with rising addresses; the blank cell removes the entry. -/
def Grid.write : Grid → Nat → Cell → Grid
  | [], a, c => if c = Cell.blank then [] else [(a, c)]
  | (b, d) :: rest, a, c =>
    if a < b then (if c = Cell.blank then (b, d) :: rest else (a, c) :: (b, d) :: rest)
    else if a = b then (if c = Cell.blank then rest else (a, c) :: rest)
    else (b, d) :: Grid.write rest a c

/-- Write a run of cells, each at its address, in order. -/
def Grid.writeAll (g : Grid) (cells : List (Nat × Cell)) : Grid :=
  cells.foldl (fun g ac => g.write ac.1 ac.2) g

/-- The canonical form: addresses strictly rising from above `low`, below the end of the grid, and no
entry equal to the blank cell. -/
def Grid.wfFrom (low : Nat) : Grid → Bool
  | [] => true
  | (a, c) :: rest =>
    decide (low ≤ a) && decide (a < Config.gridRows * Config.gridColumns) && decide (c ≠ Cell.blank)
      && Grid.wfFrom (a + 1) rest

/-- A grid in canonical form. -/
def Grid.wf (g : Grid) : Bool := Grid.wfFrom 0 g

/-- The grid whose every cell is `c`: nothing listed for the blank cell, else every place (R169). -/
def Grid.filled (c : Cell) : Grid :=
  if c = Cell.blank then [] else (List.range (Config.gridRows * Config.gridColumns)).map fun a => (a, c)

/-- The grid a port sends (R150). -/
def Port.active (p : Port) : Grid := if p.activeOne then p.grid1 else p.grid0

/-- The grid the channels write (R150). -/
def Port.shadow (p : Port) : Grid := if p.activeOne then p.grid0 else p.grid1

/-- The port with its shadow grid replaced. -/
def Port.withShadow (p : Port) (g : Grid) : Port := if p.activeOne then { p with grid0 := g } else { p with grid1 := g }

/-! ## Posting events (R183, R186, R187) -/

/-- A block sends an event record towards the event queue (R187). -/
def postRecord (b : Block) (e : Event) (s : State) : State :=
  s.withLinks { s.links with posted := s.links.posted.modify (blockIx b) fun l => l ++ [e] }

/-- A block posts an event; the stamp is the clock at posting (R186). -/
def post (b : Block) (k : EventKind) (subject : Nat) (detail : List Nat) (s : State) : State :=
  postRecord b ⟨k, subject, detail, s.lck.clock⟩ s

/-- A block refuses a packet of kind `kind`: one REFUSED event with the key as subject index, the kind
and the reason as details (R183). -/
def refuse (b : Block) (kind : Nat) (r : Reason) (key : Nat) (s : State) : State :=
  post b .refused key [kind, r.code] s

/-! ## Requests between blocks -/

/-- A request as block `b` sends it now, marked with the RESETs `b` has taken (R178). -/
def mail {α : Type} (b : Block) (s : State) (x : α) : Mail α := ⟨s.taken.get (blockIx b), x⟩

/-- Whether block `b` acts on a request: it discards one sent before its sender took a RESET that `b` has
taken (R178). -/
def isFresh {α : Type} (b : Block) (m : Mail α) (s : State) : Bool := decide (s.taken.get (blockIx b) ≤ m.epoch)

/-- A purge of a showing slot to the Tile Store (R23, R35, 6.4). -/
def sendPurge (sender : PurgeSender) (slot : Fin 96) (s : State) : State :=
  match sender with
  | .sch => s.withLinks { s.links with schTst := s.links.schTst ++ [mail .sch s slot] }
  | .slg => s.withLinks { s.links with slgTst := s.links.slgTst ++ [mail .slg s slot] }
  | .cmp => s.withLinks { s.links with cmpTst := s.links.cmpTst ++ [mail .cmp s slot] }

/-- SCH to SLG (R23). -/
def sendSlg (x : ToSlg) (s : State) : State :=
  s.withLinks { s.links with schSlg := s.links.schSlg ++ [mail .sch s x] }

/-- SCH to NTC (R23). -/
def sendNtc (x : ToNtc) (s : State) : State :=
  s.withLinks { s.links with schNtc := s.links.schNtc ++ [mail .sch s x] }

/-- A sold-out raise, SLG to NTC (R36). -/
def sendSoldOut (r : AutoRaise) (s : State) : State :=
  s.withLinks { s.links with slgNtc := s.links.slgNtc ++ [mail .slg s r] }

/-- A roster change, SCH to CMP (R25). -/
def sendRosterChange (f : Fin 8) (s : State) : State :=
  s.withLinks { s.links with schCmp := s.links.schCmp ++ [mail .sch s f] }

/-- A desk change, SLG to CMP (R46, R48, R49). -/
def sendDeskChange (s : State) : State :=
  s.withLinks { s.links with slgCmp := s.links.slgCmp ++ [mail .slg s ()] }

/-- NTC to SCH (R22, R80). -/
def sendSch (x : ToSch) (s : State) : State :=
  s.withLinks { s.links with ntcSch := s.links.ntcSch ++ [mail .ntc s x] }

/-- NTC to CMP (R75). -/
def sendCmp (x : ToCmp) (s : State) : State :=
  s.withLinks { s.links with ntcCmp := s.links.ntcCmp ++ [mail .ntc s x] }

/-- An entry-free notice, NTC to BLC (R132). -/
def sendEntryFree (e : Fin 24) (s : State) : State :=
  s.withLinks { s.links with ntcBlc := s.links.ntcBlc ++ [e] }

/-- A report of an accepted filter load, CMP to SCH (R104). -/
def sendFilterLoad (f : Fin 8) (s : State) : State :=
  s.withLinks { s.links with cmpSch := s.links.cmpSch ++ [f] }

/-- The channel that serves a panel (R112). -/
def channelOf (p : Fin 8) : Fin 4 := ⟨p.val % 4, Nat.mod_lt _ (by decide)⟩

/-- CMP to the channel that serves a panel (R112, R141). -/
def sendChannel (n : Fin 4) (x : ToChannel) (s : State) : State :=
  s.withLinks { s.links with cmpBlc := s.links.cmpBlc.modify n fun l => l ++ [x] }

/-- CMP to a port (R116, R169). -/
def sendPort (p : Fin 8) (x : ToPort) (s : State) : State :=
  s.withLinks { s.links with cmpPnl := s.links.cmpPnl.modify p fun l => l ++ [x] }

/-- TST to CMP (R124, R125). -/
def sendFromTst (x : FromTst) (s : State) : State :=
  s.withLinks { s.links with tstCmp := s.links.tstCmp ++ [mail .tst s x] }

/-- A channel's report to the CMP (R140). -/
def sendReport (n : Fin 4) (x : FromChannel) (s : State) : State :=
  s.withLinks { s.links with blcCmp := s.links.blcCmp.modify n fun l => l ++ [x] }

/-- A channel's unpin to the TST (R124, R140). -/
def sendUnpin (n : Fin 4) (r : TileRef) (s : State) : State :=
  s.withLinks { s.links with blcTst := s.links.blcTst.modify n fun l => l ++ [r] }

/-- A port's report to the CMP (R155, R162, R169). -/
def sendFromPort (p : Fin 8) (x : FromPort) (s : State) : State :=
  s.withLinks { s.links with pnlCmp := s.links.pnlCmp.modify p fun l => l ++ [x] }

/-- A port's report of R155 to the NTC, with its new mode. -/
def sendPresenceNtc (p : Fin 8) (mode : Mode) (s : State) : State :=
  s.withLinks { s.links with pnlNtc := s.links.pnlNtc.modify p fun l => l ++ [mode] }

/-! ## What every command passes through -/

/-- The outcome of a command. -/
abbrev Result := Host.Outcome State Fault Refusal

/-- A step of a block that is out of reset; while RESET_N is low nothing runs (R194, log 13). -/
def running (s : State) (f : State → State) : Result := if s.inReset then .next s else .next (f s)

/-- The oldest schedule entry is due at the present clock: the firing run of R17 is in progress. -/
def runDue (s : State) : Bool :=
  match s.sch.list with
  | [] => false
  | e :: _ => decide (e.due ≤ s.lck.clock)

/-- The kind of the packet whose handling reached clock value or due time `d`, or 0 for a seconds pulse
(R22, R183, log 7). -/
def causeOf (s : State) (d : Nat) : Nat :=
  match s.sch.causes.find? fun c => decide (d ≤ c.1) with
  | some c => c.2
  | none => 0

/-- Record that packet kind `kind` (0 for a pulse) has brought the SCH to the present clock: behind what
a run in progress already has, or anew (log 7). `busy` says whether a run was in progress before. -/
def noteCause (busy : Bool) (kind : Nat) (s : State) : State :=
  s.withSch { s.sch with causes := (if busy then s.sch.causes else []) ++ [(s.lck.clock, kind)] }

/-- Whether the port holds its panel LIVE (R150). -/
def portLive (s : State) (p : Fin 8) : Bool := (s.ports.get p).mode == .live

/-- Some channel is ACTIVE (R106, R142). -/
def anyActive (s : State) : Bool := (fins 4).any fun n => (s.blc.channels.get n).state == .active

/-- The slot of the non-EMPTY showing with an id (R7). -/
def slotOf (s : State) (id : Nat) : Option (Fin 96) :=
  (fins 96).find? fun i =>
    (s.sch.showings.get i).state != .empty && (s.sch.showings.get i).id == some id

/-- The showing id of a slot, as the SLG gives it in an event or a HOLD reply (R31, R32, R52). DESIGN CHOICE (log 31): for a slot that the
SCH has emptied, with the state change still on its way to the SLG, a free value. -/
def showingId (s : State) (slot : Fin 96) : Nat :=
  match (s.sch.showings.get slot).id with
  | some id => id
  | none => (Config.goneShowingId slot.val).toNat

/-- The slots of the non-EMPTY showings, in slot order. -/
def filledSlots (s : State) : List (Fin 96) :=
  (fins 96).filter fun i => (s.sch.showings.get i).state != .empty

/-- A RESET in delivery that block `b` has not yet taken (R178). -/
def awaitsReset (b : Block) (s : State) : Bool :=
  match s.tif.resetting with
  | none => false
  | some r => r.waiting.contains b

end Sys2Proof.Machine
end

