-- ==== Sys2Proof/Machine/Operands.lean ====
section
/-! DEFINITION. Where a delivered command finds its operands: the packet at the head of the parse FIFO, the
owner of its item, and whether that owner is ready (R177, R179, R180, R182, R184, R185). -/

namespace Sys2Proof.Machine

/-- The item codes of 10.4 that more than one place names. -/
def itemPanelGeometry : Nat := 22
def itemPanelRate : Nat := 23
def itemChannelClear : Nat := 24
def itemLinkClear : Nat := 25
def itemSetting : Nat := 65

/-- The code of a SET packet's kind, and of a QUERY's (10.2). -/
def kindSet : Nat := 14
def kindTable : Nat := 15
def kindQuery : Nat := 16

/-- The owner of a SET, TABLE or QUERY item other than SETTING (R180, R182, R185 and the query tables of the
chapters); the TIF where the code names none. -/
def itemOwner (item : Nat) : Block :=
  if item = 0 then .tif
  else if item ≤ 4 then .sch
  else if item ≤ 12 then .slg
  else if item = 13 then .cmp
  else if item ≤ 15 then .blc
  else if item ≤ 19 then .ntc
  else if item = 20 then .cmp
  else if item ≤ 23 then .pnl
  else if item = 24 then .blc
  else if item ≤ 31 then .tif
  else if item = 32 then .sch
  else if item ≤ 38 then .cmp
  else if item ≤ 49 then .tif
  else if item = 50 then .lck
  else if item ≤ 52 then .sch
  else if item ≤ 55 then .slg
  else if item ≤ 58 then .ntc
  else if item = 59 then .cmp
  else if item ≤ 61 then .tst
  else if item ≤ 63 then .blc
  else if item = 64 then .pnl
  else .tif

/-- The block that holds an outstanding read: for SETTING, the owner of the item in its key (R185). -/
def readOwner (r : Read) : Block :=
  if r.item = itemSetting then itemOwner (numAll (r.key.take 2)) else itemOwner r.item

/-- No read is outstanding at block `b`: a read reaches its owner ahead of every packet that the FIFO
delivers to it after the QUERY (R184). -/
def noRead (b : Block) (s : State) : Bool :=
  match s.tif.read with
  | none => true
  | some r => readOwner r != b

/-- The block has finished handling what it last took: for the SCH, the firing run; for the LCK, its CLOCK_HELD event and
the firing run that its TIME started; for the SLG, the pulse (R17, R50, R177, log 6). -/
def blockReady (b : Block) (s : State) : Bool :=
  match b with
  | .lck => !s.lck.holdDue && !(runDue s && s.sch.causes.any fun c => c.2 == 13)
  | .sch => !runDue s
  | .slg => s.slg.stage == .idle
  | _ => true

/-- The block can take the next packet the FIFO delivers to it (R177, R184). -/
def ready (b : Block) (s : State) : Bool := blockReady b s && noRead b s

/-- The packets in the parse FIFO. -/
def State.withFifo (s : State) (l : List Taken) : State := s.withTif { s.tif with fifo := l }

/-- Deliver the packet at the head of the FIFO to block `b`, if `pick` knows it and `b` is ready; the packet leaves the
FIFO, and `pick` gives what the block does with it and its recorded clock (R177). -/
def deliver (b : Block) (pick : Packet → Option (Nat → State → State)) (s : State) : State :=
  match s.tif.fifo with
  | [] => s
  | t :: rest =>
    match pick t.packet with
    | none => s
    | some act => if ready b s then act t.clock (s.withFifo rest) else s

/-- Deliver the packet at the head of the FIFO to the TIF itself. The TIF is ready unless a read of an item of its own is outstanding, which
it answers ahead of every packet behind the QUERY (R184). -/
def deliverTif (pick : Packet → Option (State → State)) (s : State) : State :=
  match s.tif.fifo with
  | [] => s
  | t :: rest =>
    match pick t.packet with
    | none => s
    | some act => if ready .tif s then act (s.withFifo rest) else s

/-- A SET of item `item`: its key and the number in its value. -/
def pickSet (item : Nat) (act : Nat → Nat → State → State) (p : Packet) : Option (Nat → State → State) :=
  match p with
  | .set i k v => if i = item then some fun _ => act k (numAll v) else none
  | _ => none

/-- A TABLE load of item `item`: its index and body. -/
def pickTable (item : Nat) (act : Nat → TableBody → State → State) (p : Packet) : Option (Nat → State → State) :=
  match p with
  | .table i k b =>
    if i = item then
      match readBody i b with
      | some body => some fun _ => act k body
      | none => none
    else none
  | _ => none

/-- A refused SET: kind SET, key the item code (R181, R85, R105, R151, R160). -/
def refuseSet (b : Block) (r : Reason) (item : Nat) (s : State) : State := refuse b kindSet r item s

/-- A refused TABLE: kind TABLE, key the index (R8, R64, R66, R67, R100, R104). -/
def refuseTable (b : Block) (r : Reason) (index : Nat) (s : State) : State := refuse b kindTable r index s

/-- 255 means none; another value above the range is out of range (R198). The outer none is "out of range". -/
def optIndex (n v : Nat) : Option (Option (Fin n)) :=
  if v = 255 then some none else (asFin n v).map some

/-- The 0 or 1 of a yes-or-no field (R198). -/
def yesNo (v : Nat) : Option Bool := if v = 0 then some false else if v = 1 then some true else none

/-- A cell as sent, where its values are in range (10.5, R198): ink in the upper four bits and paper in the lower. -/
def cellOf (c : RawCell) : Option Cell :=
  if c.glyph ≤ 1023 ∧ c.flags < 8 then
    some ⟨c.glyph, c.inkPaper / 16, c.inkPaper % 16, c.flags % 2 == 1, c.flags / 2 % 2 == 1, c.flags / 4 % 2 == 1⟩
  else none

/-- The four bytes of a cell in a reply or on a panel link (10.5, R199). -/
def putCell (c : Cell) : List Byte :=
  put2 c.glyph ++ put1 (c.ink * 16 + c.paper)
    ++ put1 ((if c.transparent then 1 else 0) + (if c.blink then 2 else 0) + (if c.underline then 4 else 0))

/-- Every glyph of a run is a code from 0 to 1023 (R198). -/
def glyphsOk (l : List Nat) : Bool := l.all fun g => decide (g ≤ 1023)

/-- A field kind by its code (R64, 10.4: coded 0 upward in the order of the table). -/
def fieldKindOf : Nat → Option FieldKind
  | 0 => some .time
  | 1 => some .titleLong
  | 2 => some .titleShort
  | 3 => some .auditorium
  | 4 => some .format
  | 5 => some .rating
  | 6 => some .subtitle
  | 7 => some .seats
  | 8 => some .badge
  | 9 => some .state
  | _ => none

/-- An alignment by its code (R64). -/
def alignmentOf : Nat → Option Alignment
  | 0 => some .left
  | 1 => some .right
  | 2 => some .natural
  | _ => none

/-- A presentation format by its code (10.3). -/
def formatOf : Nat → Option Format
  | 0 => some .twoD
  | 1 => some .threeD
  | 2 => some .large
  | 3 => some .large3D
  | _ => none

/-- A CLOCK pane form by its code (R100). -/
def clockFormOf : Nat → Option ClockForm
  | 0 => some .h24
  | 1 => some .h12
  | 2 => some .follow
  | _ => none

/-- An ink or paper, 0 to 15. -/
def inkOk (v : Nat) : Bool := decide (v ≤ 15)

/-- The kind and options of a pane as sent, where they are in range; the page dwell is clamped (R100). -/
def paneKindOf (p : RawPane) : Option PaneKind :=
  match p.kind with
  | 0 =>
    match asFin 8 p.o0, asFin 4 p.o1 with
    | some f, some st => some (.listing f st (clamp 4 60 p.o2))
    | _, _ => none
  | 1 => (asFin 2 p.o0).map .trailer
  | 2 => if inkOk p.o0 && inkOk p.o1 then some (.deskStrip p.o0 p.o1) else none
  | 3 =>
    match clockFormOf p.o0 with
    | some f => if inkOk p.o1 && inkOk p.o2 then some (.clock f p.o1 p.o2) else none
    | none => none
  | 4 => if inkOk p.o0 && inkOk p.o1 then some (.noticeText p.o0 p.o1) else none
  | 5 =>
    match asFin 48 p.o0 with
    | some x => if inkOk p.o1 && inkOk p.o2 then some (.text x p.o1 p.o2) else none
    | none => none
  | _ => none

/-- A pane as sent, where it is in range (R100). -/
def paneOf (p : RawPane) : Option Pane :=
  if p.top ≤ 35 ∧ p.left ≤ 63 ∧ 1 ≤ p.height ∧ p.height ≤ 36 ∧ 1 ≤ p.width ∧ p.width ≤ 64 then
    (paneKindOf p).map fun k => ⟨k, p.top, p.left, p.height, p.width⟩
  else none

/-- A style field as sent, where it is in range (R64); weight 1 of its flags is ignored (10.4). -/
def styleFieldOf (f : RawField) : Option StyleField :=
  match fieldKindOf f.kind, alignmentOf f.alignment with
  | some k, some a =>
    if f.start ≤ 63 ∧ 1 ≤ f.width ∧ f.width ≤ 64 ∧ f.ink ≤ 15 ∧ f.paper ≤ 15 ∧ f.flags < 8 then
      some ⟨k, f.start, f.width, f.ink, f.paper, a, f.flags / 2 % 2 == 1, f.flags / 4 % 2 == 1⟩
    else none
  | _, _ => none

/-- A template item as sent: type 1 a phrase, type 2 a field kind (10.4). -/
def itemOf (i : Nat × Nat) : Option TemplateItem :=
  match i.1 with
  | 1 => (asFin 48 i.2).map .phrase
  | 2 => (fieldKindOf i.2).map .field
  | _ => none

/-- `f` of every element, if it gives one for every element. -/
def allOf {α β : Type} (f : α → Option β) : List α → Option (List β)
  | [] => some []
  | a :: l =>
    match f a, allOf f l with
    | some b, some r => some (b :: r)
    | _, _ => none

end Sys2Proof.Machine
end

