-- ==== Sys2Proof/Machine/Flags.lean ====
section
/-! DEFINITION. Flags and counts: the link fault flags and counts of the TIF (R192, R193), and the seat
computation with its figure case and badge (3.1). -/

namespace Sys2Proof.Machine

/-! ## Link fault flags and counts (9.10) -/

/-- A count of the TIF, saturating at 65,535. -/
def bump (n : Nat) : Nat := satAdd Config.countTop n 1

/-- One more framed packet (R170). -/
def countReceived (t : Tif) : Tif := { t with counts := { t.counts with received := bump t.counts.received } }

/-- One more packet taken (R171). -/
def countTaken (t : Tif) : Tif := { t with counts := { t.counts with taken := bump t.counts.taken } }

/-- A packet sent on trunk-out (R172). -/
def sendForward (bytes : List Byte) (t : Tif) : Tif :=
  { t with counts := { t.counts with forwarded := bump t.counts.forwarded }, trunkOut := some bytes }

/-- A format failure (R170). -/
def flagFormatFail (t : Tif) : Tif :=
  { t with
    flags := { t.flags with formatFail := true }
    counts := { t.counts with formatFailures := bump t.counts.formatFailures } }

/-- A check failure (R170). -/
def flagCheckFail (t : Tif) : Tif :=
  { t with
    flags := { t.flags with checkFail := true }
    counts := { t.counts with checkFailures := bump t.counts.checkFailures } }

/-- A taken packet of unknown kind or wrong length (R174). -/
def flagBadKind (t : Tif) : Tif :=
  { t with
    flags := { t.flags with badKind := true }
    counts := { t.counts with badKinds := bump t.counts.badKinds } }

/-- A taken packet lost to a full parse FIFO (R176). -/
def flagOverrun (t : Tif) : Tif :=
  { t with
    flags := { t.flags with ingressOverrun := true }
    counts := { t.counts with overruns := bump t.counts.overruns } }

/-- A segment dropped at a full picture buffer (R164, R175). -/
def flagPictureDrop (t : Tif) : Tif :=
  { t with
    flags := { t.flags with pictureDrop := true }
    counts := { t.counts with pictureDrops := bump t.counts.pictureDrops } }

/-- An event discarded at a full event queue (R187); the dropped count saturates at 255. -/
def flagReportDrop (t : Tif) : Tif :=
  { t with flags := { t.flags with reportDrop := true }, dropped := satAdd 255 t.dropped 1 }

/-! ## The seat computation (3.1) -/

/-- The settings the seat computation reads (R35). -/
structure FigureSettings where
  exactLimit : Nat
  step : Nat
  plentyLimit : Nat
  fastPct : Nat
deriving DecidableEq, Repr

/-- The settings as the SLG holds them. -/
def figureSettings (g : Slg) : FigureSettings := ⟨g.exactLimit, g.step, g.plentyLimit, g.fastPct⟩

/-- Seats used U (R54). -/
def seatsUsed (l : Ledger) : Nat := l.B + l.S + l.P + l.H

/-- Seats left L (R54): C - U where U is below C, and 0 otherwise. -/
def seatsLeft (l : Ledger) : Nat := l.C - seatsUsed l

/-- Fill F (R55): floor(100 x U ÷ C), at most 100. With C 0 it is 0, which nothing shows: the badge asks for seats left (R58, log 41). -/
def seatFill (l : Ledger) : Nat := min 100 (100 * seatsUsed l / l.C)

/-- Figure case and shown number (R56, R57). -/
def figureOf (f : FigureSettings) (state : ShowState) (l : Ledger) : FigureCase × Nat :=
  if state = .running ∨ state = .cancelled then (.stateShown, 0)
  else if l.stale then (.askAtDesk, 0)
  else if seatsLeft l = 0 ∧ l.H = 0 then (.soldOut, 0)
  else if seatsLeft l = 0 then (.fullCheckBack, 0)
  else if f.plentyLimit ≤ seatsLeft l then (.goodAvailability, 0)
  else if seatsLeft l ≤ f.exactLimit then (.exact, seatsLeft l)
  else if seatsLeft l / f.step * f.step = 0 then (.exact, seatsLeft l)
  else (.rounded, seatsLeft l / f.step * f.step)

/-- The badge (R58). -/
def badgeOf (f : FigureSettings) (state : ShowState) (l : Ledger) : Bool :=
  decide (f.fastPct ≤ seatFill l) && decide (0 < seatsLeft l) && !l.stale
    && (state == .opened || state == .boarding)

/-- The figure key (R59). -/
def figureKey (f : FigureSettings) (state : ShowState) (l : Ledger) : FigureKey :=
  ⟨(figureOf f state l).1, (figureOf f state l).2, badgeOf f state l⟩

/-- The oversold condition (R31): B + S + P > C. -/
def isOversold (l : Ledger) : Bool := decide (l.C < l.B + l.S + l.P)

end Sys2Proof.Machine
end

