-- ==== Sys2Proof/Machine/Ledger.lean ====
section
/-! DEFINITION. Chapter 2: the seat ledger (SLG): tallies, oversold and stale conditions, the figure key and the sold-out
request, the hold table, the desk table, the three steps of the SLG on a seconds pulse, and its settings. -/

namespace Sys2Proof.Machine

/-! ## Reading and writing the ledger -/

/-- The ledger record of a slot replaced by `f` of it. -/
def Slg.record (g : Slg) (slot : Fin 96) (f : Ledger → Ledger) : Slg := { g with ledger := g.ledger.modify slot f }

/-- The machine with the ledger record of a slot replaced by `f` of it. -/
def setLedger (slot : Fin 96) (f : Ledger → Ledger) (s : State) : State := s.withSlg (s.slg.record slot f)

/-- The machine with a desk entry replaced by `f` of it. -/
def setDesk (d : Fin 16) (f : Desk → Desk) (s : State) : State :=
  s.withSlg { s.slg with desks := s.slg.desks.modify d f }

/-- The machine with a hold entry replaced. -/
def setHold (i : Fin 64) (h : Option Hold) (s : State) : State :=
  s.withSlg { s.slg with holds := s.slg.holds.set i h }

/-- The state of a showing as the SLG reads it (R27, log 30). -/
def stateOf (s : State) (slot : Fin 96) : ShowState := (s.sch.showings.get slot).state

/-- LISTED, OPEN, BOARDING or RUNNING: the states in which a showing is tallied, held and aged (R29, R32, R37). -/
def onSale (st : ShowState) : Bool :=
  match st with
  | .listed | .opened | .boarding | .running => true
  | _ => false

/-- A request that is the opening tally of a new listing in `slot`. -/
def isOpening (slot : Fin 96) (m : Mail ToSlg) : Bool :=
  match m.body with
  | .listingTally i _ _ _ _ true => i == slot
  | _ => false

/-- The slot of a new listing still awaits its listing tally (R28, log 30). -/
def awaitsTally (s : State) (slot : Fin 96) : Bool :=
  (s.slg.ledger.get slot).C == 0 || s.links.schSlg.any fun m => isFresh .slg m s && isOpening slot m

/-- The SLG treats a slot as holding a showing (R28). -/
def inLedger (s : State) (slot : Fin 96) : Bool := stateOf s slot != .empty && !awaitsTally s slot

/-- The slot of the showing with an id, as the SLG answers it (R28, R29, R38, R42). -/
def ledgerSlot (s : State) (id : Nat) : Option (Fin 96) := (slotOf s id).filter fun i => !awaitsTally s i

/-! ## The figure key and the sold-out request (2.4) -/

/-- The sold-out raise of a showing with its class (R36). -/
def soldOutRaise (slot : Fin 96) (cls : Fin 12) (cause : Nat) (s : State) : AutoRaise :=
  { cls := cls, slot := slot, id := (s.sch.showings.get slot).id, panels := (s.sch.showings.get slot).noticePanels
    lifetime := s.slg.soldoutLifetime, template := (s.cmp.classMap.get cls).soldout, cause := cause, boarding := false }

/-- The sold-out decision after a change of figure key to `k` (R36). -/
def soldOutDecision (st : ShowState) (slot : Fin 96) (cause : Nat) (k : FigureKey) (s : State) : State :=
  match (s.sch.showings.get slot).soldoutClass with
  | none => s
  | some cls =>
    if k.figure = .soldOut ∧ (s.sch.showings.get slot).noticePanels ≠ 0#8 ∧ (s.slg.ledger.get slot).soldout = false
        ∧ (st = .opened ∨ st = .boarding) then
      setLedger slot (fun l => { l with soldout := true }) (sendSoldOut (soldOutRaise slot cls cause s) s)
    else s

/-- Clear the soldout field where seats are left (R35). -/
def clearSoldout (l : Ledger) : Ledger := if 0 < seatsLeft l then { l with soldout := false } else l

/-- Recompute the figure key of a showing taken to be in state `st` (R35). -/
def recomputeAs (st : ShowState) (slot : Fin 96) (cause : Nat) (s : State) : State :=
  let k := figureKey (figureSettings s.slg) st (s.slg.ledger.get slot)
  setLedger slot clearSoldout
    (if (s.slg.ledger.get slot).key = some k then s
      else
        soldOutDecision st slot cause k
          (sendPurge .slg slot (setLedger slot (fun l => { l with key := some k }) s)))

/-- Recompute the figure key of a showing, if the SLG has one there (R35, R44). -/
def recompute (slot : Fin 96) (cause : Nat) (s : State) : State :=
  if inLedger s slot then recomputeAs (stateOf s slot) slot cause s else s

/-- Recompute some showings, in the order given. -/
def recomputeEach (slots : List (Fin 96)) (cause : Nat) (s : State) : State :=
  slots.foldl (fun s i => recompute i cause s) s

/-! ## Tallies (2.2) -/

/-- The oversold field takes the oversold condition, without an event (R31; a late release ends here, log 39). -/
def markOversold (slot : Fin 96) (s : State) : State := setLedger slot (fun l => { l with oversold := isOversold l }) s

/-- Evaluate the oversold condition (R31); the event's showing id is `showingId`'s (log 31). -/
def evalOversold (slot : Fin 96) (s : State) : State :=
  let l := s.slg.ledger.get slot
  if isOversold l = true ∧ l.oversold = false then
    post .slg .oversold slot.val [l.B + l.S + l.P - l.C, showingId s slot] (markOversold slot s)
  else markOversold slot s

/-- The figures of a tally written to a record (R30 steps 1 to 4), clamped to 999 (R28, R29). -/
def tallyRecord (sold blocked stamp : Nat) (l : Ledger) : Ledger :=
  { l with S := min sold 999, B := min blocked 999, P := 0, A := 0, stamp := stamp, stale := false }

/-- A tally applied (R30). -/
def applyTally (slot : Fin 96) (sold blocked stamp cause : Nat) (s : State) : State :=
  recompute slot cause (evalOversold slot (setLedger slot (tallyRecord sold blocked stamp) s))

/-- A TALLY packet at the SLG (R29). -/
def takeTally (id sold blocked stamp : Nat) (s : State) : State :=
  match ledgerSlot s id with
  | none => refuse .slg 5 .unknownShowing id s
  | some slot =>
    if onSale (stateOf s slot) then applyTally slot sold blocked stamp 5 s else refuse .slg 5 .notOnSale id s

/-- The TALLY packet. -/
def pickTally : Packet → Option (Nat → State → State)
  | .tally id sold blocked => some fun stamp => takeTally id sold blocked stamp
  | _ => none

/-- TALLY (R29). -/
def execTally (s : State) : Result := running s (deliver .slg pickTally)

/-- The key of a new listing stored without comparing (R28): the showing is LISTED at that moment. -/
def storeOpeningKey (slot : Fin 96) (s : State) : State :=
  setLedger slot (fun l => clearSoldout { l with key := some (figureKey (figureSettings s.slg) .listed l) }) s

/-- The record of a new listing before its tally (R28 step 3). -/
def openingRecord (capacity : Nat) (l : Ledger) : Ledger :=
  { l with C := capacity, P := 0, H := 0, A := 0, stale := false, oversold := false, soldout := false, key := none }

/-- A listing tally at the SLG (R28). -/
def takeListingTally (slot : Fin 96) (capacity sold blocked stamp : Nat) (fresh : Bool) (s : State) : State :=
  if fresh then
    storeOpeningKey slot (evalOversold slot
      (setLedger slot (fun l => tallyRecord sold blocked stamp (openingRecord capacity l)) s))
  else applyTally slot sold blocked stamp 2 (setLedger slot (fun l => { l with C := capacity }) s)

/-- LISTING_TALLY: the SLG takes the oldest request of the SCH, if it is a listing tally (R28, R178). -/
def doListingTally (s : State) : State :=
  match s.slg.stage, s.links.schSlg with
  | .idle, ⟨ep, .listingTally slot capacity sold blocked stamp fresh⟩ :: rest =>
    let t := s.withLinks { s.links with schSlg := rest }
    if isFresh .slg ⟨ep, ()⟩ s then takeListingTally slot capacity sold blocked stamp fresh t else t
  | _, _ => s

/-- LISTING_TALLY (R28). -/
def execListingTally (s : State) : Result := running s doListingTally

/-! ## Holds (2.5) -/

/-- The LIVE entry with a key (R37). -/
def findHold (g : Slg) (d : Fin 16) (tag : Nat) : Option (Fin 64) :=
  (fins 64).find? fun i =>
    match g.holds.get i with
    | some h => h.desk == d && h.tag == tag
    | none => false

/-- The FREE entry that a new hold takes (R39, log 22: the lowest). -/
def freeHold (g : Slg) : Option (Fin 64) := (fins 64).find? fun i => (g.holds.get i).isNone

/-- An entry becomes FREE: its seats leave H of its showing and its desk owns one less (R41, R43, R44). -/
def freeEntry (i : Fin 64) (h : Hold) (s : State) : State :=
  setDesk h.desk (fun d => { d with owned := d.owned - 1 })
    (setLedger h.slot (fun l => { l with H := l.H - h.seats }) (setHold i none s))

/-- Free entry `i` if it is LIVE and meets `p`. -/
def dropIf (p : Hold → Bool) (i : Fin 64) (s : State) : State :=
  match s.slg.holds.get i with
  | some h => if p h then freeEntry i h s else s
  | none => s

/-- Drop all the entries that meet `p` (R44). -/
def dropHolds (p : Hold → Bool) (s : State) : State := (fins 64).foldl (fun s i => dropIf p i s) s

/-- The LIVE entries that meet `p`. -/
def holdsWith (p : Hold → Bool) (g : Slg) : List Hold := (g.holds.list.filterMap id).filter p

/-- The showings that entries meeting `p` name, in slot order. -/
def slotsOfHolds (p : Hold → Bool) (g : Slg) : List (Fin 96) :=
  (fins 96).filter fun i => (holdsWith p g).any fun h => h.slot == i

/-- A contact of an OPEN desk (R47). -/
def contactDesk (d : Desk) : Desk :=
  { d with lastGap := if d.measuring then d.gap else d.lastGap, gap := 0, measuring := true }

/-- A contact (R47). -/
def contact (d : Fin 16) (s : State) : State := setDesk d contactDesk s

/-- A new hold (R39). -/
def makeHold (i : Fin 64) (h : Hold) (s : State) : State :=
  recompute h.slot 6
    (setDesk h.desk (fun d => { d with owned := d.owned + 1 })
      (setLedger h.slot (fun l => { l with H := l.H + h.seats }) (setHold i (some h) s)))

/-- An amend (R40). -/
def amendHold (i : Fin 64) (old new : Hold) (s : State) : State :=
  let t := setLedger new.slot (fun l => { l with H := l.H + new.seats })
    (setLedger old.slot (fun l => { l with H := l.H - old.seats }) (setHold i (some new) s))
  if old.slot = new.slot then recompute new.slot 6 t else recompute new.slot 6 (recompute old.slot 6 t)

/-- The period of a HOLD: clamped, or hold_period where the packet has none (R38 step 6; 10.3: 0 means absent). -/
def holdPeriodOf (g : Slg) (period : Nat) : Nat := if period = 0 then g.holdPeriod else clamp 30 1800 period

/-- Steps 7 and 8 of R38. -/
def placeHold (h : Hold) (s : State) : State :=
  match findHold s.slg h.desk h.tag with
  | some i =>
    match s.slg.holds.get i with
    | some old => amendHold i old h (contact h.desk s)
    | none => s
  | none =>
    match freeHold s.slg with
    | some i => makeHold i h (contact h.desk s)
    | none => refuse .slg 6 .holdTableFull h.desk.val s

/-- Steps 3 to 8 of R38, for an OPEN desk. -/
def holdAtDesk (d : Fin 16) (tag id seats period : Nat) (s : State) : State :=
  match ledgerSlot s id with
  | none => refuse .slg 6 .unknownShowing id s
  | some slot =>
    if onSale (stateOf s slot) = false then refuse .slg 6 .notOnSale id s
    else if seats = 0 ∨ 15 < seats then refuse .slg 6 .badField d.val s
    else placeHold ⟨d, tag, slot, seats, holdPeriodOf s.slg period⟩ s

/-- A HOLD packet at the SLG (R38). -/
def takeHold (dk tag id seats period : Nat) (s : State) : State :=
  match asFin 16 dk with
  | none => refuse .slg 6 .badField dk s
  | some d =>
    if (s.slg.desks.get d).state = .opened then holdAtDesk d tag id seats period s
    else refuse .slg 6 .deskNotOpen dk s

/-- The HOLD packet. -/
def pickHold : Packet → Option (Nat → State → State)
  | .hold dk tag id seats period => some fun _ => takeHold dk tag id seats period
  | _ => none

/-- HOLD (R38). -/
def execHold (s : State) : Result := running s (deliver .slg pickHold)

/-- Seats converted at a desk: added to P, saturating (R41, R42). -/
def convertSeats (slot : Fin 96) (seats : Nat) (s : State) : State :=
  setLedger slot (fun l => { l with P := satAdd 999 l.P seats }) s

/-- The release of a LIVE entry (R41). -/
def releaseEntry (i : Fin 64) (h : Hold) (convert : Bool) (s : State) : State :=
  let t := freeEntry i h s
  recompute h.slot 7 (if convert then evalOversold h.slot (convertSeats h.slot h.seats t) else t)

/-- A late release (R42). Its conversion brings the oversold field up to date and posts no OVERSOLD event: R42's "posts no event in any
case" is taken before R31's table. DESIGN CHOICE (log 39). -/
def lateRelease (d : Fin 16) (id seats : Nat) (convert : Bool) (s : State) : State :=
  let t := setDesk d (fun d => { d with lateReleases := satAdd 255 d.lateReleases 1 }) s
  match ledgerSlot s id with
  | none => t
  | some slot =>
    if convert = true ∧ onSale (stateOf s slot) = true then recompute slot 7 (markOversold slot (convertSeats slot seats t))
    else t

/-- An accepted RELEASE: the contact first, then the entry or a late release (R41). -/
def acceptRelease (d : Fin 16) (tag id seats : Nat) (convert : Bool) (s : State) : State :=
  let t := contact d s
  match findHold t.slg d tag with
  | some i =>
    match t.slg.holds.get i with
    | some h => releaseEntry i h convert t
    | none => t
  | none => lateRelease d id seats convert t

/-- A RELEASE packet at the SLG (R41). -/
def takeRelease (dk tag id seats convert : Nat) (s : State) : State :=
  match asFin 16 dk, yesNo convert with
  | some d, some c =>
    if seats = 0 ∨ 15 < seats then refuse .slg 7 .badField dk s
    else if (s.slg.desks.get d).state = .opened then acceptRelease d tag id seats c s
    else refuse .slg 7 .deskNotOpen dk s
  | _, _ => refuse .slg 7 .badField dk s

/-- The RELEASE packet. -/
def pickRelease : Packet → Option (Nat → State → State)
  | .release dk tag id seats convert => some fun _ => takeRelease dk tag id seats convert
  | _ => none

/-- RELEASE (R41). -/
def execRelease (s : State) : Result := running s (deliver .slg pickRelease)

/-! ## State changes (2.3) -/

/-- A state change at the SLG (R34, R44). -/
def takeStateChange (slot : Fin 96) (st : ShowState) (cause : Nat) (s : State) : State :=
  match st with
  | .empty => setLedger slot (fun _ => Ledger.empty) (dropHolds (fun h => h.slot == slot) s)
  | .ended | .cancelled => recomputeAs st slot cause (dropHolds (fun h => h.slot == slot) s)
  | _ => recomputeAs st slot cause s

/-- STATE_CHANGE: the SLG takes the oldest request of the SCH, if it is a state change (R34, R178). -/
def doStateChange (s : State) : State :=
  match s.slg.stage, s.links.schSlg with
  | .idle, ⟨ep, .stateChange slot st cause⟩ :: rest =>
    let t := s.withLinks { s.links with schSlg := rest }
    if isFresh .slg ⟨ep, ()⟩ s then takeStateChange slot st cause t else t
  | _, _ => s

/-- STATE_CHANGE (R34). -/
def execStateChange (s : State) : Result := running s doStateChange

/-! ## Desks (2.6) -/

/-- DESK OPEN at the SLG (R46). -/
def openDesk (d : Fin 16) (s : State) : State :=
  if (s.slg.desks.get d).state = .opened then s
  else sendDeskChange (setDesk d (fun k => { k with state := .opened, gap := 0, lastGap := 0, measuring := false }) s)

/-- DESK CLOSE at the SLG (R48, R44). -/
def closeDesk (d : Fin 16) (s : State) : State :=
  let shut := setDesk d (fun k => { k with state := .closed, measuring := false })
  match (s.slg.desks.get d).state with
  | .closed => s
  | .silent => sendDeskChange (shut s)
  | .opened =>
    sendDeskChange (recomputeEach (slotsOfHolds (fun h => h.desk == d) s.slg) 8
      (dropHolds (fun h => h.desk == d) (shut s)))

/-- DESK BEAT at the SLG (R47). -/
def beatDesk (d : Fin 16) (s : State) : State :=
  if (s.slg.desks.get d).state = .opened then contact d s else refuse .slg 8 .deskNotOpen d.val s

/-- A DESK packet with operation code `op` (10.3), for its desk (R45). -/
def pickDesk (op : Nat) (act : Fin 16 → State → State) : Packet → Option (Nat → State → State)
  | .desk dk o =>
    if o = op then
      some fun _ =>
        match asFin 16 dk with
        | some d => act d
        | none => refuse .slg 8 .badField dk
    else none
  | _ => none

/-- DESK_OPEN (R45, R46). -/
def execDeskOpen (s : State) : Result := running s (deliver .slg (pickDesk 1 openDesk))

/-- DESK_CLOSE (R45, R48). -/
def execDeskClose (s : State) : Result := running s (deliver .slg (pickDesk 2 closeDesk))

/-- DESK_BEAT (R45, R47). -/
def execDeskBeat (s : State) : Result := running s (deliver .slg (pickDesk 3 beatDesk))

/-- A DESK packet whose operation is none of the three (R45). -/
def pickBadOperation : Packet → Option (Nat → State → State)
  | .desk dk o => if o = 0 ∨ 3 < o then some fun _ => refuse .slg 8 .badField dk else none
  | _ => none

/-- DESK_BAD_OPERATION (R45). -/
def execDeskBadOperation (s : State) : Result := running s (deliver .slg pickBadOperation)

/-! ## The pulse (R43, R32, R49, R50) -/

/-- Mark a showing for step 4 of R50. -/
def touch (slot : Fin 96) (s : State) : State := s.withSlg { s.slg with touched := s.slg.touched.set slot true }

/-- One hold entry on a pulse (R43). -/
def countHold (i : Fin 64) (s : State) : State :=
  match s.slg.holds.get i with
  | none => s
  | some h =>
    if h.remaining ≤ 1 then touch h.slot (freeEntry i h s)
    else setHold i (some { h with remaining := h.remaining - 1 }) s

/-- HOLD_EXPIRY: the SLG takes a pulse and counts the holds down (R43, R50 step 1). A line formatted before
DESK_SILENCE shows the figure of the stored key, which is still the old one (R63). -/
def doHoldExpiry (s : State) : State :=
  if s.slg.stage = .idle ∧ 0 < s.links.pulseSlg then
    let t := (fins 64).foldl (fun s i => countHold i s)
      (s.withLinks { s.links with pulseSlg := s.links.pulseSlg - 1 })
    t.withSlg { t.slg with stage := .ages }
  else s

/-- HOLD_EXPIRY (R43). -/
def execHoldExpiry (s : State) : Result := running s doHoldExpiry

/-- A showing becomes stale, with its event (R32 steps 1 and 2). -/
def becomeStale (slot : Fin 96) (s : State) : State :=
  let t := setLedger slot (fun l => { l with stale := true }) s
  post .slg .stale slot.val [showingId s slot, (s.slg.ledger.get slot).A] t

/-- A showing that is on sale or running is due to become stale (R32). -/
def staleDue (s : State) (slot : Fin 96) : Bool :=
  onSale (stateOf s slot) && inLedger s slot && !(s.slg.ledger.get slot).stale
    && decide (s.slg.staleLimit ≤ (s.slg.ledger.get slot).A)

/-- The showings whose tally age counts (R32). -/
def agingSlots (s : State) : List (Fin 96) := (fins 96).filter fun i => onSale (stateOf s i) && inLedger s i

/-- TALLY_STALE: ages counted and the stale test (R32, R50 step 2). A line formatted before DESK_SILENCE shows the
figure of the stored key, which is still the old one (R63). -/
def doTallyStale (s : State) : State :=
  if s.slg.stage = .ages then
    let aged := (agingSlots s).foldl (fun s i => setLedger i (fun l => { l with A := satAdd 4095 l.A 1 }) s) s
    let t := (agingSlots s).foldl (fun s i => if staleDue s i then touch i (becomeStale i s) else s) aged
    t.withSlg { t.slg with stage := .desks }
  else s

/-- TALLY_STALE (R32). -/
def execTallyStale (s : State) : Result := running s doTallyStale

/-- An OPEN desk falls silent (R49). -/
def silenceDesk (d : Fin 16) (s : State) : State :=
  let gap := (s.slg.desks.get d).gap
  let own := holdsWith (fun h => h.desk == d) s.slg
  let t := dropHolds (fun h => h.desk == d)
    ((slotsOfHolds (fun h => h.desk == d) s.slg).foldl (fun s i => touch i s)
      (setDesk d (fun k => { k with state := .silent, lastGap := k.gap }) s))
  sendDeskChange (post .slg .deskSilent d.val [gap, own.length] t)

/-- The gap counter of an OPEN desk on a pulse (R49). -/
def countGap (k : Desk) : Desk := if k.state = .opened then { k with gap := satAdd 255 k.gap 1 } else k

/-- One desk tested after counting (R49). -/
def testDesk (d : Fin 16) (s : State) : State :=
  if (s.slg.desks.get d).state = .opened ∧ s.slg.silenceLimit ≤ (s.slg.desks.get d).gap then silenceDesk d s else s

/-- The showings marked for step 4 of R50, in slot order. -/
def touchedSlots (g : Slg) : List (Fin 96) := (fins 96).filter fun i => g.touched.get i

/-- DESK_SILENCE: gap counters and silence, then step 4 of R50 (R49, R50). -/
def doDeskSilence (s : State) : State :=
  if s.slg.stage = .desks then
    let t := (fins 16).foldl (fun s d => testDesk d s) (s.withSlg { s.slg with desks := s.slg.desks.map countGap })
    let u := recomputeEach (touchedSlots t.slg) 0 t
    u.withSlg { u.slg with stage := .idle, touched := Tab.fill 96 false }
  else s

/-- DESK_SILENCE (R49). -/
def execDeskSilence (s : State) : Result := running s doDeskSilence

/-! ## Settings (R51, R60) -/

/-- SET_HOLD_PERIOD (R51, R181). -/
def execSetHoldPeriod (s : State) : Result :=
  running s (deliver .slg (pickSet 5 fun _ v s => s.withSlg { s.slg with holdPeriod := clamp 30 1800 v }))

/-- SET_SILENCE_LIMIT (R51, R181). -/
def execSetSilenceLimit (s : State) : Result :=
  running s (deliver .slg (pickSet 6 fun _ v s => s.withSlg { s.slg with silenceLimit := clamp 5 250 v }))

/-- One showing tested against a stale_limit just stored (R33). -/
def testStale (slot : Fin 96) (s : State) : State :=
  if staleDue s slot then recompute slot kindSet (becomeStale slot s)
  else if (s.slg.ledger.get slot).stale = true ∧ (s.slg.ledger.get slot).A < s.slg.staleLimit then
    recompute slot kindSet (setLedger slot (fun l => { l with stale := false }) s)
  else s

/-- The showings that the SLG has, in slot order. -/
def ledgerSlots (s : State) : List (Fin 96) := (fins 96).filter fun i => inLedger s i

/-- A SET of stale_limit applied (R33). -/
def applyStaleLimit (v : Nat) (s : State) : State :=
  (ledgerSlots s).foldl (fun s i => testStale i s) (s.withSlg { s.slg with staleLimit := clamp 10 4000 v })

/-- SET_STALE_LIMIT (R33, R51, R181). -/
def execSetStaleLimit (s : State) : Result := running s (deliver .slg (pickSet 7 fun _ v => applyStaleLimit v))

/-- A setting of the seat computation stored: every showing is recomputed, in slot order (R35, R60). -/
def applyFigureSetting (store : Slg → Slg) (s : State) : State :=
  recomputeEach (ledgerSlots s) kindSet (s.withSlg (store s.slg))

/-- SET_EXACT_LIMIT (R60, R181). -/
def execSetExactLimit (s : State) : Result :=
  running s (deliver .slg (pickSet 8 fun _ v => applyFigureSetting fun g => { g with exactLimit := clamp 1 99 v }))

/-- A SET of step: refused unless 5, 10, 25 or 50 (R181). -/
def applyStep (v : Nat) (s : State) : State :=
  if v = 5 ∨ v = 10 ∨ v = 25 ∨ v = 50 then applyFigureSetting (fun g => { g with step := v }) s
  else refuseSet .slg .badField 9 s

/-- SET_STEP (R60, R181). -/
def execSetStep (s : State) : Result := running s (deliver .slg (pickSet 9 fun _ v => applyStep v))

/-- SET_PLENTY_LIMIT (R60, R181). -/
def execSetPlentyLimit (s : State) : Result :=
  running s (deliver .slg (pickSet 10 fun _ v => applyFigureSetting fun g => { g with plentyLimit := clamp 1 999 v }))

/-- SET_FAST_PCT (R60, R181). -/
def execSetFastPct (s : State) : Result :=
  running s (deliver .slg (pickSet 11 fun _ v => applyFigureSetting fun g => { g with fastPct := clamp 50 100 v }))

/-- SET_SOLDOUT_LIFETIME (R60, R181). -/
def execSetSoldoutLifetime (s : State) : Result :=
  running s (deliver .slg (pickSet 12 fun _ v s => s.withSlg { s.slg with soldoutLifetime := clamp 5 600 v }))

/-! ## Reset (R53) -/

/-- The SLG takes a RESET (R51, R53, R60). -/
def Slg.onReset (all : Bool) (g : Slg) : Slg :=
  if all then Slg.reset
  else
    { Slg.reset with
      holdPeriod := g.holdPeriod, silenceLimit := g.silenceLimit, staleLimit := g.staleLimit
      exactLimit := g.exactLimit, step := g.step, plentyLimit := g.plentyLimit, fastPct := g.fastPct
      soldoutLifetime := g.soldoutLifetime }

end Sys2Proof.Machine
end

