-- ==== Sys2Proof/Machine/Format.lean ====
section
/-! DEFINITION. Texts and lines: time and countdown texts, field texts, line styles (3.3, 3.4), the expansion of notice
templates (3.6), and the formatted lines of jobs (7.1). Every text is read from the machine at the moment of formatting. -/

namespace Sys2Proof.Machine

/-- Decimal digits of a number, as glyphs (48 to 57), by structural recursion on fuel. -/
def digitsFuel : Nat → Nat → List Nat
  | 0, _ => []
  | k + 1, n => if n < 10 then [48 + n] else digitsFuel k (n / 10) ++ [48 + n % 10]

/-- A number in digits without a leading zero. -/
def digits (n : Nat) : List Nat := digitsFuel (n + 1) n

/-- A number below 100 in two digits, with a leading zero below 10 (R61). -/
def twoDigits (n : Nat) : List Nat := [48 + n / 10 % 10, 48 + n % 10]

/-- The glyphs of a phrase (R66). -/
def phrase (s : State) (p : Fin 48) : List Nat := s.cmp.phrases.get p

/-- The time text of a time of the business day, in 12-hour or 24-hour form (R61). -/
def timeText (s : State) (twelve : Bool) (t : Nat) : List Nat :=
  let minutes := t % 3600 / 60
  let h24 := t / 3600 % 24
  if twelve then
    digits (if h24 % 12 = 0 then 12 else h24 % 12) ++ [58] ++ twoDigits minutes
      ++ (if h24 < 12 then phrase s 29 else phrase s 30)
  else twoDigits h24 ++ [58] ++ twoDigits minutes

/-- The countdown condition of R62: 0 < D ≤ countdown_window in OPEN or BOARDING. -/
def inCountdown (s : State) (sh : Showing) : Bool :=
  (sh.state == .opened || sh.state == .boarding) && decide (s.lck.clock < sh.start)
    && decide (sh.start - s.lck.clock ≤ s.sch.countdownWindow)

/-- The TIME field text (R62). -/
def timeField (s : State) (sh : Showing) : List Nat :=
  if inCountdown s sh then phrase s 27 ++ digits (ceilDiv (sh.start - s.lck.clock) 60) ++ phrase s 28
  else
    match sh.state with
    | .running => phrase s 32
    | .cancelled => phrase s 33
    | _ => timeText s s.cmp.twelveHour sh.start

/-- The figure text (R56, R57). -/
def seatsText (s : State) (k : FigureKey) : List Nat :=
  match k.figure with
  | .stateShown => []
  | .askAtDesk => phrase s 25
  | .soldOut => phrase s 22
  | .fullCheckBack => phrase s 23
  | .goodAvailability => phrase s 24
  | .exact => digits k.shown
  | .rounded => digits k.shown ++ phrase s 21

/-- The title entry of a showing (R8, R63). -/
def titleEntry (s : State) (sh : Showing) : Title :=
  match sh.title with
  | some t => s.sch.titles.get t
  | none => Title.empty

/-- The FORMAT phrase of a presentation format (R63, R66). -/
def formatPhrase : Format → Fin 48
  | .twoD => 16
  | .threeD => 17
  | .large => 18
  | .large3D => 19

/-- A rating's phrase: the phrase of the rating block with its index (R63, R66). -/
def ratingPhrase (r : Fin 16) : Fin 48 := ⟨r.val, by omega⟩

/-- The figure case, shown number and badge that a line formatted now shows: those of the stored key, which is the seat computation on the
inputs that the SLG last used (R63). A new listing has no key until its listing tally reaches the SLG: the computation is then made on the
record as it stands, with C 0, so that SEATS shows SOLD_OUT and BADGE is empty; a key that the slot's former showing left there, its EMPTY
change still on the way, is shown. DESIGN CHOICE (log 41). -/
def figureNow (s : State) (slot : Fin 96) : FigureKey :=
  let l := s.slg.ledger.get slot
  l.key.getD (figureKey (figureSettings s.slg) (s.sch.showings.get slot).state l)

/-- The field text of one field kind for a showing slot (R62, R63); empty for an EMPTY slot. -/
def fieldText (s : State) (slot : Fin 96) (k : FieldKind) : List Nat :=
  let sh := s.sch.showings.get slot
  if sh.state = .empty then []
  else
    match k with
    | .time => timeField s sh
    | .titleLong => (titleEntry s sh).long
    | .titleShort => (titleEntry s sh).short
    | .auditorium => phrase s 36 ++ digits (sh.auditorium.getD 0)
    | .format => phrase s (formatPhrase sh.format)
    | .rating => phrase s (ratingPhrase sh.rating)
    | .subtitle => if sh.subtitled then phrase s 20 else []
    | .seats => seatsText s (figureNow s slot)
    | .badge => if (figureNow s slot).badge then phrase s 26 else []
    | .state =>
      match sh.state with
      | .boarding => phrase s 31
      | .running => phrase s 32
      | .cancelled => phrase s 33
      | _ => []

/-! ## Lines (3.4) -/

/-- The text stands at the right end of its field (R64: NATURAL is RIGHT for SEATS and AUDITORIUM). -/
def alignsRight (k : FieldKind) : Alignment → Bool
  | .left => false
  | .right => true
  | .natural => k == .seats || k == .auditorium

/-- A text cut to `w` glyphs, and padded with glyph 32 to `w`, on the left under RIGHT alignment (R65 steps 2, 3). -/
def padText (w : Nat) (right : Bool) (text : List Nat) : List Nat :=
  let cut := text.take w
  let pad := List.replicate (w - cut.length) 32
  if right then pad ++ cut else cut ++ pad

/-- Cells written over a row from column `start` on; what falls beyond the row is not written (R65 step 4). -/
def overlay (row : List Cell) (start : Nat) (cells : List Cell) : List Cell :=
  row.mapIdx fun i c => if start ≤ i then cells.getD (i - start) c else c

/-- One field of a line written (R65). -/
def writeField (s : State) (slot : Fin 96) (row : List Cell) (f : StyleField) : List Cell :=
  overlay row f.start
    ((padText f.width (alignsRight f.kind f.alignment) (fieldText s slot f.kind)).map fun g =>
      ⟨g, f.ink, f.paper, false, f.blink, f.underline⟩)

/-- The 64 cells of a showing's line under a style (R65). -/
def formatLine (s : State) (slot : Fin 96) (st : Style) : List Cell :=
  st.fields.foldl (writeField s slot) (List.replicate 64 ⟨32, st.baseInk, st.basePaper, false, false, false⟩)

/-! ## Notice lines (R68, R70) -/

/-- The text of a template item for a showing slot (R68). -/
def itemText (s : State) (slot : Option (Fin 96)) : TemplateItem → List Nat
  | .phrase p => phrase s p
  | .field k =>
    match slot with
    | some i => fieldText s i k
    | none => []

/-- The lines of a template (R67); none names no lines. -/
def templateLines (s : State) : Option (Fin 8) → List (List TemplateItem)
  | some t => s.cmp.templates.get t
  | none => []

/-- The number of lines of an entry; a FREE entry has none (R103). -/
def lineCount (s : State) (e : Fin 24) : Nat :=
  match s.ntc.entries.get e with
  | none => 0
  | some n =>
    match n.content with
    | .lines l => l.length
    | .template t => (templateLines s t).length

/-- The text of line `k` (1 to 3) of an entry; empty for a FREE entry (R68, R132). Empty also where the entry has fewer than `k` lines when
the job starts, since its template was loaded anew or the entry raised again behind the issue: DESIGN CHOICE (log 40). -/
def noticeLine (s : State) (e : Fin 24) (k : Nat) : List Nat :=
  match s.ntc.entries.get e with
  | none => []
  | some n =>
    match n.content with
    | .lines l => l.getD (k - 1) []
    | .template t => ((((templateLines s t).getD (k - 1) []).map (itemText s n.linked)).flatten).take 64

/-! ## Formatted lines of jobs (R132) -/

/-- A text as `count` cells in one ink and paper: cut, and padded with glyph 32, all flags clear (R132). -/
def textCells (count ink paper : Nat) (text : List Nat) : List Cell :=
  (padText count false text).map fun g => ⟨g, ink, paper, false, false, false⟩

/-- The OPEN desks in ascending order. -/
def openDesks (s : State) : List (Fin 16) := (fins 16).filter fun d => (s.slg.desks.get d).state == .opened

/-- The text of a DESK job: DESKS_OPEN, then glyph 32 and the number of each OPEN desk (R103, R132). -/
def deskText (s : State) : List Nat :=
  phrase s 35 ++ ((openDesks s).map fun d => 32 :: digits d.val).flatten

/-- Whether a CLOCK form is the 12-hour one; FOLLOW is clock_format (R100, R130). -/
def clockTwelve (s : State) : ClockForm → Bool
  | .h24 => false
  | .h12 => true
  | .follow => s.cmp.twelveHour

/-- The text of a CLOCK job: CLOCK_PREFIX, then the time text of the lobby clock (R103, R132). -/
def clockText (s : State) (f : ClockForm) : List Nat := phrase s 37 ++ timeText s (clockTwelve s f) s.lck.clock

/-- The formatted line of a source that has one, for `count` cells (R132). -/
def sourceLine (s : State) (count : Nat) : Source → Option (List Cell)
  | .text p ink paper => some (textCells count ink paper (phrase s p))
  | .notice e k ink paper => some (textCells count ink paper (noticeLine s e k))
  | .desk ink paper => some (textCells count ink paper (deskText s))
  | .clock f ink paper => some (textCells count ink paper (clockText s f))
  | _ => none

end Sys2Proof.Machine
end

