-- ==== Sys2Proof/Machine/Tiles.lean ====
section
/-! DEFINITION. Chapter 6: the tile store (TST): lookups, reads, unpins, purges and its reset. -/

namespace Sys2Proof.Machine

/-- The store with a slot replaced. -/
def Tst.setSlot (t : Tst) (i : Fin 96) (x : Tile) : Tst := { t with slots := t.slots.set i x }

/-- The VALID slot that holds a key (R119). -/
def validSlot (t : Tst) (key : Fin 96 × Fin 4) : Option (Fin 96) :=
  (fins 96).find? fun i => (t.slots.get i).state == .valid && (t.slots.get i).key == some key

/-- The lowest-numbered FREE slot (R122). -/
def freeTile (t : Tst) : Option (Fin 96) := (fins 96).find? fun i => (t.slots.get i).state == .free

/-- The least recently used VALID slot with no pins (R122). -/
def replaceable (t : Tst) : Option (Fin 96) := t.useList.find? fun i => (t.slots.get i).pins == 0

/-- Slot `i` taken out of the use list. -/
def dropUse (i : Fin 96) (l : List (Fin 96)) : List (Fin 96) := l.filter fun j => j != i

/-- A hit on slot `i` (R121). -/
def hitTile (i : Fin 96) (t : Tst) : Tst :=
  { t with
    slots := t.slots.modify i fun x => { x with pins := x.pins + 1 }
    useList := dropUse i t.useList ++ [i]
    hits := bump t.hits }

/-- A slot that holds a condemned tile: PURGING, out of the use list (R122, R125). -/
def condemn (i : Fin 96) (t : Tst) : Tst :=
  { t with slots := t.slots.modify i fun x => { x with state := .purging }, useList := dropUse i t.useList }

/-- A tile formatted into slot `i` (R122). -/
def formatTile (i : Fin 96) (key : Fin 96 × Fin 4) (cells : List Cell) (t : Tst) : Tst :=
  { t with
    slots := t.slots.modify i fun x => ⟨.valid, some key, cells, 1, (x.fmt + 1) % 65536⟩
    useList := dropUse i t.useList ++ [i]
    formats := bump t.formats }

/-- The slot that a miss takes and the store without what it replaces, or none (R122, R123). -/
def missSlot (t : Tst) : Option (Fin 96 × Tst) :=
  match freeTile t with
  | some i => some (i, t)
  | none => (replaceable t).map fun i => (i, { t with replacements := bump t.replacements })

/-- The store after a VALID slot at the pin limit has given up its key (R122). -/
def condemnFull (t : Tst) : Option (Fin 96) → Tst
  | some i => condemn i t
  | none => t

/-- The reference of the tile that slot `i` holds (R123). -/
def refOf (t : Tst) (i : Fin 96) : TileRef := ⟨i, (t.slots.get i).fmt⟩

/-- A miss: a slot is taken and the key formatted into it, or there is no tile (R122, R123). -/
def missTile (key : Fin 96 × Fin 4) (cells : List Cell) (t : Tst) : Tst × Option TileRef :=
  match missSlot t with
  | none => ({ t with noTile := bump t.noTile }, none)
  | some (i, u) =>
    let v := formatTile i key cells (condemnFull u (validSlot t key))
    (v, some (refOf v i))

/-- A lookup, answered whole: a hit, a tile formatted for the occasion, or no tile (R121 to R123). -/
def lookup (key : Fin 96 × Fin 4) (cells : List Cell) (t : Tst) : Tst × Option TileRef :=
  match validSlot t key with
  | some i =>
    if (t.slots.get i).pins < Config.pinTop then (hitTile i t, some (refOf t i)) else missTile key cells t
  | none => missTile key cells t

/-- A lookup by the machine: what a miss formats is read at that moment (R122). -/
def lookupTile (slot : Fin 96) (style : Fin 4) (s : State) : State × Option TileRef :=
  let r := lookup (slot, style) (formatLine s slot (s.cmp.styles.get style)) s.tst
  (s.withTst r.1, r.2)

/-- The reference finds its tile: VALID or PURGING under the same format number (R124). -/
def holdsRef (t : Tst) (r : TileRef) : Bool :=
  (t.slots.get r.slot).state != .free && (t.slots.get r.slot).fmt == r.fmt

/-- A read of tile cells `start` to `start + n - 1` by a reference; none is "no source" (R124). -/
def readTile (t : Tst) (r : TileRef) (start n : Nat) : Option (List Cell) :=
  if holdsRef t r then some (((t.slots.get r.slot).cells.drop start).take n) else none

/-- A FREE slot that keeps its format number (R119, R124, R125). -/
def freedTile (x : Tile) : Tile := ⟨.free, none, [], 0, x.fmt⟩

/-- A tile with one pin less; a PURGING one without pins becomes FREE (R124). -/
def unpinned (x : Tile) : Tile :=
  if x.state = .purging ∧ x.pins = 1 then freedTile x else { x with pins := x.pins - 1 }

/-- An unpin at the TST, with the unpin report it may send (R124). -/
def takeUnpin (r : TileRef) (s : State) : State :=
  let x := s.tst.slots.get r.slot
  if holdsRef s.tst r = true ∧ 0 < x.pins then
    let t := s.withTst (s.tst.setSlot r.slot (unpinned x))
    if x.pins = 1 ∨ x.pins = 16 then sendFromTst .unpinned t else t
  else s

/-- UNPIN: the TST takes the oldest unpin of a channel (R124). -/
def doUnpin (n : Fin 4) (s : State) : State :=
  match s.links.blcTst.get n with
  | [] => s
  | r :: rest => takeUnpin r (s.withLinks { s.links with blcTst := s.links.blcTst.set n rest })

/-- UNPIN (R124). -/
def execUnpin (channel : Fin 4) (s : State) : Result := running s (doUnpin channel)

/-- A slot under a purge of showing slot `s` (R125). -/
def purgedTile (slot : Fin 96) (x : Tile) : Tile :=
  if x.state = .valid ∧ x.key.map Prod.fst = some slot then
    if x.pins = 0 then freedTile x else { x with state := .purging }
  else x

/-- The store under a purge (R125); the model also counts the purges of the showing slot (log 19). -/
def purgeTiles (slot : Fin 96) (t : Tst) : Tst :=
  let u := t.slots.map (purgedTile slot)
  { t with
    slots := u, useList := t.useList.filter fun i => (u.get i).state == .valid, purges := bump t.purges
    purged := t.purged.modify slot fun k => k + 1 }

/-- A purge at the TST, with its purge report (R125). -/
def takePurge (slot : Fin 96) (s : State) : State :=
  sendFromTst (.purged slot) (s.withTst (purgeTiles slot s.tst))

/-- The purges of a sender on their way to the TST. -/
def purgeLink (sender : PurgeSender) (k : Links) : List (Mail (Fin 96)) :=
  match sender with
  | .sch => k.schTst
  | .slg => k.slgTst
  | .cmp => k.cmpTst

/-- The links with the purges of a sender replaced. -/
def Links.withPurges (k : Links) (sender : PurgeSender) (l : List (Mail (Fin 96))) : Links :=
  match sender with
  | .sch => { k with schTst := l }
  | .slg => { k with slgTst := l }
  | .cmp => { k with cmpTst := l }

/-- PURGE: the TST takes the oldest purge of a sender (R125, R178). -/
def doPurge (sender : PurgeSender) (s : State) : State :=
  match purgeLink sender s.links with
  | [] => s
  | m :: rest =>
    let t := s.withLinks (s.links.withPurges sender rest)
    if isFresh .tst m s then takePurge m.body t else t

/-- PURGE (R125). -/
def execPurge (sender : PurgeSender) (s : State) : Result := running s (doPurge sender)

/-- A slot under a RESET: FREE, its format number kept unless it is a pin reset (R129); the model keeps its own count of purges (log 19). -/
def Tst.onReset (t : Tst) : Tst := { Tst.reset with slots := t.slots.map freedTile, purged := t.purged }

end Sys2Proof.Machine
end

