-- ==== Sys2Proof/Machine/Composition.lean ====
section
/-! DEFINITION. Chapter 5, with the table loads of chapter 3: the composition unit (CMP): clipping, paging, dirty marks,
view changes and repaints, job issue, job reports, build states, swaps, and the tables the CMP owns. -/

namespace Sys2Proof.Machine

/-! ## Panes of a current view (5.1, 5.4) -/

/-- The machine with a panel's composition state replaced by `f` of it. -/
def setCmpPanel (p : Fin 8) (f : CmpPanel → CmpPanel) (s : State) : State :=
  s.withCmp { s.cmp with panels := s.cmp.panels.modify p f }

/-- The composition state of a panel. -/
def cmpPanel (s : State) (p : Fin 8) : CmpPanel := s.cmp.panels.get p

/-- The layout of a panel's current view. -/
def viewLayout (s : State) (p : Fin 8) : Layout := s.cmp.layouts.get (cmpPanel s p).layout

/-- Clipped height and width of a pane on a grid (R101). -/
def clippedHeight (rows : Nat) (x : Pane) : Nat := min (x.top + x.height) rows - x.top
def clippedWidth (columns : Nat) (x : Pane) : Nat := min (x.left + x.width) columns - x.left

/-- A pane has cells on the grid that the CMP knows for a panel (R101). -/
def hasCells (c : CmpPanel) (x : Pane) : Bool :=
  decide (0 < clippedHeight c.rows x) && decide (0 < clippedWidth c.columns x)

/-- The clipped rectangles of two panes share a cell (R109). -/
def shareCell (c : CmpPanel) (x y : Pane) : Bool :=
  hasCells c x && hasCells c y
    && decide (x.top < y.top + clippedHeight c.rows y) && decide (y.top < x.top + clippedHeight c.rows x)
    && decide (x.left < y.left + clippedWidth c.columns y) && decide (y.left < x.left + clippedWidth c.columns x)

/-- The pages of a pane of clipped height `h` over a roster of `n` showings (R107). -/
def pageCount (n h : Nat) : Nat := if h = 0 then 1 else max 1 (ceilDiv n h)

/-- The page count of a LISTING pane (R107). DESIGN CHOICE (log 15): 1 for a pane that is not LISTING. -/
def pagesOf (s : State) (c : CmpPanel) (x : Pane) : Nat :=
  match x.kind with
  | .listing f _ _ => pageCount (s.sch.rosters.get f).length (clippedHeight c.rows x)
  | _ => 1

/-- A LISTING pane. -/
def isListing (x : Pane) : Bool :=
  match x.kind with
  | .listing _ _ _ => true
  | _ => false

/-- A LISTING pane naming a filter, a line style (R104, R106). -/
def namesFilter (f : Fin 8) (x : Pane) : Bool :=
  match x.kind with
  | .listing g _ _ => g == f
  | _ => false
def namesStyle (st : Fin 4) (x : Pane) : Bool :=
  match x.kind with
  | .listing _ t _ => t == st
  | _ => false

/-- The pane kinds that a cause of R109 names. -/
def isDeskStrip (x : Pane) : Bool :=
  match x.kind with
  | .deskStrip _ _ => true
  | _ => false
def isClock (x : Pane) : Bool :=
  match x.kind with
  | .clock _ _ _ => true
  | _ => false
def isFollowClock (x : Pane) : Bool :=
  match x.kind with
  | .clock .follow _ _ => true
  | _ => false
def isNoticeText (x : Pane) : Bool :=
  match x.kind with
  | .noticeText _ _ => true
  | _ => false

/-- The roster positions of the page a LISTING pane shows, as slots (R107). -/
def pageSlots (s : State) (c : CmpPanel) (cursor : Nat) (x : Pane) : List (Fin 96) :=
  match x.kind with
  | .listing f _ _ =>
    ((s.sch.rosters.get f).drop (cursor * clippedHeight c.rows x)).take (clippedHeight c.rows x)
  | _ => []

/-- The cursors that a view of layout `l` starts with: those of the view change for LISTING panes, 0 where at or past
the page count, 0 for other panes (R108, R110 step 2). -/
def loadCursors (s : State) (c : CmpPanel) (l : Layout) (cursors : Tab 8 Nat) : Tab 8 Nat :=
  Tab.make 8 fun i =>
    match l.panes[i.val]? with
    | some x => if isListing x = true ∧ cursors.get i < pagesOf s c x then cursors.get i else 0
    | none => 0

/-! ## Dirty marks (5.5) -/

/-- The build state when a pane is marked dirty (R115). -/
def BuildState.onMark : BuildState → BuildState
  | .clean | .building | .ready => .dirty
  | b => b

/-- The panes marked when those of `first` are: going forward, a pane with cells that is named, or that shares a cell with
an earlier marked pane (R109). `earlier` are the panes already marked. -/
def markList (c : CmpPanel) (earlier : List Pane) : List (Pane × Bool) → List Bool
  | [] => []
  | (x, named) :: rest =>
    let m := hasCells c x && (named || earlier.any fun y => shareCell c y x)
    m :: markList c (if m then x :: earlier else earlier) rest

/-- A pane state marked dirty (R109). -/
def PaneState.mark (x : PaneState) : PaneState := { x with dirty := true, issueRow := 0, issued := [] }

/-- A panel with the panes whose index `pick` names marked dirty (R109, R115). -/
def markPanes (l : Layout) (pick : Nat → Pane → Bool) (c : CmpPanel) : CmpPanel :=
  let marks := markList c [] (l.panes.mapIdx fun i x => (x, pick i x))
  if marks.contains true then
    { c with
      panes := Tab.make 8 fun i => if marks.getD i.val false then (c.panes.get i).mark else c.panes.get i
      build := c.build.onMark }
  else c

/-- Mark panes of one panel's current view. -/
def markOn (p : Fin 8) (pick : Nat → Pane → Bool) (s : State) : State :=
  setCmpPanel p (markPanes (viewLayout s p) pick) s

/-- Mark panes in the current view of every panel (R109). -/
def markAll (pick : Fin 8 → Nat → Pane → Bool) (s : State) : State :=
  (fins 8).foldl (fun s p => markOn p (pick p) s) s

/-! ## View changes and repaints (5.6) -/

/-- The lane of a view's jobs (R110 step 1). -/
def laneOf (cls : Option (Fin 12)) : Lane := if cls = some 0 then .announce else .normal

/-- The layout that a view change brings: the base layout for BASE (R75, R110). -/
def changeLayout (c : CmpPanel) (v : ViewChange) : Fin 16 := v.layout.getD c.baseLayout

/-- A panel's composition state after a view change, with its cursors loaded (R110). -/
def CmpPanel.change (c : CmpPanel) (v : ViewChange) (l : Layout) (cursors : Tab 8 Nat) : CmpPanel :=
  { c with
    view := v.view, cls := v.cls, layout := changeLayout c v, lane := laneOf v.cls, backgroundDue := true
    panes := Tab.make 8 fun i =>
      match l.panes[i.val]? with
      | some x => ⟨hasCells c x, 0, cursors.get i, 0, []⟩
      | none => PaneState.clean
    stall := none, build := .dirty, copyDue := false }

/-- A view change at the CMP: the record, the cancel, every pane marked (R110, R113). -/
def applyView (v : ViewChange) (s : State) : State :=
  let c := cmpPanel s v.panel
  let l := s.cmp.layouts.get (changeLayout c v)
  sendChannel (channelOf v.panel) (.cancel v.panel)
    (setCmpPanel v.panel (fun c => c.change v l (loadCursors s c l v.cursors)) s)

/-- The cursors of a panel's current view. -/
def cursorsOf (c : CmpPanel) : Tab 8 Nat := Tab.make 8 fun i => (c.panes.get i).cursor

/-- A repaint of a panel with given cursors (R111). -/
def repaintAt (p : Fin 8) (cursors : Tab 8 Nat) (s : State) : State :=
  let c := cmpPanel s p
  applyView ⟨p, c.view, c.cls, some c.layout, cursors⟩ s

/-- A repaint of a panel with its present cursors (R111). -/
def repaint (p : Fin 8) (s : State) : State := repaintAt p (cursorsOf (cmpPanel s p)) s

/-- The panel has stopped being LIVE: background due, every pane marked, DIRTY (R111, R115). -/
def leaveLive (l : Layout) (c : CmpPanel) : CmpPanel :=
  { markPanes l (fun _ _ => true) c with live := false, backgroundDue := true, build := .dirty, copyDue := false }

/-- VIEW_CHANGE: the CMP takes the oldest request of the NTC, if it is a view change (R110, R178). -/
def doViewChange (s : State) : State :=
  match s.links.ntcCmp with
  | ⟨ep, .view v⟩ :: rest =>
    let t := s.withLinks { s.links with ntcCmp := rest }
    if isFresh .cmp ⟨ep, ()⟩ s then applyView v t else t
  | _ => s

/-- VIEW_CHANGE (R110). -/
def execViewChange (s : State) : Result := running s doViewChange

/-- NOTICE_CONTENT_CHANGE: the NOTICE_TEXT panes of the panel (R75, R109). -/
def doNoticeContentChange (s : State) : State :=
  match s.links.ntcCmp with
  | ⟨ep, .content p⟩ :: rest =>
    let t := s.withLinks { s.links with ntcCmp := rest }
    if isFresh .cmp ⟨ep, ()⟩ s then markOn p (fun _ x => isNoticeText x) t else t
  | _ => s

/-- NOTICE_CONTENT_CHANGE (R109). -/
def execNoticeContentChange (s : State) : Result := running s doNoticeContentChange

/-! ## Causes of marks (R108, R109) -/

/-- A pane state whose cursor is at or past the page count starts over (R108). -/
def PaneState.correct (pages : Nat) (x : PaneState) : PaneState :=
  if pages ≤ x.cursor then { x with cursor := 0, dwell := 0 } else x

/-- The cursors of the LISTING panes naming a filter corrected (R108). -/
def correctFilter (f : Fin 8) (p : Fin 8) (s : State) : State :=
  setCmpPanel p (fun c =>
    { c with
      panes := Tab.make 8 fun i =>
        match (viewLayout s p).panes[i.val]? with
        | some x => if namesFilter f x then (c.panes.get i).correct (pagesOf s c x) else c.panes.get i
        | none => c.panes.get i }) s

/-- A roster change at the CMP (R108, R109). -/
def takeRosterChange (f : Fin 8) (s : State) : State :=
  markAll (fun _ _ x => namesFilter f x) ((fins 8).foldl (fun s p => correctFilter f p s) s)

/-- ROSTER_CHANGE: the CMP takes the oldest roster change (R109, R178). -/
def doRosterChange (s : State) : State :=
  match s.links.schCmp with
  | [] => s
  | m :: rest =>
    let t := s.withLinks { s.links with schCmp := rest }
    if isFresh .cmp m s then takeRosterChange m.body t else t

/-- ROSTER_CHANGE (R109). -/
def execRosterChange (s : State) : Result := running s doRosterChange

/-- DESK_CHANGE: every DESK_STRIP pane (R109, R178). -/
def doDeskChange (s : State) : State :=
  match s.links.slgCmp with
  | [] => s
  | m :: rest =>
    let t := s.withLinks { s.links with slgCmp := rest }
    if isFresh .cmp m s then markAll (fun _ _ x => isDeskStrip x) t else t

/-- DESK_CHANGE (R109). -/
def execDeskChange (s : State) : Result := running s doDeskChange

/-- MINUTE_BOUNDARY: every CLOCK pane (R4, R109). -/
def doMinuteBoundary (s : State) : State :=
  if 0 < s.links.minutes then
    markAll (fun _ _ x => isClock x) (s.withLinks { s.links with minutes := s.links.minutes - 1 })
  else s

/-- MINUTE_BOUNDARY (R4). -/
def execMinuteBoundary (s : State) : Result := running s doMinuteBoundary

/-- The panel's current view is a LIVE auto entry linked to a slot (R69). -/
def viewLinked (slot : Fin 96) (s : State) (p : Fin 8) : Bool :=
  match (cmpPanel s p).view with
  | some e =>
    match s.ntc.entries.get e with
    | some n => n.linked == some slot
    | none => false
  | none => false

/-- The panel's current view is a LIVE auto entry naming a template (R69). -/
def viewTemplate (t : Fin 8) (s : State) (p : Fin 8) : Bool :=
  match (cmpPanel s p).view with
  | some e =>
    match s.ntc.entries.get e with
    | some n => n.content == .template (some t)
    | none => false
  | none => false

/-- The panel's current view is an auto entry: one of the auto pool, 18 to 23 (R70, R106). -/
def viewAuto (s : State) (p : Fin 8) : Bool :=
  match (cmpPanel s p).view with
  | some e => decide (18 ≤ e.val)
  | none => false

/-- A row job was made from a line that a purge of a slot, taken since, has condemned (R125). -/
def IssuedRow.condemned (slot : Fin 96) (t : Tst) (r : IssuedRow) : Bool :=
  match r.tile with
  | some (i, k) => i == slot && decide (k < t.purged.get slot)
  | none => false

/-- A pane holds a line that a purge of a slot has condemned since it was looked up (R125). -/
def condemnedLine (slot : Fin 96) (t : Tst) (x : PaneState) : Bool := x.issued.any fun r => r.condemned slot t

/-- A LISTING pane shows a slot: its page names it, or a row issued for it holds a condemned line of it (R125). DEDUCED (log 19): the second
is "the pane that asked" of R126, although a roster change on its way to the CMP has moved the showing off the page. -/
def pageShows (slot : Fin 96) (s : State) (c : CmpPanel) (y : PaneState) (x : Pane) : Bool :=
  isListing x && ((pageSlots s c y.cursor x).contains slot || condemnedLine slot s.tst y)

/-- A pane whose lines a purge of a slot puts out of date (R109, R125). -/
def showsSlot (slot : Fin 96) (s : State) (p : Fin 8) (i : Nat) (x : Pane) : Bool :=
  let c := cmpPanel s p
  (match asFin 8 i with
    | some j => pageShows slot s c (c.panes.get j) x
    | none => false)
  || (isNoticeText x && viewLinked slot s p)

/-- PURGE_REPORT: the CMP takes the oldest report of the TST, if it is a purge report (R109, R125, R178). -/
def doPurgeReport (s : State) : State :=
  match s.links.tstCmp with
  | ⟨ep, .purged slot⟩ :: rest =>
    let t := s.withLinks { s.links with tstCmp := rest }
    if isFresh .cmp ⟨ep, ()⟩ s then markAll (showsSlot slot t) t else t
  | _ => s

/-- PURGE_REPORT (R109). -/
def execPurgeReport (s : State) : Result := running s doPurgeReport

/-- The pane state of a LISTING pane on a seconds pulse, and whether its page turned (R108). -/
def PaneState.pulse (pages dwell : Nat) (x : PaneState) : PaneState × Bool :=
  if pages ≤ 1 then ({ x with dwell := 0 }, false)
  else if x.dwell + 1 < dwell then ({ x with dwell := x.dwell + 1 }, false)
  else ({ x with dwell := 0, cursor := if x.cursor + 1 < pages then x.cursor + 1 else 0 }, true)

/-- What a seconds pulse does to pane `i` of a panel's view: its state, and whether its page turned (R108). -/
def pulsePane (s : State) (p : Fin 8) (i : Fin 8) : PaneState × Bool :=
  let c := cmpPanel s p
  match (viewLayout s p).panes[i.val]? with
  | some x =>
    match x.kind with
    | .listing _ _ dwell => (c.panes.get i).pulse (pagesOf s c x) dwell
    | _ => (c.panes.get i, false)
  | none => (c.panes.get i, false)

/-- A seconds pulse on one panel's view: the panes that turned their page are marked dirty (R108, R109). -/
def advancePages (p : Fin 8) (s : State) : State :=
  let r := Tab.make 8 fun i => pulsePane s p i
  markOn p (fun i _ => match asFin 8 i with
    | some j => (r.get j).2
    | none => false)
    (setCmpPanel p (fun c => { c with panes := r.map Prod.fst }) s)

/-- PAGE_ADVANCE: the CMP handles a seconds pulse (R108). -/
def doPageAdvance (s : State) : State :=
  if 0 < s.links.pulseCmp then
    (fins 8).foldl (fun s p => advancePages p s) (s.withLinks { s.links with pulseCmp := s.links.pulseCmp - 1 })
  else s

/-- PAGE_ADVANCE (R108). -/
def execPageAdvance (s : State) : Result := running s doPageAdvance

/-! ## Job issue (5.7) -/

/-- The CMP, having taken a RESET, issues no job until these blocks have taken it. R118 names the Blit Channels and the Tile Store. Its
panels then rebuild with an empty listing, since the same RESET empties the rosters; so that no row of an old roster, and no strip of desks
of before the RESET, is issued and marked by nothing (R26, R53), the CMP waits for the SCH and the SLG too. DESIGN CHOICE (log 44). -/
def blocksAwaited : List Block := [.blc, .tst, .sch, .slg]

/-- The CMP waits for other blocks to take the reset it has taken (R118, log 44). -/
def cmpWaits (s : State) : Bool :=
  match s.tif.resetting with
  | some r => !r.waiting.contains .cmp && blocksAwaited.any fun b => r.waiting.contains b
  | none => false

/-- Jobs of a lane on their way to a channel. -/
def jobsInFlight (l : List ToChannel) (lane : Lane) : Nat :=
  (l.filter fun x => match x with
    | .job j => j.lane == lane
    | _ => false).length

/-- Jobs in a queue of a channel. -/
def queueOf (c : Channel) : Lane → List Job
  | .normal => c.normal
  | .announce => c.announce

/-- The most jobs a queue holds (R133). -/
def queueDepth : Lane → Nat
  | .normal => Config.normalDepth
  | .announce => Config.announceDepth

/-- The target queue of a panel's jobs has room (R112, log 27). -/
def hasRoom (s : State) (p : Fin 8) : Bool :=
  let n := channelOf p
  let lane := (cmpPanel s p).lane
  decide ((queueOf (s.blc.channels.get n) lane).length + jobsInFlight (s.links.cmpBlc.get n) lane < queueDepth lane)

/-- The conditions of R112 on a panel's issue. -/
def mayIssue (s : State) (p : Fin 8) : Bool :=
  let c := cmpPanel s p
  c.live && portLive s p && (c.build == .dirty || (c.build == .syncing && c.copyDue)) && c.stall.isNone
    && !cmpWaits s

/-- The lowest-numbered dirty pane of a panel (R112). -/
def dirtyPane (c : CmpPanel) : Option (Fin 8) := (fins 8).find? fun i => (c.panes.get i).dirty

/-- Nothing is left to issue (R115). -/
def nothingLeft (c : CmpPanel) : Bool := !c.backgroundDue && (dirtyPane c).isNone

/-- The build state once nothing is left to issue in DIRTY (R115). -/
def CmpPanel.settle (c : CmpPanel) : CmpPanel :=
  if c.build = .dirty ∧ nothingLeft c = true then
    { c with build := if c.outstanding.isEmpty then .ready else .building }
  else c

/-- The next job number of a panel (R112, log 11). -/
def nextNumber (c : CmpPanel) : Nat := (c.jobNumber + 1) % 65536

/-- A job of a panel as the CMP makes it (R130). -/
def makeJob (p : Fin 8) (c : CmpPanel) (source : Source) (span : Option Nat) (row column count : Nat) : Job :=
  ⟨p, nextNumber c, c.lane, source, span, row, column, count, 0, none⟩

/-- Issue a job: number and outstanding set, and the job to the channel (R112). `f` is what else changes in the panel. -/
def issue (p : Fin 8) (j : Job) (f : CmpPanel → CmpPanel) (s : State) : State :=
  sendChannel (channelOf p) (.job j)
    (setCmpPanel p (fun c =>
      (f { c with jobNumber := j.number, outstanding := c.outstanding ++ [j.number] }).settle) s)

/-- Glyph 32 in an ink and paper, all flags clear (R102, R103). -/
def spaceCell (ink paper : Nat) : Cell := ⟨32, ink, paper, false, false, false⟩

/-- The cell of a TRAILER pane (R103). -/
def trailerCell : Cell := ⟨32, 0, 0, true, false, false⟩

/-- What a row of a pane needs: a source at hand, or a tile to be looked up (R102). -/
inductive RowNeed where
  | source (x : Source)
  | tile (slot : Fin 96) (style : Fin 4)
deriving DecidableEq, Repr

/-- The row job of a LISTING pane (R102). -/
def listingRow (s : State) (f : Fin 8) (st : Fin 4) (position row : Nat) : RowNeed :=
  let style := s.cmp.styles.get st
  let roster := s.sch.rosters.get f
  match roster[position]? with
  | some slot => .tile slot st
  | none =>
    if roster.isEmpty = true ∧ row = 0 then .source (.text 34 style.baseInk style.basePaper)
    else .source (.fill (spaceCell style.baseInk style.basePaper))

/-- The row job of a NOTICE_TEXT pane (R103). -/
def noticeRow (s : State) (view : View) (h row ink paper : Nat) : RowNeed :=
  match view with
  | some e =>
    if row < min h (lineCount s e) then .source (.notice e (row + 1) ink paper)
    else .source (.fill (spaceCell ink paper))
  | none => .source (.fill (spaceCell ink paper))

/-- What row `row` of a pane needs (R102, R103). -/
def rowNeed (s : State) (c : CmpPanel) (x : Pane) (cursor row : Nat) : RowNeed :=
  match x.kind with
  | .listing f st _ => listingRow s f st (cursor * clippedHeight c.rows x + row) row
  | .trailer _ => .source (.fill trailerCell)
  | .deskStrip ink paper => if row = 0 then .source (.desk ink paper) else .source (.fill (spaceCell ink paper))
  | .clock f ink paper => if row = 0 then .source (.clock f ink paper) else .source (.fill (spaceCell ink paper))
  | .noticeText ink paper => noticeRow s c.view (clippedHeight c.rows x) row ink paper
  | .text p ink paper => if row = 0 then .source (.text p ink paper) else .source (.fill (spaceCell ink paper))

/-- The model's own: what a row job of a pane that needs `need` is recorded as made from (log 19). -/
def rowRecord (s : State) (x : Pane) (need : RowNeed) : List IssuedRow :=
  match x.kind with
  | .listing f _ _ =>
    [⟨match need with
      | .tile slot _ => some (slot, s.tst.purged.get slot)
      | .source _ => none, s.sch.rosters.get f⟩]
  | _ => []

/-- The issue row of a pane advances; the mark is cleared with the job of the last row (R109, R112). DESIGN CHOICE (log 33): behind the job
of the last row the issue row stands one past it, at 36 for a pane of 36 rows. `made` is the model's record of the job (log 19). -/
def advanceRow (i : Fin 8) (h : Nat) (made : List IssuedRow) (c : CmpPanel) : CmpPanel :=
  { c with
    panes := c.panes.modify i fun x =>
      { x with issueRow := x.issueRow + 1, dirty := decide (x.issueRow + 1 < h), issued := x.issued ++ made } }

/-- The row job of the issue row of pane `i` issued, with the tile it needs looked up (R112, R113). -/
def issueRow (p : Fin 8) (i : Fin 8) (x : Pane) (s : State) : State :=
  let c := cmpPanel s p
  let h := clippedHeight c.rows x
  let row := (c.panes.get i).issueRow
  let job := fun src => makeJob p c src none (x.top + row) x.left (clippedWidth c.columns x)
  let need := rowNeed s c x (c.panes.get i).cursor row
  let advance := advanceRow i h (rowRecord s x need)
  match need with
  | .source src => issue p (job src) advance s
  | .tile slot st =>
    match lookupTile slot st s with
    | (t, some r) => issue p (job (.tile r)) advance t
    | (t, none) => setCmpPanel p (fun c => { c with stall := some .noTile }) t

/-- The whole-grid FILL or the COPY (R101, R112, R116). -/
def gridJob (p : Fin 8) (c : CmpPanel) (source : Source) : Job :=
  makeJob p c source (some c.columns) 0 0 (c.columns * c.rows)

/-- The next job of a panel in DIRTY or SYNCING, its queue having room (R112). -/
def issueNext (p : Fin 8) (s : State) : State :=
  let c := cmpPanel s p
  if c.build = .syncing then issue p (gridJob p c .copy) (fun c => { c with copyDue := false }) s
  else if c.backgroundDue then
    issue p (gridJob p c (.fill (viewLayout s p).background)) (fun c => { c with backgroundDue := false }) s
  else
    match dirtyPane c with
    | none => setCmpPanel p CmpPanel.settle s
    | some i =>
      match (viewLayout s p).panes[i.val]? with
      | some x => issueRow p i x s
      | none => setCmpPanel p (fun c => { c with panes := c.panes.set i PaneState.clean }.settle) s

/-- One step of a panel's issue: the queue check, then the next job (R112). -/
def issueOne (p : Fin 8) (s : State) : State :=
  if mayIssue s p then
    if hasRoom s p then issueNext p s
    else setCmpPanel p (fun c => { c with stall := some (.queueFull c.lane) }) s
  else s

/-- JOB_ISSUE (R112, R113). -/
def execJobIssue (panel : Fin 8) (s : State) : Result := running s (issueOne panel)

/-! ## Reports of the channels and the Tile Store (R112 to R115) -/

/-- A job leaves the outstanding set, with the build state change of R115. -/
def CmpPanel.finish (c : CmpPanel) (number : Nat) : CmpPanel :=
  let d := { c with outstanding := c.outstanding.erase number }
  if d.outstanding.isEmpty = true ∧ nothingLeft d = true ∧ (d.build = .dirty ∨ d.build = .building) then
    { d with build := .ready }
  else d

/-- A completed report: where the panel is SYNCING, it is that of the COPY (R114, R115). -/
def CmpPanel.complete (c : CmpPanel) (number : Nat) : CmpPanel :=
  if c.build = .syncing then
    { c with outstanding := c.outstanding.erase number
             build := if (dirtyPane c).isSome then .dirty else .clean }
  else c.finish number

/-- A report at the CMP whose number is not outstanding changes nothing (R114). -/
def takeReport (p : Fin 8) (number : Nat) (act : State → State) (s : State) : State :=
  if (cmpPanel s p).outstanding.contains number then act s else s

/-- The links with a channel's reports replaced. -/
def State.withReports (s : State) (n : Fin 4) (l : List FromChannel) : State :=
  s.withLinks { s.links with blcCmp := s.links.blcCmp.set n l }

/-- JOB_COMPLETED_REPORT: the CMP takes the oldest report of a channel, if it is a completed report (R114). -/
def doJobCompletedReport (n : Fin 4) (s : State) : State :=
  match s.links.blcCmp.get n with
  | .completed p k :: rest => takeReport p k (setCmpPanel p fun c => c.complete k) (s.withReports n rest)
  | _ => s

/-- JOB_COMPLETED_REPORT (R114). -/
def execJobCompletedReport (channel : Fin 4) (s : State) : Result := running s (doJobCompletedReport channel)

/-- JOB_DISCARDED_REPORT (R114). -/
def doJobDiscardedReport (n : Fin 4) (s : State) : State :=
  match s.links.blcCmp.get n with
  | .discarded p k :: rest => takeReport p k (setCmpPanel p fun c => c.finish k) (s.withReports n rest)
  | _ => s

/-- JOB_DISCARDED_REPORT (R114). -/
def execJobDiscardedReport (channel : Fin 4) (s : State) : Result := running s (doJobDiscardedReport channel)

/-- JOB_ABANDONED_REPORT (R114). -/
def doJobAbandonedReport (n : Fin 4) (s : State) : State :=
  match s.links.blcCmp.get n with
  | .abandoned p k :: rest => takeReport p k (setCmpPanel p fun c => c.finish k) (s.withReports n rest)
  | _ => s

/-- JOB_ABANDONED_REPORT (R114). -/
def execJobAbandonedReport (channel : Fin 4) (s : State) : Result := running s (doJobAbandonedReport channel)

/-- JOB_CLEARED_REPORT: the panel is repainted (R111, R114). -/
def doJobClearedReport (n : Fin 4) (s : State) : State :=
  match s.links.blcCmp.get n with
  | .cleared p k :: rest =>
    takeReport p k (fun s => repaint p (setCmpPanel p (fun c => c.finish k) s)) (s.withReports n rest)
  | _ => s

/-- JOB_CLEARED_REPORT (R114). -/
def execJobClearedReport (channel : Fin 4) (s : State) : Result := running s (doJobClearedReport channel)

/-- End the stalls that equal `st` on the panels that `on` names. -/
def endStalls (on : Fin 8 → Bool) (st : Stall) (s : State) : State :=
  s.withCmp { s.cmp with
    panels := Tab.make 8 fun p =>
      if on p = true ∧ (cmpPanel s p).stall = some st then { cmpPanel s p with stall := none } else cmpPanel s p }

/-- QUEUE_ROOM_REPORT: a QUEUE_FULL stall on that queue ends (R112, R140). -/
def doQueueRoomReport (n : Fin 4) (s : State) : State :=
  match s.links.blcCmp.get n with
  | .room lane :: rest => endStalls (fun p => channelOf p == n) (.queueFull lane) (s.withReports n rest)
  | _ => s

/-- QUEUE_ROOM_REPORT (R112). -/
def execQueueRoomReport (channel : Fin 4) (s : State) : Result := running s (doQueueRoomReport channel)

/-- The panels stalled with NO_TILE, in panel order (R113). -/
def tileStalled (s : State) : List (Fin 8) := (fins 8).filter fun p => (cmpPanel s p).stall == some .noTile

/-- A panel's stall ends and its issue resumes with its next job (R113). -/
def resumeIssue (p : Fin 8) (s : State) : State := issueOne p (setCmpPanel p (fun c => { c with stall := none }) s)

/-- UNPIN_REPORT: the NO_TILE stalls end, and issue resumes on each of those panels, in panel order (R113, R124, log 34). -/
def doUnpinReport (s : State) : State :=
  match s.links.tstCmp with
  | ⟨_, .unpinned⟩ :: rest => (tileStalled s).foldl (fun s p => resumeIssue p s) (s.withLinks { s.links with tstCmp := rest })
  | _ => s

/-- UNPIN_REPORT (R113). -/
def execUnpinReport (s : State) : Result := running s doUnpinReport

/-! ## Reports of the ports, and the swap (R111, R116) -/

/-- The links with a port's reports to the CMP replaced. -/
def State.withPortReports (s : State) (p : Fin 8) (l : List FromPort) : State :=
  s.withLinks { s.links with pnlCmp := s.links.pnlCmp.set p l }

/-- A change in or out of LIVE at the CMP (R111). -/
def takePresence (p : Fin 8) (mode : Mode) (s : State) : State :=
  if mode = .live then repaint p (setCmpPanel p (fun c => { c with live := true }) s)
  else setCmpPanel p (leaveLive (viewLayout s p)) s

/-- PRESENCE_REPORT_CMP: the CMP takes the oldest report of a port, if it is one of R155 (R111). -/
def doPresenceReportCmp (p : Fin 8) (s : State) : State :=
  match s.links.pnlCmp.get p with
  | .presence mode :: rest => takePresence p mode (s.withPortReports p rest)
  | _ => s

/-- PRESENCE_REPORT_CMP (R111). -/
def execPresenceReportCmp (panel : Fin 8) (s : State) : Result := running s (doPresenceReportCmp panel)

/-- GEOMETRY_REPORT: the geometry and rate are stored and the panel repainted (R101, R111, R162). DESIGN CHOICE (log 35): also one that the
port sent before it took a RESET that the CMP has taken. -/
def doGeometryReport (p : Fin 8) (s : State) : State :=
  match s.links.pnlCmp.get p with
  | .geometry columns rows rate :: rest =>
    repaint p (setCmpPanel p (fun c => { c with columns := columns, rows := rows, rate := rate })
      (s.withPortReports p rest))
  | _ => s

/-- GEOMETRY_REPORT (R111). -/
def execGeometryReport (panel : Fin 8) (s : State) : Result := running s (doGeometryReport panel)

/-- GRID_CLEARED_REPORT: taken only once the CMP has taken the same RESET; a repaint, then the answer (R111, R169). -/
def doGridClearedReport (p : Fin 8) (s : State) : State :=
  match s.links.pnlCmp.get p with
  | .gridCleared epoch :: rest =>
    if epoch ≤ s.taken.get (blockIx .cmp) then sendPort p (.cleared epoch) (repaint p (s.withPortReports p rest)) else s
  | _ => s

/-- GRID_CLEARED_REPORT (R111). -/
def execGridClearedReport (panel : Fin 8) (s : State) : Result := running s (doGridClearedReport panel)

/-- The TRAILER windows of a layout that have at least one cell after clipping (R116). -/
def trailerWindows (c : CmpPanel) (l : Layout) : BitVec 2 :=
  l.panes.foldl (fun w x => match x.kind with
    | .trailer k => if hasCells c x then w ||| (1#2 <<< k.val) else w
    | _ => w) 0#2

/-- The CMP takes a swap: shown layout, open windows to the port, SYNCING, and the COPY issued, unless its queue is full (R116). -/
def takeSwap (p : Fin 8) (s : State) : State :=
  let c := cmpPanel s p
  issueOne p (sendPort p (.windows (s.taken.get (blockIx .pnl)) (trailerWindows c (viewLayout s p)))
    (setCmpPanel p (fun c => { c with shown := some c.layout, build := .syncing, copyDue := true }) s))

/-! ## Tables and settings of the CMP (R60, R64, R66, R67, R100, R104 to R106) -/

/-- Some panel that the ports hold LIVE has a current view that meets a condition, and some channel is ACTIVE (R106). -/
def inUse (cond : Fin 8 → Bool) (s : State) : Bool := anyActive s && (fins 8).any fun p => portLive s p && cond p

/-- The current view's layout has a pane that meets a condition. -/
def viewHas (s : State) (p : Fin 8) (pick : Pane → Bool) : Bool := (viewLayout s p).panes.any pick

/-- A pane that puts phrase `x` in use on a panel (R106). -/
def usesPhrase (x : Fin 48) (s : State) (p : Fin 8) (y : Pane) : Bool :=
  match y.kind with
  | .listing _ _ _ | .deskStrip _ _ | .clock _ _ _ => true
  | .text k _ _ => k == x
  | .noticeText _ _ => viewAuto s p
  | .trailer _ => false

/-- A purge from the CMP for every non-EMPTY showing, in slot order (R60, R64, R66). -/
def purgeAll (s : State) : State := (filledSlots s).foldl (fun s i => sendPurge .cmp i s) s

/-- A layout as sent, where it is in range (R100 steps 2 and 3). -/
def layoutOf (background : RawCell) (panes : List RawPane) : Option Layout :=
  match cellOf background, allOf paneOf panes with
  | some b, some l => if l.length ≤ 8 then some ⟨b, l⟩ else none
  | _, _ => none

/-- An accepted load of a layout (R100, R106). The panels whose current view uses it are repainted in panel order, so that of the cancels of
panels p and p + 4, which go to one channel, p's is sent first. DESIGN CHOICE (log 43). -/
def storeLayout (i : Fin 16) (l : Layout) (s : State) : State :=
  (fins 8).foldl (fun s p => if (cmpPanel s p).layout = i then repaintAt p (Tab.fill 8 0) s else s)
    (s.withCmp { s.cmp with layouts := s.cmp.layouts.set i l })

/-- A TABLE packet of a layout (R100, R106). -/
def applyLayout (index : Nat) (body : TableBody) (s : State) : State :=
  match body with
  | .layout background panes =>
    match asFin 16 index with
    | none => refuseTable .cmp .badItem index s
    | some i =>
      match layoutOf background panes with
      | none => refuseTable .cmp .badField index s
      | some l =>
        if inUse (fun p => (cmpPanel s p).layout == i) s then refuseTable .cmp .inUse index s
        else storeLayout i l s
  | _ => s

/-- TABLE_LAYOUT (R100). -/
def execTableLayout (s : State) : Result := running s (deliver .cmp (pickTable 33 applyLayout))

/-- A filter as sent, where it is in range (R104 step 2, R198). -/
def filterOf (states auditoriums maxLines : Nat) : Option Filter :=
  if states < 16 ∧ auditoriums % 2 = 0 ∧ auditoriums < 2 ^ 25 ∧ 1 ≤ maxLines ∧ maxLines ≤ 96 then
    some ⟨BitVec.ofNat 4 states, BitVec.ofNat 32 auditoriums, maxLines⟩
  else none

/-- An accepted load of a filter (R104, R106). -/
def storeFilter (i : Fin 8) (f : Filter) (s : State) : State :=
  markAll (fun _ _ x => namesFilter i x)
    (sendFilterLoad i (s.withCmp { s.cmp with filters := s.cmp.filters.set i f }))

/-- A TABLE packet of a filter (R104, R106). -/
def applyFilter (index : Nat) (body : TableBody) (s : State) : State :=
  match body with
  | .filter states auditoriums maxLines =>
    match asFin 8 index with
    | none => refuseTable .cmp .badItem index s
    | some i =>
      match filterOf states auditoriums maxLines with
      | none => refuseTable .cmp .badField index s
      | some f =>
        if inUse (fun p => viewHas s p (namesFilter i)) s then refuseTable .cmp .inUse index s
        else storeFilter i f s
  | _ => s

/-- TABLE_FILTER (R104). -/
def execTableFilter (s : State) : Result := running s (deliver .cmp (pickTable 34 applyFilter))

/-- A line style as sent, where it is in range (R64 step 2). -/
def styleOf (ink paper : Nat) (fields : List RawField) : Option Style :=
  match allOf styleFieldOf fields with
  | some l => if ink ≤ 15 ∧ paper ≤ 15 ∧ l.length ≤ 10 then some ⟨ink, paper, l⟩ else none
  | none => none

/-- An accepted load of a line style (R64, R106). -/
def storeStyle (i : Fin 4) (st : Style) (s : State) : State :=
  markAll (fun _ _ x => namesStyle i x) (purgeAll (s.withCmp { s.cmp with styles := s.cmp.styles.set i st }))

/-- A TABLE packet of a line style (R64, R106). -/
def applyStyle (index : Nat) (body : TableBody) (s : State) : State :=
  match body with
  | .style ink paper fields =>
    match asFin 4 index with
    | none => refuseTable .cmp .badItem index s
    | some i =>
      match styleOf ink paper fields with
      | none => refuseTable .cmp .badField index s
      | some st =>
        if inUse (fun p => viewHas s p (namesStyle i)) s then refuseTable .cmp .inUse index s
        else storeStyle i st s
  | _ => s

/-- TABLE_STYLE (R64). -/
def execTableStyle (s : State) : Result := running s (deliver .cmp (pickTable 35 applyStyle))

/-- An accepted load of a phrase (R66, R106). -/
def storePhrase (i : Fin 48) (glyphs : List Nat) (s : State) : State :=
  let t := purgeAll (s.withCmp { s.cmp with phrases := s.cmp.phrases.set i glyphs })
  markAll (fun p _ x => usesPhrase i t p x) t

/-- A TABLE packet of a phrase (R66, R106). -/
def applyPhrase (index : Nat) (body : TableBody) (s : State) : State :=
  match body with
  | .phrase glyphs =>
    match asFin 48 index with
    | none => refuseTable .cmp .badItem index s
    | some i =>
      if 24 < glyphs.length ∨ glyphsOk glyphs = false then refuseTable .cmp .badField index s
      else if inUse (fun p => viewHas s p (usesPhrase i s p)) s then refuseTable .cmp .inUse index s
      else storePhrase i glyphs s
  | _ => s

/-- TABLE_PHRASE (R66). -/
def execTablePhrase (s : State) : Result := running s (deliver .cmp (pickTable 36 applyPhrase))

/-- A template line as sent, where it is in range (R67). -/
def templateLineOf (l : List (Nat × Nat)) : Option (List TemplateItem) :=
  match allOf itemOf l with
  | some items => if items.length ≤ 6 then some items else none
  | none => none

/-- A template as sent, where it is in range (R67). -/
def templateOf (lines : List (List (Nat × Nat))) : Option (List (List TemplateItem)) :=
  match allOf templateLineOf lines with
  | some ls => if ls.length ≤ 3 then some ls else none
  | none => none

/-- An accepted load of a template (R67, R69). -/
def storeTemplate (i : Fin 8) (lines : List (List TemplateItem)) (s : State) : State :=
  let t := s.withCmp { s.cmp with templates := s.cmp.templates.set i lines }
  markAll (fun p _ x => isNoticeText x && viewTemplate i t p) t

/-- A TABLE packet of a template (R67). -/
def applyTemplate (index : Nat) (body : TableBody) (s : State) : State :=
  match body with
  | .template lines =>
    match asFin 8 index with
    | none => refuseTable .cmp .badItem index s
    | some i =>
      match templateOf lines with
      | none => refuseTable .cmp .badField index s
      | some ls => storeTemplate i ls s
  | _ => s

/-- TABLE_TEMPLATE (R67). -/
def execTableTemplate (s : State) : Result := running s (deliver .cmp (pickTable 37 applyTemplate))

/-- A TABLE packet of a class map entry (R67). -/
def applyClassMap (index : Nat) (body : TableBody) (s : State) : State :=
  match body with
  | .classMap boarding soldout =>
    match asFin 12 index with
    | none => refuseTable .cmp .badItem index s
    | some i =>
      match optIndex 8 boarding, optIndex 8 soldout with
      | some b, some o => s.withCmp { s.cmp with classMap := s.cmp.classMap.set i ⟨b, o⟩ }
      | _, _ => refuseTable .cmp .badField index s
  | _ => s

/-- TABLE_CLASS_MAP (R67). -/
def execTableClassMap (s : State) : Result := running s (deliver .cmp (pickTable 38 applyClassMap))

/-- A SET of clock_format (R60, R105, R181). -/
def applyClockFormat (v : Nat) (s : State) : State :=
  match yesNo v with
  | some b => markAll (fun _ _ x => isFollowClock x) (purgeAll (s.withCmp { s.cmp with twelveHour := b }))
  | none => refuseSet .cmp .badField 13 s

/-- SET_CLOCK_FORMAT (R60, R105). -/
def execSetClockFormat (s : State) : Result := running s (deliver .cmp (pickSet 13 fun _ v => applyClockFormat v))

/-- An accepted SET of a base layout (R105). -/
def storeBaseLayout (p : Fin 8) (l : Fin 16) (s : State) : State :=
  let t := setCmpPanel p (fun c => { c with baseLayout := l }) s
  if (cmpPanel s p).view = none then applyView ⟨p, none, none, none, Tab.fill 8 0⟩ t else t

/-- A SET of BASE_LAYOUT (R105). -/
def applyBaseLayout (panel v : Nat) (s : State) : State :=
  match asFin 8 panel with
  | none => refuseSet .cmp .badItem 20 s
  | some p =>
    match asFin 16 v with
    | none => refuseSet .cmp .badField 20 s
    | some l => storeBaseLayout p l s

/-- SET_BASE_LAYOUT (R105). -/
def execSetBaseLayout (s : State) : Result := running s (deliver .cmp (pickSet 20 applyBaseLayout))

/-! ## What the NTC reads, and the reset (R89, R118) -/

/-- The last view change of a panel still on its way to the CMP (log 10). -/
def changeInFlight (s : State) (p : Fin 8) : Option ViewChange :=
  s.links.ntcCmp.foldl (fun r m => match m.body with
    | .view v => if v.panel = p ∧ isFresh .cmp m s = true then some v else r
    | _ => r) none

/-- The layout and cursors of a panel's current view, as the NTC reads them when it pushes a context (R89, log 10). -/
def shownView (s : State) (p : Fin 8) : Fin 16 × Tab 8 Nat :=
  let c := cmpPanel s p
  match changeInFlight s p with
  | some v =>
    let l := changeLayout c v
    (l, loadCursors s c (s.cmp.layouts.get l) v.cursors)
  | none => (c.layout, cursorsOf c)

/-- A panel's composition state under a RESET (R118). -/
def CmpPanel.onReset (all : Bool) (c : CmpPanel) : CmpPanel :=
  if all then { CmpPanel.reset with jobNumber := c.jobNumber }
  else
    { CmpPanel.reset with
      jobNumber := c.jobNumber, baseLayout := c.baseLayout, layout := c.baseLayout, columns := c.columns, rows := c.rows
      rate := c.rate, live := c.live }

/-- The CMP takes a RESET (R118). -/
def Cmp.onReset (all : Bool) (c : Cmp) : Cmp :=
  if all then { Cmp.reset with panels := c.panels.map (CmpPanel.onReset true) }
  else { c with panels := c.panels.map (CmpPanel.onReset false) }

end Sys2Proof.Machine
end

