-- ==== Sys2Proof/Machine/Notices.lean ====
section
/-! DEFINITION. Chapter 4: the notice controller (NTC): the notice table and the raise sequence, pending lists, takes,
retirements, FORCE, lobby mode, masks, expiry, and panels leaving and returning. -/

namespace Sys2Proof.Machine

/-! ## Reading and writing the notice state (4.1, 4.2) -/

/-- The machine with a panel's notice state replaced by `f` of it. -/
def setNtcPanel (p : Fin 8) (f : NtcPanel → NtcPanel) (s : State) : State :=
  s.withNtc { s.ntc with panels := s.ntc.panels.modify p f }

/-- The notice state of a panel. -/
def ntcPanel (s : State) (p : Fin 8) : NtcPanel := s.ntc.panels.get p

/-- The machine with a notice entry replaced. -/
def setEntry (e : Fin 24) (n : Option Notice) (s : State) : State :=
  s.withNtc { s.ntc with entries := s.ntc.entries.set e n }

/-- The class of an entry; 12, below every class, for a FREE one. -/
def classOf (c : Ntc) (e : Fin 24) : Nat :=
  match c.entries.get e with
  | some n => n.cls.val
  | none => 12

/-- The panels of an entry. -/
def entryPanels (s : State) (e : Fin 24) : BitVec 8 :=
  match s.ntc.entries.get e with
  | some n => n.panels
  | none => 0#8

/-- The place of an entry in the raise sequence, counting from 0 (R71). -/
def sequencePlace (c : Ntc) (e : Fin 24) : Nat := c.sequence.idxOf e

/-- Unforced entry `e` stands before unforced entry `f` in a pending list (R73): class, then raise sequence. -/
def pendsBefore (c : Ntc) (e f : Fin 24) : Bool :=
  decide (classOf c e < classOf c f)
    || (classOf c e == classOf c f && decide (sequencePlace c e < sequencePlace c f))

/-- An unforced entry put at its ordered place in a pending list (R73). -/
def insertWaiting (c : Ntc) (e : Fin 24) : List Waiting → List Waiting
  | [] => [⟨e, false⟩]
  | w :: rest =>
    if w.forced = false ∧ pendsBefore c e w.entry = true then ⟨e, false⟩ :: w :: rest
    else w :: insertWaiting c e rest

/-- A forced entry put behind the forced entries of a pending list (R73, R83); one forced before moves there (log 32). -/
def insertForced (e : Fin 24) : List Waiting → List Waiting
  | [] => [⟨e, true⟩]
  | w :: rest => if w.forced then w :: insertForced e rest else ⟨e, true⟩ :: w :: rest

/-- A pending list without an entry. -/
def dropWaiting (e : Fin 24) (l : List Waiting) : List Waiting := l.filter fun w => w.entry != e

/-- An entry joins a panel's pending list at its ordered place (R73). -/
def pend (e : Fin 24) (p : Fin 8) (s : State) : State :=
  setNtcPanel p (fun x => { x with waiting := insertWaiting s.ntc e x.waiting }) s

/-- The views a panel shows: its current view and those of its save stack. -/
def shownViews (x : NtcPanel) : List View := x.view :: x.stack.map fun c => c.view

/-- The entry is the panel's current view or stands in its save stack. -/
def shownOn (e : Fin 24) (x : NtcPanel) : Bool := (shownViews x).contains (some e)

/-- The class is that of the panel's current view or of a stacked view (R82, R88). -/
def classShown (c : Ntc) (cls : Nat) (x : NtcPanel) : Bool :=
  (shownViews x).any fun v => match v with
    | some f => classOf c f == cls
    | none => false

/-! ## View changes (R75) -/

/-- The layout that a panel's map gives for a class (R75). -/
def mapLayout (x : NtcPanel) (cls : Fin 12) : Fin 16 := x.map.get cls

/-- The view change that shows a view on a panel from given cursors (R75). -/
def viewChange (s : State) (p : Fin 8) (v : View) (cursors : Tab 8 Nat) : ViewChange :=
  match v with
  | none => ⟨p, none, none, none, cursors⟩
  | some e =>
    match s.ntc.entries.get e with
    | some n => ⟨p, some e, some n.cls, some (mapLayout (ntcPanel s p) n.cls), cursors⟩
    | none => ⟨p, none, none, none, cursors⟩

/-- A panel's view is set and the CMP told (R75). -/
def showView (p : Fin 8) (v : View) (cursors : Tab 8 Nat) (s : State) : State :=
  sendCmp (.view (viewChange s p v cursors)) (setNtcPanel p (fun x => { x with view := v }) s)

/-- The layout a view would use now (R92): the CMP's base layout for BASE. -/
def layoutNow (s : State) (p : Fin 8) (v : View) : Fin 16 :=
  match v with
  | none => (cmpPanel s p).baseLayout
  | some e =>
    match s.ntc.entries.get e with
    | some n => mapLayout (ntcPanel s p) n.cls
    | none => (cmpPanel s p).baseLayout

/-! ## Takes (4.6) -/

/-- The context that a take pushes (R89 steps 2, 3). -/
def contextOf (s : State) (p : Fin 8) : Context := ⟨(ntcPanel s p).view, (shownView s p).1, (shownView s p).2⟩

/-- What a take saves: a context with room on the stack (R89), the current entry to the pending list without (R90). -/
def saveView (p : Fin 8) (s : State) : State :=
  if (ntcPanel s p).stack.length < 3 then
    setNtcPanel p (fun x => { x with stack := contextOf s p :: x.stack }) s
  else
    match (ntcPanel s p).view with
    | some f => pend f p s
    | none => s

/-- The take of an entry on a panel (R82, R89, R90). -/
def takeEntry (e : Fin 24) (p : Fin 8) (s : State) : State :=
  showView p (some e) (Tab.fill 8 0)
    (saveView p (setNtcPanel p (fun x => { x with waiting := dropWaiting e x.waiting }) s))

/-- The gates of a class on a panel (R88). -/
def gateOpen (lobbyOpen : Bool) (x : NtcPanel) (cls : Nat) : Bool :=
  x.enableMask.getLsbD cls && (if lobbyOpen then !x.hold else x.closedMask.getLsbD cls)

/-- A class outranks a panel's current view (R88). -/
def outranks (c : Ntc) (cls : Nat) (x : NtcPanel) : Bool :=
  match x.view with
  | none => true
  | some f => decide (cls < classOf c f)

/-- A pending entry is a candidate on a panel (R88). -/
def isCandidate (c : Ntc) (x : NtcPanel) (e : Fin 24) : Bool :=
  gateOpen c.lobbyOpen x (classOf c e) && !classShown c (classOf c e) x && outranks c (classOf c e) x

/-- The first candidate in pending list order (R88). -/
def firstCandidate (c : Ntc) (x : NtcPanel) : Option (Fin 24) :=
  (x.waiting.find? fun w => isCandidate c x w.entry).map fun w => w.entry

/-- Repeat R88 until no candidate remains; each take raises the class shown, so twelve are the most (R87, R88). -/
def takeLoop : Nat → Fin 8 → State → State
  | 0, _, s => s
  | k + 1, p, s =>
    match firstCandidate s.ntc (ntcPanel s p) with
    | some e => takeLoop k p (takeEntry e p s)
    | none => s

/-- The fuel of `takeLoop`: one more than the classes. -/
def takeFuel : Nat := 13

/-- Takes evaluated on a panel: nothing is taken on a panel that is not LIVE (R87, R97). -/
def evalTakes (p : Fin 8) (s : State) : State := if (ntcPanel s p).live then takeLoop takeFuel p s else s

/-- Takes evaluated on the panels of a set, in panel order (R87). -/
def evalSet (m : BitVec 8) (s : State) : State := (panelsOf m).foldl (fun s p => evalTakes p s) s

/-- The forced entry at the head of a pending list. -/
def headForced (x : NtcPanel) : Option (Fin 24) :=
  match x.waiting with
  | w :: _ => if w.forced then some w.entry else none
  | [] => none

/-- One forced entry taken, or its mark cleared where its class is shown (R83). -/
def forcedStep (e : Fin 24) (p : Fin 8) (s : State) : State :=
  if classShown s.ntc (classOf s.ntc e) (ntcPanel s p) then
    pend e p (setNtcPanel p (fun x => { x with waiting := dropWaiting e x.waiting }) s)
  else takeEntry e p s

/-- Forced takes, one at a time from the head of the list, by recursion on fuel (R83). -/
def forcedLoop : Nat → Fin 8 → State → State
  | 0, _, s => s
  | k + 1, p, s =>
    match headForced (ntcPanel s p) with
    | some e => forcedLoop k p (forcedStep e p s)
    | none => s

/-! ## Retirement (4.7) -/

/-- Pop the top context of a panel's save stack (R92). -/
def popView (p : Fin 8) (s : State) : State :=
  match (ntcPanel s p).stack with
  | [] => showView p none (Tab.fill 8 0) s
  | c :: rest =>
    showView p c.view (if c.layout = layoutNow s p c.view then c.cursors else Tab.fill 8 0)
      (setNtcPanel p (fun x => { x with stack := rest }) s)

/-- The machine with a panel taken out of an entry's panels set (R91). -/
def leavePanel (e : Fin 24) (p : Fin 8) (s : State) : State :=
  match s.ntc.entries.get e with
  | some n => setEntry e (some { n with panels := dropPanel n.panels p }) s
  | none => s

/-- An entry retired from one panel: popped, spliced or no longer pending (R91 to R94). -/
def retireFrom (e : Fin 24) (p : Fin 8) (s : State) : State :=
  let t := leavePanel e p s
  if (ntcPanel t p).view = some e then popView p t
  else
    setNtcPanel p (fun x =>
      { x with
        stack := x.stack.filter fun c => c.view != some e
        waiting := dropWaiting e x.waiting }) t

/-- An entry becomes FREE: out of the raise sequence, an entry-free notice, and for an auto entry an auto-free report
(R71, R80, R91, R132). -/
def freeNotice (e : Fin 24) (s : State) : State :=
  match s.ntc.entries.get e with
  | none => s
  | some n =>
    let t := sendEntryFree e (s.withNtc { s.ntc with
      entries := s.ntc.entries.set e none
      sequence := s.ntc.sequence.filter fun f => f != e })
    match n.origin with
    | some slot => sendSch (.autoFree e slot) t
    | none => t

/-- An entry retired from every panel that holds it, in panel order, and so FREE (R81, R91). -/
def retireAll (e : Fin 24) (s : State) : State :=
  freeNotice e ((panelsOf (entryPanels s e)).foldl (fun s p => retireFrom e p s) s)

/-- Entries retired in order, then takes evaluated on each panel concerned (R95, R96). -/
def retireEach (l : List (Fin 24)) (s : State) : State :=
  evalSet (l.foldl (fun m e => m ||| entryPanels s e) 0#8) (l.foldl (fun s e => retireAll e s) s)

/-! ## RAISE (4.3) -/

/-- The lifetime of a RAISE as kept (R76). -/
def clampLifetime (v : Nat) : Nat := if v = 0 then 0 else clamp 5 3600 v

/-- A line of a RAISE in range: 1 to 64 glyphs of 0 to 1023 (R76). -/
def lineOk (l : List Nat) : Bool := decide (1 ≤ l.length) && decide (l.length ≤ 64) && glyphsOk l

/-- The fields of a RAISE that passes steps 1 and 2 of R76: entry and class. -/
def raiseTarget (f : RaiseFields) : Option (Fin 24 × Fin 12) :=
  match asFin 24 f.entry, asFin 12 f.cls with
  | some e, some c =>
    if f.entry ≤ 17 ∧ 0 < f.panels ∧ f.panels < 256 ∧ 1 ≤ f.lines.length ∧ f.lines.length ≤ 3
        ∧ f.lines.all lineOk = true then some (e, c)
    else none
  | _, _ => none

/-- The notice of a RAISE (R77). -/
def raisedNotice (f : RaiseFields) (c : Fin 12) : Notice :=
  ⟨c, none, BitVec.ofNat 8 f.panels, clampLifetime f.lifetime, none, .lines f.lines⟩

/-- The machine with an entry made LIVE at the end of the raise sequence (R71). -/
def addEntry (e : Fin 24) (n : Notice) (s : State) : State :=
  s.withNtc { s.ntc with entries := s.ntc.entries.set e (some n), sequence := s.ntc.sequence ++ [e] }

/-- The entry inserted into the pending list of each panel of a set, in panel order (R77, R80). -/
def pendEach (e : Fin 24) (m : BitVec 8) (s : State) : State := (panelsOf m).foldl (fun s p => pend e p s) s

/-- A new raise (R77). -/
def newRaise (e : Fin 24) (n : Notice) (s : State) : State := evalSet n.panels (pendEach e n.panels (addEntry e n s))

/-- A pending entry whose class has changed put at its new place; a forced one keeps its place (R79). -/
def movePending (e : Fin 24) (p : Fin 8) (s : State) : State :=
  if (ntcPanel s p).waiting.any fun w => w.entry == e && !w.forced then
    pend e p (setNtcPanel p (fun x => { x with waiting := dropWaiting e x.waiting }) s)
  else s

/-- One panel under a re-raise (R78, R79). `moved` says that the class changes. -/
def rePanel (e : Fin 24) (old new : BitVec 8) (moved : Bool) (p : Fin 8) (s : State) : State :=
  if old.getLsbD p.val = true ∧ new.getLsbD p.val = true then
    let t := if moved then movePending e p s else s
    if (ntcPanel t p).view = some e then sendCmp (.content p) t else t
  else if new.getLsbD p.val then pend e p s
  else if old.getLsbD p.val then retireFrom e p s
  else s

/-- A re-raise of a LIVE entry (R78, R79): its origin stays HEAD. -/
def reRaise (e : Fin 24) (old new : Notice) (s : State) : State :=
  evalSet (old.panels ||| new.panels)
    ((fins 8).foldl (fun s p => rePanel e old.panels new.panels (decide (old.cls ≠ new.cls)) p s)
      (setEntry e (some new) s))

/-- The entry is shown on some panel (R76 step 3). -/
def shownAnywhere (s : State) (e : Fin 24) : Bool := (fins 8).any fun p => shownOn e (ntcPanel s p)

/-- A RAISE packet at the NTC (R76). -/
def takeRaise (f : RaiseFields) (s : State) : State :=
  match raiseTarget f with
  | none => refuse .ntc 9 .badField f.entry s
  | some (e, c) =>
    match s.ntc.entries.get e with
    | none => newRaise e (raisedNotice f c) s
    | some old =>
      if old.cls ≠ c ∧ shownAnywhere s e = true then refuse .ntc 9 .classChange f.entry s
      else reRaise e old (raisedNotice f c) s

/-- The RAISE packet. -/
def pickRaise : Packet → Option (Nat → State → State)
  | .raise f => some fun _ => takeRaise f
  | _ => none

/-- RAISE (R76). -/
def execRaise (s : State) : Result := running s (deliver .ntc pickRaise)

/-! ## Auto raises (4.4) -/

/-- The lowest-numbered FREE entry of the auto pool (R80). -/
def freeAuto (c : Ntc) : Option (Fin 24) :=
  (fins 24).find? fun e => decide (18 ≤ e.val) && (c.entries.get e).isNone

/-- The notice of an auto raise (R80). -/
def autoNotice (r : AutoRaise) : Notice := ⟨r.cls, some r.slot, r.panels, r.lifetime, some r.slot, .template r.template⟩

/-- The raise report of a boarding raise (R22, R80). -/
def reportRaise (r : AutoRaise) (e : Option (Fin 24)) (s : State) : State :=
  if r.boarding then sendSch (.raiseReport r.slot r.id e) s else s

/-- An auto raise at the NTC (R80). DESIGN CHOICE (log 31): the key of AUTO_POOL_FULL is the showing id that the slot had when the raise was
sent. -/
def takeAutoRaise (r : AutoRaise) (s : State) : State :=
  match freeAuto s.ntc with
  | none => reportRaise r none (refuse .ntc r.cause .autoPoolFull (r.id.getD 0) s)
  | some e =>
    evalSet r.panels (reportRaise r (some e) (pendEach e r.panels (addEntry e (autoNotice r) s)))

/-- AUTO_RAISE from the SCH: the NTC takes its oldest request, if it is an auto raise (R80, R178). -/
def autoRaiseSch (s : State) : State :=
  match s.links.schNtc with
  | ⟨ep, .autoRaise r⟩ :: rest =>
    let t := s.withLinks { s.links with schNtc := rest }
    if isFresh .ntc ⟨ep, ()⟩ s then takeAutoRaise r t else t
  | _ => s

/-- AUTO_RAISE from the SLG (R36, R80, R178). -/
def autoRaiseSlg (s : State) : State :=
  match s.links.slgNtc with
  | [] => s
  | m :: rest =>
    let t := s.withLinks { s.links with slgNtc := rest }
    if isFresh .ntc m s then takeAutoRaise m.body t else t

/-- AUTO_RAISE (R80). -/
def doAutoRaise (sender : RaiseSender) (s : State) : State :=
  match sender with
  | .sch => autoRaiseSch s
  | .slg => autoRaiseSlg s

/-- AUTO_RAISE (R80). -/
def execAutoRaise (sender : RaiseSender) (s : State) : Result := running s (doAutoRaise sender)

/-! ## WITHDRAW, FORCE, lobby mode (4.5) -/

/-- A WITHDRAW packet at the NTC (R81). -/
def takeWithdraw (entry : Nat) (s : State) : State :=
  match asFin 24 entry with
  | none => refuse .ntc 10 .badField entry s
  | some e => if (s.ntc.entries.get e).isSome then retireEach [e] s else s

/-- The WITHDRAW packet. -/
def pickWithdraw : Packet → Option (Nat → State → State)
  | .withdraw e => some fun _ => takeWithdraw e
  | _ => none

/-- WITHDRAW (R81). -/
def execWithdraw (s : State) : Result := running s (deliver .ntc pickWithdraw)

/-- An accepted FORCE (R82, R83): the panel joins the entry's set; taken at once on a LIVE panel, else marked. DESIGN CHOICE (log 32): a
second FORCE of an entry already forced on a panel that is not LIVE moves it behind the other forced entries. -/
def applyForce (e : Fin 24) (n : Notice) (p : Fin 8) (s : State) : State :=
  let t := setEntry e (some { n with panels := addPanel n.panels p }) s
  if (ntcPanel s p).live then evalTakes p (takeEntry e p t)
  else setNtcPanel p (fun x => { x with waiting := insertForced e (dropWaiting e x.waiting) }) t

/-- A FORCE packet at the NTC (R82). -/
def takeForce (entry panel : Nat) (s : State) : State :=
  match asFin 24 entry, asFin 8 panel with
  | some e, some p =>
    match s.ntc.entries.get e with
    | none => refuse .ntc 11 .badField entry s
    | some n =>
      if classShown s.ntc n.cls.val (ntcPanel s p) then refuse .ntc 11 .classShown entry s else applyForce e n p s
  | _, _ => refuse .ntc 11 .badField entry s

/-- The FORCE packet. -/
def pickForce : Packet → Option (Nat → State → State)
  | .force e p => some fun _ => takeForce e p
  | _ => none

/-- FORCE (R82). -/
def execForce (s : State) : Result := running s (deliver .ntc pickForce)

/-- A LOBBY packet of a known mode (R84). -/
def setLobby (open' : Bool) (s : State) : State :=
  if s.ntc.lobbyOpen = open' then s else evalSet 255#8 (s.withNtc { s.ntc with lobbyOpen := open' })

/-- A LOBBY packet whose mode code meets a test. -/
def pickLobby (ok : Nat → Bool) (act : State → State) : Packet → Option (Nat → State → State)
  | .lobby m => if ok m then some fun _ => act else none
  | _ => none

/-- LOBBY_OPEN (R84). -/
def execLobbyOpen (s : State) : Result := running s (deliver .ntc (pickLobby (· == 1) (setLobby true)))

/-- LOBBY_CLOSED (R84). -/
def execLobbyClosed (s : State) : Result := running s (deliver .ntc (pickLobby (· == 0) (setLobby false)))

/-- LOBBY_BAD_MODE (R84). -/
def execLobbyBadMode (s : State) : Result :=
  running s (deliver .ntc (pickLobby (fun m => decide (1 < m)) (refuse .ntc 12 .badField 0)))

/-! ## Settings of a panel (R85, R86) -/

/-- A per-panel SET of the NTC: the panel check, then the value (R85). -/
def panelSet (item panel : Nat) (f : Option (NtcPanel → NtcPanel)) (s : State) : State :=
  match asFin 8 panel with
  | none => refuseSet .ntc .badItem item s
  | some p =>
    match f with
    | none => refuseSet .ntc .badField item s
    | some g => evalTakes p (setNtcPanel p g s)

/-- SET_ENABLE_MASK (R85). -/
def execSetEnableMask (s : State) : Result :=
  running s (deliver .ntc (pickSet 16 fun p v =>
    panelSet 16 p (if v < 4096 then some fun x => { x with enableMask := BitVec.ofNat 12 v } else none)))

/-- SET_CLOSED_MASK (R85). -/
def execSetClosedMask (s : State) : Result :=
  running s (deliver .ntc (pickSet 17 fun p v =>
    panelSet 17 p (if v < 4096 then some fun x => { x with closedMask := BitVec.ofNat 12 v } else none)))

/-- SET_NOTICE_HOLD (R85). -/
def execSetNoticeHold (s : State) : Result :=
  running s (deliver .ntc (pickSet 18 fun p v =>
    panelSet 18 p ((yesNo v).map fun b x => { x with hold := b })))

/-- The panel's current view is an entry of a class (R86). -/
def showsClass (s : State) (p : Fin 8) (cls : Fin 12) : Bool :=
  match (ntcPanel s p).view with
  | some e => classOf s.ntc e == cls.val
  | none => false

/-- A layout stored in a panel's map, with the view change it may need (R86). -/
def storeMap (p : Fin 8) (cls : Fin 12) (l : Fin 16) (s : State) : State :=
  let t := setNtcPanel p (fun x => { x with map := x.map.set cls l }) s
  if showsClass t p cls then showView p (ntcPanel t p).view (Tab.fill 8 0) t else t

/-- A SET of NOTICE_LAYOUT: panel in the first byte of the key, class in the second (R86, 10.4). -/
def applyNoticeLayout (key v : Nat) (s : State) : State :=
  match asFin 8 (key / 256) with
  | none => refuseSet .ntc .badItem 19 s
  | some p =>
    match asFin 12 (key % 256), asFin 16 v with
    | some c, some l => storeMap p c l s
    | _, _ => refuseSet .ntc .badField 19 s

/-- SET_NOTICE_LAYOUT (R86). -/
def execSetNoticeLayout (s : State) : Result := running s (deliver .ntc (pickSet 19 applyNoticeLayout))

/-! ## Expiry, sale-ends, presence (R95 to R97) -/

/-- The lifetime of an entry on a pulse (R95). -/
def countLife (n : Notice) : Notice := { n with lifetime := n.lifetime - 1 }

/-- The entries that a pulse brings to lifetime 0, in entry order (R95). -/
def expiring (c : Ntc) : List (Fin 24) :=
  (fins 24).filter fun e => match c.entries.get e with
    | some n => n.lifetime == 1
    | none => false

/-- A seconds pulse at the NTC (R95). -/
def takePulseNtc (s : State) : State :=
  retireEach (expiring s.ntc)
    (s.withNtc { s.ntc with entries := s.ntc.entries.map fun n => n.map countLife })

/-- NOTICE_EXPIRY: the NTC handles a seconds pulse (R95). -/
def doNoticeExpiry (s : State) : State :=
  if 0 < s.links.pulseNtc then
    takePulseNtc (s.withLinks { s.links with pulseNtc := s.links.pulseNtc - 1 })
  else s

/-- NOTICE_EXPIRY (R95). -/
def execNoticeExpiry (s : State) : Result := running s doNoticeExpiry

/-- The LIVE auto entries linked to a slot, in entry order (R96). -/
def linkedEntries (c : Ntc) (slot : Fin 96) : List (Fin 24) :=
  (fins 24).filter fun e => match c.entries.get e with
    | some n => n.linked == some slot
    | none => false

/-- SALE_END: the NTC takes the oldest request of the SCH, if it is a sale-end (R96, R178). -/
def doSaleEnd (s : State) : State :=
  match s.links.schNtc with
  | ⟨ep, .saleEnd slot⟩ :: rest =>
    let t := s.withLinks { s.links with schNtc := rest }
    if isFresh .ntc ⟨ep, ()⟩ s then retireEach (linkedEntries t.ntc slot) t else t
  | _ => s

/-- SALE_END (R96). -/
def execSaleEnd (s : State) : Result := running s doSaleEnd

/-- A change in or out of LIVE at the NTC: on LIVE, forced takes and then the ordinary evaluation (R83, R87, R97). -/
def takePresenceNtc (p : Fin 8) (mode : Mode) (s : State) : State :=
  let t := setNtcPanel p (fun x => { x with live := mode == .live }) s
  if mode = .live then evalTakes p (forcedLoop 24 p t) else t

/-- The reports of R155 of a port still on their way to the CMP. -/
def presenceOnWay (s : State) (p : Fin 8) : List FromPort :=
  (s.links.pnlCmp.get p).filter fun x => match x with
    | .presence _ => true
    | _ => false

/-- PRESENCE_REPORT_NTC: the NTC takes the oldest report of a port, once the CMP has taken the same one (R97, R155, log 9). -/
def doPresenceReportNtc (p : Fin 8) (s : State) : State :=
  match s.links.pnlNtc.get p with
  | [] => s
  | mode :: rest =>
    if (presenceOnWay s p).length ≤ rest.length then
      takePresenceNtc p mode (s.withLinks { s.links with pnlNtc := s.links.pnlNtc.set p rest })
    else s

/-- PRESENCE_REPORT_NTC (R97). -/
def execPresenceReportNtc (panel : Fin 8) (s : State) : Result := running s (doPresenceReportNtc panel)

/-! ## Reset (R72, R84, R99) -/

/-- A panel's notice state under a RESET OPS (R72, R99). -/
def NtcPanel.onOps (x : NtcPanel) : NtcPanel := { x with waiting := [], view := none, stack := [] }

/-- The NTC takes a RESET (R72, R84, R99). DESIGN CHOICE (log 37): after a RESET ALL it holds every panel not LIVE until the next report. -/
def Ntc.onReset (all : Bool) (c : Ntc) : Ntc :=
  if all then Ntc.reset
  else { c with entries := Tab.fill 24 none, sequence := [], panels := c.panels.map NtcPanel.onOps }

/-- The LIVE entries, in entry order (R70). -/
def liveEntries (c : Ntc) : List (Fin 24) := (fins 24).filter fun e => (c.entries.get e).isSome

/-- The NTC takes a RESET: its state, and an entry-free notice for every entry that becomes FREE; no view change, auto-free report or
refusal (R99, R132). -/
def resetNtc (all : Bool) (s : State) : State :=
  (liveEntries s.ntc).foldl (fun s e => sendEntryFree e s) (s.withNtc (s.ntc.onReset all))

end Sys2Proof.Machine
end

