-- ==== Sys2Proof/Machine/Channels.lean ====
section
/-! DEFINITION. Chapter 7: the blit channels (BLC): job arrival, starting jobs, the grid port and its arbiter, units, the
announce yield, cancels and reports, stopping, faults and CHANNEL_CLEAR. -/

namespace Sys2Proof.Machine

/-! ## Channels and their jobs (7.1, 7.2) -/

/-- A channel. -/
def chan (s : State) (n : Fin 4) : Channel := s.blc.channels.get n

/-- The machine with a channel replaced by `f` of it. -/
def setChan (n : Fin 4) (f : Channel → Channel) (s : State) : State :=
  s.withBlc { s.blc with channels := s.blc.channels.modify n f }

/-- A channel's queue of a lane replaced. -/
def Channel.withQueue (c : Channel) (lane : Lane) (l : List Job) : Channel :=
  match lane with
  | .normal => { c with normal := l }
  | .announce => { c with announce := l }

/-- The channel has work (R133). -/
def hasWork (c : Channel) : Bool :=
  c.current.isSome || c.aside.isSome || !c.normal.isEmpty || !c.announce.isEmpty

/-- A TILE job's unpin goes to the Tile Store (R124, R140). -/
def unpinJob (n : Fin 4) (j : Job) (s : State) : State :=
  match j.source with
  | .tile r => sendUnpin n r s
  | _ => s

/-- Report a job as `x`, then unpin it (R140). -/
def reportJob (n : Fin 4) (x : FromChannel) (j : Job) (s : State) : State := unpinJob n j (sendReport n x s)

/-- Counts of a channel that add 1 (R148). -/
def countUnit (c : Channel) : Channel := { c with counts := { c.counts with units := bump c.counts.units } }
def countCompleted (c : Channel) : Channel := { c with counts := { c.counts with completed := bump c.counts.completed } }
def countDiscarded (c : Channel) : Channel := { c with counts := { c.counts with discarded := bump c.counts.discarded } }
def countAbandoned (c : Channel) : Channel := { c with counts := { c.counts with abandoned := bump c.counts.abandoned } }
def countCleared (c : Channel) : Channel := { c with counts := { c.counts with cleared := bump c.counts.cleared } }
def countFault (c : Channel) : Channel := { c with counts := { c.counts with faults := bump c.counts.faults } }

/-! ## Starting jobs (R132, R135) -/

/-- A job as it is started, with its formatted line (R132). -/
def startedJob (s : State) (j : Job) : Job := { j with line := sourceLine s j.count j.source }

/-- A channel with a job that requests the grid port (R135, R136). -/
def Channel.request (c : Channel) (j : Job) : Channel := { c with current := some j, phase := .requesting }

/-- The job at the head of a queue leaves it, with its queue-room report (R135). -/
def leaveQueue (n : Fin 4) (lane : Lane) (rest : List Job) (s : State) : State :=
  sendReport n (.room lane) (setChan n (fun c => c.withQueue lane rest) s)

/-- A job taken from a queue head for a panel that is not LIVE is discarded (R135). -/
def discardHead (n : Fin 4) (j : Job) (s : State) : State :=
  setChan n countDiscarded (reportJob n (.discarded j.panel j.number) j s)

/-- A job taken from a queue head is started (R135). -/
def startHead (n : Fin 4) (j : Job) (s : State) : State := setChan n (fun c => c.request (startedJob s j)) s

/-- The lane and job that a channel with no current job takes from a queue, or its aside job, or nothing (R135). -/
inductive Choice where
  | head (lane : Lane) (j : Job) (rest : List Job)
  | aside (j : Job)
  | nothing
deriving DecidableEq, Repr

/-- The order of R135. -/
def choiceOf (c : Channel) : Choice :=
  match c.announce with
  | j :: rest => .head .announce j rest
  | [] =>
    match c.aside with
    | some j => .aside j
    | none =>
      match c.normal with
      | j :: rest => .head .normal j rest
      | [] => .nothing

/-- A channel chooses a job, discarding those of panels that are not LIVE, by recursion on fuel (R135). -/
def chooseLoop : Nat → Fin 4 → State → State
  | 0, _, s => s
  | k + 1, n, s =>
    match choiceOf (chan s n) with
    | .nothing => setChan n (fun c => { c with state := .idle, phase := .none }) s
    | .aside j => setChan n (fun c => { (c.request j) with aside := none }) s
    | .head lane j rest =>
      let t := leaveQueue n lane rest s
      if portLive t j.panel then startHead n j t else chooseLoop k n (discardHead n j t)

/-- A channel that is ACTIVE with no current job chooses one (R135). -/
def choose (n : Fin 4) (s : State) : State :=
  chooseLoop ((chan s n).normal.length + (chan s n).announce.length + 1) n s

/-- The current normal job is put aside and the announce queue's head started (R139). -/
def yieldNow (n : Fin 4) (s : State) : State :=
  choose n (setChan n (fun c => { c with aside := c.current, current := none, phase := .none }) s)

/-! ## Arrival (R134) -/

/-- The current job is a normal one. -/
def currentNormal (c : Channel) : Bool :=
  match c.current with
  | some j => j.lane == .normal
  | none => false

/-- A job joins the end of its queue. -/
def enqueue (n : Fin 4) (j : Job) (s : State) : State :=
  setChan n (fun c => c.withQueue j.lane (queueOf c j.lane ++ [j])) s

/-- What an arrival does, by the channel state (R134). -/
def takeArrival (n : Fin 4) (j : Job) (s : State) : State :=
  let c := chan s n
  let t := enqueue n j s
  match c.state with
  | .idle =>
    if s.blc.run then choose n (setChan n (fun c => { c with state := .active }) t)
    else setChan n (fun c => { c with state := .stopped }) t
  | .active =>
    if c.phase = .requesting ∧ currentNormal c = true ∧ j.lane = .announce then yieldNow n t else t
  | _ => t

/-- The links with the requests to a channel replaced. -/
def State.withRequests (s : State) (n : Fin 4) (l : List ToChannel) : State :=
  s.withLinks { s.links with cmpBlc := s.links.cmpBlc.set n l }

/-- JOB_ARRIVAL: a channel takes the oldest request of the CMP, if it is a job (R134). -/
def doJobArrival (n : Fin 4) (s : State) : State :=
  match s.links.cmpBlc.get n with
  | .job j :: rest => takeArrival n j (s.withRequests n rest)
  | _ => s

/-- JOB_ARRIVAL (R134). -/
def execJobArrival (channel : Fin 4) (s : State) : Result := running s (doJobArrival channel)

/-! ## Cancels (R141) -/

/-- Every job of a panel in one queue removed and reported discarded, with one queue-room report (R140, R141). DESIGN CHOICE (log 36): the
queue-room report goes behind the queue's discarded reports. -/
def cancelQueue (n : Fin 4) (lane : Lane) (p : Fin 8) (s : State) : State :=
  let q := queueOf (chan s n) lane
  let gone := q.filter fun j => j.panel == p
  if gone.isEmpty then s
  else
    sendReport n (.room lane)
      (gone.foldl (fun s j => reportJob n (.discarded j.panel j.number) j s)
        (setChan n (fun c => c.withQueue lane (q.filter fun j => j.panel != p)) s))

/-- A started job's abandonment: report, unpin, count (R141). -/
def abandon (n : Fin 4) (j : Job) (s : State) : State :=
  setChan n countAbandoned (reportJob n (.abandoned j.panel j.number) j s)

/-- An aside job of the panel is abandoned (R141 step 2). -/
def cancelAside (n : Fin 4) (p : Fin 8) (s : State) : State :=
  match (chan s n).aside with
  | some j => if j.panel = p then abandon n j (setChan n (fun c => { c with aside := none }) s) else s
  | none => s

/-- The current job of the panel, by the channel state and port phase (R141 step 3). -/
def cancelCurrent (n : Fin 4) (p : Fin 8) (s : State) : State :=
  match (chan s n).current with
  | some j =>
    if j.panel ≠ p ∨ (chan s n).state = .fault then s
    else if (chan s n).phase = .writing then
      setChan n (fun c => { c with cancelPending := addPanel c.cancelPending p }) s
    else abandon n j (setChan n (fun c => { c with current := none, phase := .none }) s)
  | none => s

/-- A channel without a current job after a cancel (R141). -/
def afterCancel (n : Fin 4) (s : State) : State :=
  let c := chan s n
  if c.state = .active ∧ c.current.isNone = true then choose n s
  else if c.state = .stopped ∧ hasWork c = false then setChan n (fun c => { c with state := .idle }) s
  else s

/-- The jobs of a panel removed by a cancel (R141 steps 1 to 3). -/
def cancelJobs (n : Fin 4) (p : Fin 8) (s : State) : State :=
  cancelCurrent n p (cancelAside n p (cancelQueue n .normal p (cancelQueue n .announce p s)))

/-- JOB_CANCEL: a channel takes the oldest request of the CMP, if it is a cancel (R141). -/
def doJobCancel (n : Fin 4) (s : State) : State :=
  match s.links.cmpBlc.get n with
  | .cancel p :: rest => afterCancel n (cancelJobs n p (s.withRequests n rest))
  | _ => s

/-- JOB_CANCEL (R141). -/
def execJobCancel (channel : Fin 4) (s : State) : Result := running s (doJobCancel channel)

/-! ## Entry-free notices (R132) -/

/-- The ink and paper of a NOTICE job for an entry. -/
def noticeInk (e : Fin 24) (j : Job) : Option (Nat × Nat) :=
  match j.source with
  | .notice f _ ink paper => if f = e then some (ink, paper) else none
  | _ => none

/-- A job whose line is blanked from `done` onward when its entry becomes FREE (R132). -/
def blankJob (e : Fin 24) (j : Job) : Job :=
  match noticeInk e j with
  | some (ink, paper) =>
    { j with
      line := j.line.map fun l => l.take j.done ++ (l.drop j.done).map fun _ => spaceCell ink paper }
  | none => j

/-- A channel under an entry-free notice (R132). -/
def Channel.blank (e : Fin 24) (c : Channel) : Channel :=
  { c with current := c.current.map (blankJob e), aside := c.aside.map (blankJob e) }

/-- The unit in writing under an entry-free notice: its cells are cells of the line from `done` onward (log 12). -/
def blankUnit (e : Fin 24) (b : Blc) (u : WritingUnit) : WritingUnit :=
  match (b.channels.get u.channel).phase, (b.channels.get u.channel).current.bind (noticeInk e) with
  | .writing, some (ink, paper) => { u with cells := u.cells.map fun ac => (ac.1, spaceCell ink paper) }
  | _, _ => u

/-- ENTRY_FREE_NOTICE: the Blit Channels take the oldest notice of the NTC (R132). -/
def doEntryFreeNotice (s : State) : State :=
  match s.links.ntcBlc with
  | [] => s
  | e :: rest =>
    let t := s.withLinks { s.links with ntcBlc := rest }
    t.withBlc { t.blc with channels := t.blc.channels.map (Channel.blank e), unit := t.blc.unit.map (blankUnit e t.blc) }

/-- ENTRY_FREE_NOTICE (R132). -/
def execEntryFreeNotice (s : State) : Result := running s doEntryFreeNotice

/-! ## The grid port (R136, R137, R144) -/

/-- A channel requests the grid port for a job of a lane (R136). -/
def requests (c : Channel) (lane : Lane) : Bool :=
  c.state == .active && c.phase == .requesting && (match c.current with
    | some j => j.lane == lane
    | none => false)

/-- The channels requesting in a lane, from `first` on in cyclic order (R136). -/
def requesters (b : Blc) (first : Nat) (lane : Lane) : List (Fin 4) :=
  ((List.range 4).map fun k => (⟨(first + k) % 4, Nat.mod_lt _ (by decide)⟩ : Fin 4)).filter fun n =>
    requests (b.channels.get n) lane

/-- Where the arbiter begins to look: channel 0 in fixed mode, after the last granted channel in rotating mode (R136). -/
def firstLooked (b : Blc) : Nat := if b.rotating then b.lastGranted.val + 1 else 0

/-- The channel that the arbiter grants: announce before normal (R136). -/
def granted (b : Blc) : Option (Fin 4) :=
  match requesters b (firstLooked b) .announce with
  | n :: _ => some n
  | [] =>
    match requesters b (firstLooked b) .normal with
    | n :: _ => some n
    | [] => none

/-- Row and column of cell `i` of a job (R131). -/
def cellPlace (j : Job) (i : Nat) : Nat × Nat :=
  match j.span with
  | none => (j.row, j.column + i)
  | some k => (j.row + i / k, i % k)

/-- The number of cells of a job's next unit (R137). -/
def unitSize (j : Job) : Nat := min Config.unitCells (j.count - j.done)

/-- The cell numbers of a job's next unit (R137). -/
def unitCells (j : Job) : List Nat := (List.range (unitSize j)).map fun k => j.done + k

/-- The unit lies within a geometry (R137). -/
def inGeometry (columns rows : Nat) (j : Job) : Bool :=
  (unitCells j).all fun i => decide ((cellPlace j i).1 < rows) && decide ((cellPlace j i).2 < columns)

/-- The grid address of cell `i` of a job. -/
def cellAddress (j : Job) (i : Nat) : Nat := gridAddress (cellPlace j i).1 (cellPlace j i).2

/-- The cells of a job's next unit (R131, R137); none is "no source". -/
def unitContent (s : State) (j : Job) : Option (List Cell) :=
  match j.source with
  | .fill c => some ((unitCells j).map fun _ => c)
  | .tile r => readTile s.tst r j.done (unitSize j)
  | .copy => some ((unitCells j).map fun i => (s.ports.get j.panel).active.read (cellAddress j i))
  | _ => some ((unitCells j).map fun i => (j.line.getD []).getD i Cell.blank)

/-- The check of a granted unit: its cells, or why it fails (R137). -/
def checkUnit (s : State) (j : Job) : Except FaultReason (List Cell) :=
  if inGeometry (s.ports.get j.panel).columns (s.ports.get j.panel).rows j then
    match unitContent s j with
    | some l => .ok l
    | none => .error .noSource
  else .error .outOfGrid

/-- A channel whose unit has failed (R144 steps 2 and 3). -/
def Channel.fail (c : Channel) (r : FaultReason) (j : Job) : Channel :=
  countFault { c with
    state := .fault, phase := .none, cancelPending := dropPanel c.cancelPending j.panel
    fault := some ⟨r, j.panel, j.number, false⟩ }

/-- A failed unit: the channel faults and posts CHANNEL_FAULT; the port stays free (R144). -/
def failUnit (n : Fin 4) (r : FaultReason) (j : Job) (s : State) : State :=
  post .blc .channelFault n.val [r.code, j.panel.val] (setChan n (fun c => c.fail r j) s)

/-- A unit that passes begins to be written (R136, R137). -/
def beginUnit (n : Fin 4) (j : Job) (cells : List Cell) (s : State) : State :=
  let t := setChan n (fun c => { c with phase := .writing }) s
  t.withBlc { t.blc with unit := some ⟨n, j.panel, ((unitCells j).map (cellAddress j)).zip cells⟩ }

/-- The grant of the port to a channel with its current job (R136, R137). -/
def grantUnit (n : Fin 4) (j : Job) (s : State) : State :=
  let t := s.withBlc { s.blc with lastGranted := n }
  match checkUnit t j with
  | .ok cells => beginUnit n j cells t
  | .error r => failUnit n r j t

/-- UNIT_GRANT: the arbiter grants a free port (R136). -/
def doUnitGrant (s : State) : State :=
  match s.blc.unit, granted s.blc with
  | none, some n =>
    match (chan s n).current with
    | some j => grantUnit n j s
    | none => s
  | _, _ => s

/-- UNIT_GRANT (R136). -/
def execUnitGrant (s : State) : Result := running s doUnitGrant

/-! ## The unit boundary (R138, R139) -/

/-- Step 1 of R138: completion. -/
def completeStep (n : Fin 4) (s : State) : State :=
  match (chan s n).current with
  | some j =>
    if j.done = j.count then
      setChan n (fun c => countCompleted { c with current := none })
        (reportJob n (.completed j.panel j.number) j s)
    else s
  | none => s

/-- Step 2 of R138: the cancel of the panel of the unit just written. -/
def cancelStep (n : Fin 4) (p : Fin 8) (s : State) : State :=
  let t := setChan n (fun c => { c with cancelPending := dropPanel c.cancelPending p }) s
  match (chan s n).current with
  | some j =>
    if (chan s n).cancelPending.getLsbD j.panel.val then
      abandon n j (setChan n (fun c => { c with current := none }) t)
    else t
  | none => t

/-- Step 3 of R138: the channel stops, or is IDLE when it has no work. -/
def stopStep (n : Fin 4) (s : State) : State :=
  setChan n (fun c => { c with state := if hasWork c then .stopped else .idle, phase := .none }) s

/-- Steps 4 and 5 of R138: yield, or the next unit or job. -/
def nextStep (n : Fin 4) (s : State) : State :=
  let c := chan s n
  if currentNormal c = true ∧ c.announce.isEmpty = false then yieldNow n s
  else
    match c.current with
    | some _ => setChan n (fun c => { c with phase := .requesting }) s
    | none => choose n s

/-- The unit boundary (R138). -/
def boundary (n : Fin 4) (p : Fin 8) (s : State) : State :=
  let t := cancelStep n p (completeStep n s)
  if t.blc.run then nextStep n t else stopStep n t

/-- The cells of a unit written into the panel's shadow grid, and the port free (R131, R137). -/
def writeUnit (u : WritingUnit) (s : State) : State :=
  let t := s.withPorts (s.ports.modify u.panel fun p => p.withShadow (p.shadow.writeAll u.cells))
  t.withBlc { t.blc with unit := none }

/-- A channel after its unit has been written: done and the count (R137). -/
def advanceDone (k : Nat) (c : Channel) : Channel :=
  countUnit { c with phase := .none, current := c.current.map fun j => { j with done := j.done + k } }

/-- UNIT_WRITTEN: the unit in writing ends; a unit whose channel a reset has emptied has nothing following it (R138, R149). -/
def doUnitWritten (s : State) : State :=
  match s.blc.unit with
  | none => s
  | some u =>
    let t := writeUnit u s
    if (chan s u.channel).phase = .writing then
      boundary u.channel u.panel (setChan u.channel (advanceDone u.cells.length) t)
    else t

/-- UNIT_WRITTEN (R138). -/
def execUnitWritten (s : State) : Result := running s doUnitWritten

/-! ## Settings (R142, R143, R146) -/

/-- A channel when channels_run is set off (R142). -/
def Channel.stop (c : Channel) : Channel :=
  if c.state = .active ∧ c.phase ≠ .writing then { c with state := .stopped, phase := .none } else c

/-- A channel when channels_run is set on (R142). -/
def resumeChannel (n : Fin 4) (s : State) : State :=
  if (chan s n).state = .stopped then
    match (chan s n).current with
    | some _ => setChan n (fun c => { c with state := .active, phase := .requesting }) s
    | none => choose n (setChan n (fun c => { c with state := .active }) s)
  else s

/-- A SET of channels_run applied (R142). -/
def applyRun (on' : Bool) (s : State) : State :=
  if s.blc.run = on' then s
  else if on' then (fins 4).foldl (fun s n => resumeChannel n s) (s.withBlc { s.blc with run := true })
  else s.withBlc { s.blc with run := false, channels := s.blc.channels.map Channel.stop }

/-- A SET packet of channels_run (R142, R181). -/
def takeRun (v : Nat) (s : State) : State :=
  match yesNo v with
  | some b => applyRun b s
  | none => refuseSet .blc .badField 15 s

/-- SET_CHANNELS_RUN (R142). -/
def execSetChannelsRun (s : State) : Result := running s (deliver .blc (pickSet 15 fun _ v => takeRun v))

/-- A SET packet of arbitration (R143, R181). -/
def takeArbitration (v : Nat) (s : State) : State :=
  match yesNo v with
  | some b => s.withBlc { s.blc with rotating := b }
  | none => refuseSet .blc .badField 14 s

/-- SET_ARBITRATION (R143). -/
def execSetArbitration (s : State) : Result := running s (deliver .blc (pickSet 14 fun _ v => takeArbitration v))

/-- Step 1 of R146: the faulted job is ended. -/
def endFaulted (n : Fin 4) (j : Job) (s : State) : State :=
  setChan n (fun c => countCleared { c with current := none }) (reportJob n (.cleared j.panel j.number) j s)

/-- Steps 3 and 4 of R146. -/
def leaveFault (n : Fin 4) (s : State) : State :=
  let t := setChan n (fun c => { c with fault := c.fault.map fun f => { f with cleared := true } }) s
  if t.blc.run then choose n (setChan n (fun c => { c with state := .active }) t) else stopStep n t

/-- CHANNEL_CLEAR of a channel (R146). -/
def clearChannel (n : Fin 4) (s : State) : State :=
  if (chan s n).state = .fault then
    match (chan s n).current with
    | some j => leaveFault n (cancelJobs n j.panel (endFaulted n j s))
    | none => leaveFault n s
  else s

/-- A SET packet of CHANNEL_CLEAR (R146). -/
def takeChannelClear (key : Nat) (s : State) : State :=
  match asFin 4 key with
  | some n => clearChannel n s
  | none => refuseSet .blc .badItem itemChannelClear s

/-- SET_CHANNEL_CLEAR (R146). -/
def execSetChannelClear (s : State) : Result :=
  running s (deliver .blc (pickSet itemChannelClear fun k _ => takeChannelClear k))

/-! ## Reset (R149) -/

/-- The Blit Channels take a RESET; a unit in writing goes on to its end (R149). -/
def Blc.onReset (all : Bool) (b : Blc) : Blc :=
  if all then { Blc.reset with unit := b.unit }
  else
    { Blc.reset with
      channels := b.channels.map fun c => Channel.idle c.counts, run := b.run, rotating := b.rotating, unit := b.unit }

end Sys2Proof.Machine
end

