-- ==== Sys2Proof/Machine/Ports.lean ====
section
/-! DEFINITION. Chapter 8: the panel ports (PNL): modes and presence, frames and swaps, geometry and rate, picture segments,
and their resets. -/

namespace Sys2Proof.Machine

/-- A port. -/
def portOf (s : State) (p : Fin 8) : Port := s.ports.get p

/-- The machine with a port replaced by `f` of it. -/
def setPort (p : Fin 8) (f : Port → Port) (s : State) : State := s.withPorts (s.ports.modify p f)

/-! ## Leaving and becoming LIVE (8.2) -/

/-- The segments that a port leaving LIVE cuts or removes (R153 step 3). -/
def segmentsHeld (x : Port) : Nat := x.buffer.length + (if x.segment.isSome then 1 else 0)

/-- Mute on, segments cut or removed, each counted as gated (R151, R153). -/
def Port.drain (x : Port) : Port :=
  { x with
    mute := true, buffer := [], segment := none, presence := 0
    gated := satAdd Config.countTop x.gated (segmentsHeld x) }

/-- The link of a port that a fall has muted: a frame begun goes on blank, one behind a cut segment follows at once (R153, R157). -/
def Port.blankLink (x : Port) : Port :=
  let f := (x.frame.or x.frameWaiting).map fun f => { f with blanked := true }
  { x with frame := f, frameWaiting := none, phase := if f.isSome then .grid else .idle }

/-- The link of a port that goes DARK: silent at once (R151). -/
def Port.silenceLink (x : Port) : Port := { x with frame := none, frameWaiting := none, phase := .idle }

/-- The reports of R155 with the port's new mode, to the CMP first and to the NTC second. -/
def reportMode (p : Fin 8) (mode : Mode) (s : State) : State :=
  sendPresenceNtc p mode (sendFromPort p (.presence mode) s)

/-- A fall of the presence line of a LIVE port (R153). -/
def loseP (p : Fin 8) (s : State) : State :=
  let x := portOf s p
  reportMode p .waiting
    (post .pnl .panelLost p.val [segmentsHeld x, if x.mute then 1 else 0]
      (setPort p (fun x => { x.drain.blankLink with mode := .waiting, level := false }) s))

/-- PRESENCE_FALL (R152 to R154). -/
def doPresenceFall (p : Fin 8) (s : State) : State :=
  let x := portOf s p
  if x.level then
    match x.mode with
    | .waiting => setPort p (fun x => { x with level := false, presence := 0 }) s
    | .live => loseP p s
    | .dark => setPort p (fun x => { x with level := false }) s
  else s

/-- PRESENCE_FALL; while RESET_N is low only the level changes (R150, R194, log 13). -/
def execPresenceFall (panel : Fin 8) (s : State) : Result :=
  if s.inReset then .next (setPort panel (fun x => { x with level := false }) s) else .next (doPresenceFall panel s)

/-- PRESENCE_RISE: a rise changes no count (R152). -/
def execPresenceRise (panel : Fin 8) (s : State) : Result :=
  .next (setPort panel (fun x => { x with level := true }) s)

/-- A port becomes LIVE (R152 steps 1 to 3). -/
def becomeLive (p : Fin 8) (s : State) : State :=
  let x := portOf s p
  reportMode p .live
    (post .pnl .panelBack p.val [x.columns, x.rows] (setPort p (fun x => { x with mode := .live, presence := 2 }) s))

/-- A WAITING port on a seconds pulse (R152). -/
def judgePresence (p : Fin 8) (s : State) : State :=
  let x := portOf s p
  if x.level = false then setPort p (fun x => { x with presence := 0 }) s
  else if x.presence = 0 then setPort p (fun x => { x with presence := 1 }) s
  else becomeLive p s

/-- The pulses on their way to a port. -/
def State.withPulses (s : State) (p : Fin 8) (n : Nat) : State :=
  s.withLinks { s.links with pulsePnl := s.links.pulsePnl.set p n }

/-- PANEL_BACK: a port handles a seconds pulse; the pulse that brings its count to 2 makes it LIVE (R152). -/
def doPanelBack (p : Fin 8) (s : State) : State :=
  let k := s.links.pulsePnl.get p
  if 0 < k then
    let t := s.withPulses p (k - 1)
    if (portOf s p).mode = .waiting then judgePresence p t else t
  else s

/-- PANEL_BACK (R152). -/
def execPanelBack (panel : Fin 8) (s : State) : Result := running s (doPanelBack panel)

/-! ## SET PANEL_ENABLE, PANEL_GEOMETRY, PANEL_RATE (R151, R160) -/

/-- enable set off (R151). -/
def disablePort (p : Fin 8) (s : State) : State :=
  match (portOf s p).mode with
  | .dark => setPort p (fun x => { x with enable := false }) s
  | .waiting => setPort p (fun x => { x.silenceLink with enable := false, mode := .dark, presence := 0 }) s
  | .live => reportMode p .dark (setPort p (fun x => { x.drain.silenceLink with enable := false, mode := .dark }) s)

/-- enable set on (R151). -/
def enablePort (p : Fin 8) (s : State) : State :=
  setPort p (fun x => if x.mode = .dark then { x with enable := true, mode := .waiting, presence := 0 }
    else { x with enable := true }) s

/-- A per-panel SET of the ports: the panel check, then the value (R151, R160). -/
def portSet (item panel : Nat) (f : Option (Fin 8 → State → State)) (s : State) : State :=
  match asFin 8 panel with
  | none => refuseSet .pnl .badItem item s
  | some p =>
    match f with
    | none => refuseSet .pnl .badField item s
    | some g => g p s

/-- What a value of PANEL_ENABLE does, where it is in range (R151). -/
def enableAction (v : Nat) : Option (Fin 8 → State → State) :=
  (yesNo v).map fun b => if b then enablePort else disablePort

/-- SET_PANEL_ENABLE (R151). -/
def execSetPanelEnable (s : State) : Result :=
  running s (deliver .pnl (pickSet 21 fun p v => portSet 21 p (enableAction v)))

/-- What a value of PANEL_GEOMETRY does: columns in the first byte, rows in the second (R160, 10.4). -/
def geometryAction (v : Nat) : Option (Fin 8 → State → State) :=
  let columns := v / 256
  let rows := v % 256
  if 16 ≤ columns ∧ columns ≤ 64 ∧ 9 ≤ rows ∧ rows ≤ 36 then
    some fun p => setPort p fun x => { x with geometryPending := some (columns, rows) }
  else none

/-- SET_PANEL_GEOMETRY (R160). -/
def execSetPanelGeometry (s : State) : Result :=
  running s (deliver .pnl (pickSet itemPanelGeometry fun p v => portSet itemPanelGeometry p (geometryAction v)))

/-- What a value of PANEL_RATE does (R160). -/
def rateAction (v : Nat) : Option (Fin 8 → State → State) :=
  if v = 50 ∨ v = 60 then some fun p => setPort p fun x => { x with ratePending := some v } else none

/-- SET_PANEL_RATE (R160). -/
def execSetPanelRate (s : State) : Result :=
  running s (deliver .pnl (pickSet itemPanelRate fun p v => portSet itemPanelRate p (rateAction v)))

/-! ## Frame starts (8.3, R162) -/

/-- A pending geometry that differs from the one in force (R162). -/
def geometryTakes (x : Port) : Bool :=
  match x.geometryPending with
  | some g => g != (x.columns, x.rows)
  | none => false

/-- A pending rate that differs from the one in force (R162). -/
def rateTakes (x : Port) : Bool :=
  match x.ratePending with
  | some r => r != x.rate
  | none => false

/-- The port with its pending values in force or cleared; a new geometry mutes (R162). -/
def Port.applyPending (x : Port) : Port :=
  { x with
    columns := (x.geometryPending.getD (x.columns, x.rows)).1
    rows := (x.geometryPending.getD (x.columns, x.rows)).2
    rate := x.ratePending.getD x.rate
    mute := x.mute || geometryTakes x
    geometryPending := none, ratePending := none }

/-- Step 1 of R157 with its geometry report (R162). -/
def takePending (p : Fin 8) (s : State) : State :=
  let x := portOf s p
  let t := setPort p Port.applyPending s
  if geometryTakes x || rateTakes x then
    sendFromPort p (.geometry (portOf t p).columns (portOf t p).rows (portOf t p).rate) t
  else t

/-- The port reads the panel's build state at this frame start (R157 steps 2 and 3). -/
def readsBuild (x : Port) : Bool := !(geometryTakes x || rateTakes x) && x.mode == .live && !x.swapHold

/-- A geometry or presence report of a port is still on its way to the CMP, and will make the panel's build DIRTY (R111, R116, R158). -/
def reportOnWay (s : State) (p : Fin 8) : Bool :=
  (s.links.pnlCmp.get p).any fun x => match x with
    | .gridCleared _ => false
    | _ => true

/-- A pane with cells of the panel's current view has a pane state that meets a condition. -/
def somePane (s : State) (p : Fin 8) (cond : Pane → PaneState → Bool) : Bool :=
  let c := cmpPanel s p
  ((viewLayout s p).panes.zip c.panes.list).any fun xy => hasCells c xy.1 && cond xy.1 xy.2

/-- A purge report is still on its way to the CMP whose showing has a condemned line in the panel's build (R125, log 19). -/
def purgeOnWay (s : State) (p : Fin 8) : Bool :=
  s.links.tstCmp.any fun m => match m.body with
    | .purged slot => isFresh .cmp m s && somePane s p fun x y => isListing x && condemnedLine slot s.tst y
    | .unpinned => false

/-- Two row jobs of a pane were made from different rosters (R107). -/
def PaneState.mixed (y : PaneState) : Bool := y.issued.any fun a => y.issued.any fun b => a.roster != b.roster

/-- A roster change is still on its way to the CMP for a pane with rows issued before it and rows issued after it (R107, log 19). -/
def rosterOnWay (s : State) (p : Fin 8) : Bool :=
  s.links.schCmp.any fun m => isFresh .cmp m s && somePane s p fun x y => namesFilter m.body x && y.mixed

/-- What is on its way to the CMP lets no build be swapped: a geometry or presence report of the port, a purge report of a condemned line in
the build, or the roster change of a pane with rows from before and after it (R107, R116, R125, R158, log 19). -/
def swapWaits (s : State) (p : Fin 8) : Bool := reportOnWay s p || purgeOnWay s p || rosterOnWay s p

/-- The swap: tags exchanged, mute off, and the CMP takes the report (R116, R158). -/
def swapGrids (p : Fin 8) (s : State) : State :=
  takeSwap p (setPort p (fun x => { x with activeOne := !x.activeOne, mute := false }) s)

/-- The header of the frame that a port begins (R156). -/
def nextFrame (x : Port) : Frame :=
  ⟨(x.frameNumber + 1) % 65536, x.columns, x.rows, x.rate, x.mode != .live || x.mute, false⟩

/-- A frame begins: none in DARK; behind a segment in sending its grid part waits (R156, R157). -/
def Port.beginFrame (x : Port) : Port :=
  if x.mode = .dark then x
  else if x.phase = .segment then
    { x with frameNumber := (nextFrame x).number, frameWaiting := some (nextFrame x) }
  else { x with frameNumber := (nextFrame x).number, frame := some (nextFrame x), phase := .grid }

/-- FRAME_START (R157): no swap while what is on its way to the CMP does not let the build be swapped (R107, R116, R125, R158, log 19). -/
def doFrameStart (p : Fin 8) (s : State) : State :=
  let x := portOf s p
  let t := takePending p s
  let u :=
    if readsBuild x = true ∧ swapWaits s p = false ∧ (cmpPanel t p).build = .ready then swapGrids p t else t
  setPort p Port.beginFrame u

/-- FRAME_START (R157): frame starts occur through every reset, a pin reset included (R156, log 13). -/
def execFrameStart (panel : Fin 8) (s : State) : Result := .next (doFrameStart panel s)

/-! ## What the panel link carries (8.3, R199) -/

/-- A group of a panel link: the control groups that begin a frame or a segment, the one between them, or a data byte (R199). -/
inductive LinkGroup where
  | sof
  | sos
  | idle
  | data (b : Byte)
deriving DecidableEq, Repr

/-- The header of a frame: number, columns, rows, rate (R156, R199). -/
def Frame.header (f : Frame) : List Byte := put2 f.number ++ put1 f.columns ++ put1 f.rows ++ put1 f.rate

/-- The grid place of the `i`-th cell of a frame's grid part: row 0 first, and column 0 first within each row (R156). -/
def Frame.place (f : Frame) (i : Nat) : Nat := gridAddress (i / f.columns) (i % f.columns)

/-- The cells of the grid part of a frame in sending: those of the active grid, in row order; blank in a blank frame, and from the cell on
that was next when the port was muted, `sent` cells having gone out (R153, R156). When within a frame that was is timing (log 29). -/
def Port.gridPart (x : Port) (f : Frame) (sent : Nat) : List Cell :=
  (List.range (f.columns * f.rows)).map fun i =>
    if f.blank = true ∨ (f.blanked = true ∧ sent ≤ i) then Cell.blank else x.active.read (f.place i)

/-- A frame on the panel link (R199). -/
def Port.frameGroups (x : Port) (f : Frame) (sent : Nat) : List LinkGroup :=
  .sof :: (f.header ++ ((x.gridPart f sent).map putCell).flatten).map .data

/-- A segment on the panel link: window, frame tag, segment number and data as received (R165, R199). -/
def Segment.groups (g : Segment) : List LinkGroup :=
  .sos :: (put1 g.window.val ++ put2 g.tag ++ put1 g.number ++ put2 g.data.length ++ g.data).map .data

/-- The group that a panel link carries between frames and segments: IDLE, and none from a DARK port, whose link is silent (R150, R151, R199).
How many of them is timing (log 29). -/
def Port.between (x : Port) : Option LinkGroup := if x.mode = .dark then none else some .idle

/-- What a port has in sending on its panel link. What is cut off ends without its remaining groups (R151, R153, R156, R165, R169, R199). -/
def Port.sending (x : Port) (sent : Nat) : List LinkGroup :=
  match x.phase with
  | .idle => x.between.toList
  | .grid => (x.frame.map fun f => x.frameGroups f sent).getD []
  | .segment => (x.segment.map Segment.groups).getD []

/-! ## Picture segments (8.5) -/

/-- The picture gate is open for a window (R163). -/
def gateFor (x : Port) (w : Fin 2) : Bool := x.mode == .live && !x.mute && x.windows.getLsbD w.val

/-- One more segment gated. -/
def Port.countGated (x : Port) : Port := { x with gated := satAdd Config.countTop x.gated 1 }

/-- The link is IDLE and the port looks at its picture buffer, `l` (R165). -/
def takeUp (x : Port) : List Segment → Port
  | [] => { x with buffer := [], phase := .idle }
  | g :: rest =>
    if gateFor x g.window then { x with buffer := rest, segment := some g, phase := .segment }
    else takeUp x.countGated rest

/-- The link phase becomes IDLE at the end of a grid part or of a segment (R157, R165). -/
def Port.linkIdle (x : Port) : Port :=
  match x.phase with
  | .idle => x
  | .grid => takeUp { x with frame := none, phase := .idle } x.buffer
  | .segment =>
    match x.frameWaiting with
    | some f => { x with segment := none, frame := some f, frameWaiting := none, phase := .grid }
    | none => takeUp { x with segment := none, phase := .idle } x.buffer

/-- The port has taken a RESET since the swap or the cleared report that an answer of the CMP is for (R116, R169). -/
def answersOld (epoch : Nat) (s : State) : Bool := decide (epoch < s.taken.get (blockIx .pnl))

/-- A window report that follows a swap is still on its way to the port (R166). -/
def windowsOnWay (s : State) (p : Fin 8) : Bool :=
  (s.links.cmpPnl.get p).any fun x => match x with
    | .windows epoch _ => !answersOld epoch s
    | .cleared _ => false

/-- At the end of what the link now sends, the port looks at its picture buffer (R165): no frame waits. -/
def Port.looksNext (x : Port) : Bool := x.phase == .grid || (x.phase == .segment && x.frameWaiting.isNone)

/-- LINK_PHASE_IDLE. The port does not come to look at its buffer before it has taken the window report that follows a swap, so that a
buffered segment of a window that the new layout lacks never reaches the panel (R163, R166). DESIGN CHOICE (log 42): the frame that the swap
began lasts until then. -/
def doLinkPhaseIdle (p : Fin 8) (s : State) : State :=
  if (portOf s p).looksNext && windowsOnWay s p then s else setPort p Port.linkIdle s

/-- LINK_PHASE_IDLE (R165): a frame sent in a pin reset ends too (R156, log 13). -/
def execLinkPhaseIdle (panel : Fin 8) (s : State) : Result := .next (doLinkPhaseIdle panel s)

/-- A segment joins the picture buffer, taken up at once where the link is IDLE (R164, R165). -/
def Port.buffered (g : Segment) (x : Port) : Port :=
  let y := { x with buffer := x.buffer ++ [g] }
  if x.phase = .idle then takeUp y y.buffer else y

/-- A segment arrives at a port: gated, dropped at a full buffer with PICTURE_DROP at the TIF, or buffered (R163, R164). -/
def offerSegment (p : Fin 8) (g : Segment) (s : State) : State :=
  let x := portOf s p
  if gateFor x g.window = false then setPort p Port.countGated s
  else if x.buffer.length < Config.pictureDepth then setPort p (Port.buffered g) s
  else
    let t := setPort p (fun x => { x with dropped := satAdd Config.countTop x.dropped 1 }) s
    t.withTif (flagPictureDrop t.tif)

/-- A taken PICTURE: refused by the TIF where it names no port or window, else handed to its port (R163, R175). -/
def routePicture (f : Picture) (s : State) : State :=
  match asFin 8 f.panel, asFin 2 f.window with
  | some p, some w => offerSegment p ⟨w, f.tag, f.segment, f.data⟩ s
  | _, _ => refuse .tif 1 .badField f.panel s

/-- PICTURE: the oldest taken PICTURE is handed on (R175, log 21). -/
def doPicture (s : State) : State :=
  match s.tif.pictures with
  | [] => s
  | f :: rest => routePicture f.picture (s.withTif { s.tif with pictures := rest })

/-- PICTURE (R175). -/
def execPicture (s : State) : Result := running s doPicture

/-! ## Reports of the CMP (R166, R169) -/

/-- The links with the requests to a port replaced. -/
def State.withPortRequests (s : State) (p : Fin 8) (l : List ToPort) : State :=
  s.withLinks { s.links with cmpPnl := s.links.cmpPnl.set p l }

/-- OPEN_WINDOWS_REPORT: the port's open windows replaced (R166). DESIGN CHOICE (log 35): the windows of a swap from before a RESET that the
port has taken are not opened, since after a reset none are until the first swap (R116). -/
def doOpenWindowsReport (p : Fin 8) (s : State) : State :=
  match s.links.cmpPnl.get p with
  | .windows epoch w :: rest =>
    let t := s.withPortRequests p rest
    if answersOld epoch s then t else setPort p (fun x => { x with windows := w }) t
  | _ => s

/-- OPEN_WINDOWS_REPORT (R166). -/
def execOpenWindowsReport (panel : Fin 8) (s : State) : Result := running s (doOpenWindowsReport panel)

/-- GRID_CLEARED_ANSWER: swap hold off; the answer to the cleared report of an earlier RESET OPS does not end the hold of a later one
(R169). -/
def doGridClearedAnswer (p : Fin 8) (s : State) : State :=
  match s.links.cmpPnl.get p with
  | .cleared epoch :: rest =>
    let t := s.withPortRequests p rest
    if answersOld epoch s then t else setPort p (fun x => { x with swapHold := false }) t
  | _ => s

/-- GRID_CLEARED_ANSWER (R169). -/
def execGridClearedAnswer (panel : Fin 8) (s : State) : Result := running s (doGridClearedAnswer panel)

/-! ## Reset (R169) -/

/-- A port under a RESET OPS; `c` is the background cell of the panel's base layout (R169). -/
def Port.onOps (c : Cell) (x : Port) : Port :=
  { x with
    grid0 := Grid.filled c, grid1 := Grid.filled c, mute := true, swapHold := x.mode == .live, windows := 0#2
    buffer := [], phase := .idle, frame := none, frameWaiting := none, segment := none }

/-- The background cell of a panel's base layout (R169). -/
def baseBackground (s : State) (p : Fin 8) : Cell := (s.cmp.layouts.get (cmpPanel s p).baseLayout).background

/-- The ports under a RESET (R169). -/
def resetPorts (all : Bool) (s : State) : Tab 8 Port :=
  if all then s.ports.map fun x => Port.reset x.level
  else Tab.make 8 fun p => (portOf s p).onOps (baseBackground s p)

/-- The cleared reports of the LIVE ports after a RESET OPS, marked with the reset that they follow (R111, R169). -/
def reportCleared (epoch : Nat) (s : State) : State :=
  ((fins 8).filter fun p => portLive s p).foldl (fun s p => sendFromPort p (.gridCleared epoch) s) s

end Sys2Proof.Machine
end

