-- ==== Sys2Proof/Machine/Trunk.lean ====
section
/-! DEFINITION. Chapter 9, the trunk interface (TIF): receiving and forwarding packets, enumeration, the parse FIFO, unknown
items, LINK_CLEAR, the event queue, and the return lane. -/

namespace Sys2Proof.Machine

/-- The machine with its TIF replaced by `f` of it. -/
def onTif (f : Tif → Tif) (s : State) : State := s.withTif (f s.tif)

/-! ## The forward lane (9.1 to 9.3) -/

/-- The packet is taken: destination 0, or this part's position (R171). -/
def isTaken (t : Tif) (dest : Nat) : Bool := dest == 0 || (t.position != 0 && dest == t.position)

/-- The packet is forwarded unless it is consumed (R171). -/
def isForwarded (t : Tif) (dest : Nat) : Bool := dest == 0 || !isTaken t dest

/-- A good packet sent on trunk-out, if R171 forwards it (R172). -/
def forward (dest : Nat) (bytes : List Byte) (t : Tif) : Tif :=
  if isForwarded t dest then sendForward bytes t else t

/-- A taken packet joins the parse FIFO, or is lost to a full one (R176). -/
def joinFifo (clock : Nat) (p : Packet) (t : Tif) : Tif :=
  if t.fifo.length < Config.fifoDepth then { t with fifo := t.fifo ++ [⟨p, clock⟩] } else flagOverrun t

/-- A taken packet other than a good ENUMERATE, by its kind and length (R174 to R176). -/
def keepTaken (clock : Nat) (t : Tif) : Option Decoded → Tif
  | none => flagBadKind t
  | some (.fifo p) => joinFifo clock p t
  | some (.picture f) => { t with pictures := t.pictures ++ [⟨f, clock⟩] }
  | some (.enumerate _) => t

/-- A good packet: the address decision, forwarding and taking (R171 to R174). A taken ENUMERATE goes to the forward path (log 20). -/
def goodPacket (clock kind dest : Nat) (payload bytes : List Byte) (t : Tif) : Tif :=
  if isTaken t dest then
    match decodePayload kind payload with
    | some (.enumerate field) => { (countTaken t) with enumerating := some ⟨dest, field, bytes⟩ }
    | d => keepTaken clock (countTaken (forward dest bytes t)) d
  else forward dest bytes t

/-- The ENUMERATE on the forward path handled (R173). -/
def enumerate (t : Tif) : Tif :=
  match t.enumerating with
  | none => t
  | some e =>
    let u := { t with enumerating := none }
    if e.destination ≠ 0 then u
    else if t.position = 0 ∧ 1 ≤ e.field ∧ e.field ≤ 15 then
      sendForward (packetBytes 17 0 (put1 (e.field + 1))) { u with position := e.field }
    else sendForward e.bytes u

/-- What lies between a start of packet and what ends it, received whole (R170, R196). -/
def receive (clock : Nat) (frame : TrunkFrame) (t : Tif) : Tif :=
  let u := countReceived t
  match frame with
  | .whole bytes =>
    match testFrame bytes with
    | .formatFailure => flagFormatFail u
    | .checkFailure => flagCheckFail u
    | .good kind dest payload => goodPacket clock kind dest payload bytes u
  | _ => flagFormatFail u

/-- PACKET_RECEIVE: packets keep their order on the forward path, so an ENUMERATE on it is handled first (R170, R172, log 20). -/
def doPacketReceive (frame : TrunkFrame) (s : State) : State :=
  onTif (fun t => receive s.lck.clock frame (enumerate t)) s

/-- PACKET_RECEIVE (R170). -/
def execPacketReceive (frame : TrunkFrame) (s : State) : Result := running s (doPacketReceive frame)

/-- ENUMERATE (R173). -/
def execEnumerate (s : State) : Result := running s (onTif enumerate)

/-! ## Items that the TIF answers itself (R179, R193) -/

/-- A SET whose item code names no item (R179). -/
def pickUnknownSet : Packet → Option (State → State)
  | .set item _ _ => if (setValueSize item).isNone then some (refuse .tif kindSet .badItem item) else none
  | _ => none

/-- SET_UNKNOWN_ITEM (R179). -/
def execSetUnknownItem (s : State) : Result := running s (deliverTif pickUnknownSet)

/-- A TABLE whose item code names no item (R179). -/
def pickUnknownTable : Packet → Option (State → State)
  | .table item _ _ => if isTableItem item then none else some (refuse .tif kindTable .badItem item)
  | _ => none

/-- TABLE_UNKNOWN_ITEM (R179). -/
def execTableUnknownItem (s : State) : Result := running s (deliverTif pickUnknownTable)

/-- Flags, counts and dropped count cleared (R193). -/
def clearLink (t : Tif) : Tif := { t with flags := .clear, counts := .zero, dropped := 0 }

/-- The LINK_CLEAR packet. -/
def pickLinkClear : Packet → Option (State → State)
  | .set item _ _ => if item = itemLinkClear then some (onTif clearLink) else none
  | _ => none

/-- SET_LINK_CLEAR (R193). -/
def execSetLinkClear (s : State) : Result := running s (deliverTif pickLinkClear)

/-! ## Events (9.8) -/

/-- An event offered to the event queue (R187). -/
def offerEvent (e : Event) (t : Tif) : Tif :=
  if t.events.length < Config.eventDepth then { t with events := t.events ++ [e] } else flagReportDrop t

/-- EVENT_OFFER: the oldest event that a block has posted is offered (R187). -/
def doEventOffer (b : Block) (s : State) : State :=
  match s.links.posted.get (blockIx b) with
  | [] => s
  | e :: rest =>
    onTif (offerEvent e) (s.withLinks { s.links with posted := s.links.posted.set (blockIx b) rest })

/-- EVENT_OFFER (R187). -/
def execEventOffer (block : Block) (s : State) : Result := running s (doEventOffer block)

/-! ## The return lane (9.9) -/

/-- A REPORT arrives on RET_IN into the empty pass buffer (R188, log 26). -/
def receivePass (packet : List Byte) (t : Tif) : Tif :=
  if t.passBuffer.isNone then { t with passBuffer := some packet } else t

/-- PASS_BUFFER_RECEIVE (R188). -/
def execPassBufferReceive (packet : List Byte) (s : State) : Result := running s (onTif (receivePass packet))

/-- A group of a trunk lane: one of its five control groups, or a data byte (R196). -/
inductive TrunkGroup where
  | sop | eop | idleGo | idleWait | fill
  | data (b : Byte)
deriving DecidableEq, Repr

/-- A packet on a trunk lane: its bytes, header to check, between SOP and EOP (R196). -/
def packetGroups (bytes : List Byte) : List TrunkGroup := .sop :: (bytes.map .data ++ [.eop])

/-- The group that the part sends between packets on TRK_OUT: IDLE_GO while its pass buffer is empty and IDLE_WAIT while it holds a packet; in
pin reset it sends nothing there (R188, R194, R196). -/
def trunkIdle (s : State) : Option TrunkGroup :=
  if s.inReset then none else if s.tif.passBuffer.isNone then some .idleGo else some .idleWait

/-- The part below sees the return lane ready (R188, R194, R196). -/
def signalsReady (s : State) : Bool := trunkIdle s == some .idleGo

/-- The group that the part sends on RET_OUT between REPORTs: FILL; in pin reset it sends nothing there (R194, R196). -/
def returnIdle (s : State) : Option TrunkGroup := if s.inReset then none else some .fill

/-- What the part has in sending on RET_OUT: the REPORT that was granted, or else the group between REPORTs (R191, R196). DEDUCED (log 29):
"sends nothing" of R188 is no REPORT, since the lane is kept aligned by FILL. How many groups of FILL is timing. -/
def returnSends (s : State) : List TrunkGroup :=
  match s.tif.retOut with
  | some bytes => packetGroups bytes
  | none => (returnIdle s).toList

/-- RETURN_READY_CHANGE: IDLE_GO or IDLE_WAIT from the receiver of RET_OUT (R188, R196). -/
def execReturnReadyChange (go : Bool) (s : State) : Result := running s (onTif fun t => { t with upstreamReady := go })

/-- The payload of an EVENT report (R199). -/
def eventPayload (e : Event) : List Byte :=
  put1 2 ++ put1 e.kind.code ++ put1 e.detail.length ++ put2 e.subject ++ put2 (e.detail.getD 0 0)
    ++ put2 (e.detail.getD 1 0) ++ put3 e.stamp

/-- The payload of a REPLY report (R199). -/
def replyPayload (r : Reply) : List Byte := put1 1 ++ put2 r.item ++ r.key ++ r.body

/-- A REPORT of this part with a payload (R190, R199). -/
def reportBytes (t : Tif) (payload : List Byte) : List Byte := packetBytes 128 t.position payload

/-- The reply in a FULL slot. -/
def fullReply (t : Tif) : Option Reply :=
  match t.slot with
  | .full r => some r
  | _ => none

/-- OWN waits: the reply slot is FULL or the event queue is not empty (R189). -/
def ownWaits (t : Tif) : Bool := (fullReply t).isSome || !t.events.isEmpty

/-- PASS waits: the pass buffer holds a packet (R189). -/
def passWaits (t : Tif) : Bool := t.passBuffer.isSome

/-- The lane is free: nothing in sending and the upstream receiver ready (R189). -/
def laneFree (t : Tif) : Bool := t.retOut.isNone && t.upstreamReady

/-- OWN granted: the reply first, otherwise the oldest event; its content leaves its store (R190, R191). -/
def grantOwn (t : Tif) : Tif :=
  match fullReply t with
  | some r => { t with retOut := some (reportBytes t (replyPayload r)), slot := .empty, lastOwn := true }
  | none =>
    match t.events with
    | e :: rest => { t with retOut := some (reportBytes t (eventPayload e)), events := rest, lastOwn := true }
    | [] => t

/-- PASS granted (R189, R191). -/
def grantPass (t : Tif) : Tif := { t with retOut := t.passBuffer, passBuffer := none, lastOwn := false }

/-- The arbiter's grant (R189). -/
def grantLane (t : Tif) : Tif :=
  if laneFree t then
    if ownWaits t && (!passWaits t || !t.lastOwn) then grantOwn t
    else if passWaits t then grantPass t
    else t
  else t

/-- RETURN_LANE_GRANT (R189). -/
def execReturnLaneGrant (s : State) : Result := running s (onTif grantLane)

/-- REPORT_SENT: the REPORT in sending has ended (R189, R191). -/
def execReportSent (s : State) : Result := running s (onTif fun t => { t with retOut := none })

end Sys2Proof.Machine
end

