-- ==== Sys2Proof/Machine/Queries.lean ====
section
/-! DEFINITION. Queries: taking a QUERY (R184), what each owner answers (R52, R98, R117, R128, R147, R168, R185), and the
bytes of reply bodies (R199, log 15). -/

namespace Sys2Proof.Machine

/-! ## Encodings of reply bodies (R199, log 15) -/

/-- Yes or no, on or off: 1 or 0. -/
def putFlag (b : Bool) : List Byte := put1 (if b then 1 else 0)

/-- A number that may be absent: 65,535 for none. -/
def putOpt (n : Option Nat) : List Byte := put2 (n.getD 65535)

/-- A list: a count of one byte, then the items. -/
def putList {α : Type} (f : α → List Byte) (l : List α) : List Byte := put1 l.length ++ (l.map f).flatten

/-- Named values, coded 0 upward in the order their defining tables list them (R199). -/
def ShowState.code : ShowState → Nat
  | .empty => 0
  | .listed => 1
  | .opened => 2
  | .boarding => 3
  | .running => 4
  | .ended => 5
  | .cancelled => 6
def Format.code : Format → Nat
  | .twoD => 0
  | .threeD => 1
  | .large => 2
  | .large3D => 3
def EntryKind.code : EntryKind → Nat
  | .openAt => 0
  | .windowAt => 1
  | .minuteAt => 2
  | .boardAt => 3
  | .startAt => 4
  | .endAt => 5
  | .reapAt => 6
def FigureCase.code : FigureCase → Nat
  | .stateShown => 0
  | .askAtDesk => 1
  | .soldOut => 2
  | .fullCheckBack => 3
  | .goodAvailability => 4
  | .exact => 5
  | .rounded => 6
def DeskState.code : DeskState → Nat
  | .closed => 0
  | .opened => 1
  | .silent => 2
def ClockForm.code : ClockForm → Nat
  | .h24 => 0
  | .h12 => 1
  | .follow => 2
def FieldKind.code : FieldKind → Nat
  | .time => 0
  | .titleLong => 1
  | .titleShort => 2
  | .auditorium => 3
  | .format => 4
  | .rating => 5
  | .subtitle => 6
  | .seats => 7
  | .badge => 8
  | .state => 9
def Alignment.code : Alignment → Nat
  | .left => 0
  | .right => 1
  | .natural => 2
def BuildState.code : BuildState → Nat
  | .clean => 0
  | .dirty => 1
  | .building => 2
  | .ready => 3
  | .syncing => 4
def Lane.code : Lane → Nat
  | .normal => 0
  | .announce => 1
def TileState.code : TileState → Nat
  | .free => 0
  | .valid => 1
  | .purging => 2
def ChanState.code : ChanState → Nat
  | .idle => 0
  | .active => 1
  | .stopped => 2
  | .fault => 3
def PortPhase.code : PortPhase → Nat
  | .none => 0
  | .requesting => 1
  | .writing => 2
def Source.code : Source → Nat
  | .fill _ => 0
  | .tile _ => 1
  | .text _ _ _ => 2
  | .notice _ _ _ _ => 3
  | .desk _ _ => 4
  | .clock _ _ _ => 5
  | .copy => 6
def Mode.code : Mode → Nat
  | .dark => 0
  | .waiting => 1
  | .live => 2
def LinkPhase.code : LinkPhase → Nat
  | .idle => 0
  | .grid => 1
  | .segment => 2
def ReplySlot.code : ReplySlot → Nat
  | .empty => 0
  | .reserved => 1
  | .full _ => 2
def stallCode : Option Stall → Nat
  | none => 0
  | some (.queueFull _) => 1
  | some .noTile => 2

/-! ## What the owners answer -/

/-- An owner's answer: values, or a refusal (R184). -/
inductive Answer where
  | values (body : List Byte)
  | refused (r : Reason)
deriving DecidableEq, Repr

/-- An answer for an index in range; BAD_ITEM for one out of range (R185). -/
def indexed (n key : Nat) (f : Fin n → Answer) : Answer :=
  match asFin n key with
  | some i => f i
  | none => .refused .badItem

/-- An answer for the showing with an id (R52, R185). -/
def keyedById (s : State) (id : Nat) (f : Fin 96 → Answer) : Answer :=
  match slotOf s id with
  | some i => f i
  | none => .refused .unknownShowing

/-- The showing id of a slot; 0 for an EMPTY one (R128). -/
def slotId (s : State) (slot : Fin 96) : Nat := (s.sch.showings.get slot).id.getD 0

/-- IDENT (R185). -/
def answerIdent (s : State) : Answer :=
  .values (put2 Config.vendorCode ++ put2 Config.partCode ++ put2 Config.revision ++ put2 s.tif.position)

/-- LINK (R185, R192, R193). -/
def answerLink (s : State) : Answer :=
  let t := s.tif
  .values (putFlag t.flags.checkFail ++ putFlag t.flags.formatFail ++ putFlag t.flags.badKind
    ++ putFlag t.flags.ingressOverrun ++ putFlag t.flags.pictureDrop ++ putFlag t.flags.reportDrop
    ++ put2 t.counts.received ++ put2 t.counts.taken ++ put2 t.counts.forwarded ++ put2 t.counts.checkFailures
    ++ put2 t.counts.formatFailures ++ put2 t.counts.badKinds ++ put2 t.counts.overruns ++ put2 t.counts.pictureDrops
    ++ put2 t.dropped ++ put2 t.events.length ++ put1 t.slot.code ++ put2 t.fifo.length ++ put2 t.position)

/-- CLOCK (R2, R185). -/
def answerClock (s : State) : Answer := .values (put3 s.lck.clock ++ putFlag s.lck.held)

/-- The schedule entry of a slot: kind and due time (R185). -/
def putEntry (s : State) (slot : Fin 96) : List Byte :=
  match s.sch.list.find? fun e => e.slot == slot with
  | some e => put1 e.kind.code ++ put3 e.due
  | none => put1 255 ++ put3 0

/-- SHOWING (R7, R185). -/
def answerShowing (s : State) (slot : Fin 96) : Answer :=
  let sh := s.sch.showings.get slot
  .values (put2 slot.val ++ put1 sh.state.code ++ putOpt sh.id ++ putOpt sh.auditorium ++ putOpt (sh.title.map Fin.val)
    ++ put3 sh.start ++ put2 sh.runtime ++ put1 sh.format.code ++ put2 sh.rating.val ++ putFlag sh.subtitled
    ++ put2 sh.boardLead ++ putOpt (sh.boardingClass.map Fin.val) ++ putOpt (sh.soldoutClass.map Fin.val)
    ++ put1 sh.noticePanels.toNat ++ putOpt (sh.autoEntry.map Fin.val) ++ putEntry s slot)

/-- TITLE (R8, R185). -/
def answerTitle (s : State) (i : Fin 64) : Answer :=
  let t := s.sch.titles.get i
  .values (putRun t.long ++ putRun t.short ++ putOpt (t.hint.map Fin.val))

/-- ROSTER (R24, R185). -/
def answerRoster (s : State) (f : Fin 8) : Answer :=
  .values (putList (fun i => put2 (slotId s i)) (s.sch.rosters.get f))

/-- The figure key of a ledger record (R52, R59). DESIGN CHOICE (log 15): a key that is absent, which only a record that no tally has reached
holds and which LEDGER does not answer with (R28), is coded as a case 255, a number 65,535 and no badge, without a presence byte. -/
def putKey : Option FigureKey → List Byte
  | some k => put1 k.figure.code ++ put2 k.shown ++ putFlag k.badge
  | none => put1 255 ++ put2 65535 ++ putFlag false

/-- LEDGER (R52): a showing that still awaits its listing tally is unknown to the SLG (R28, log 23). -/
def answerLedger (s : State) (slot : Fin 96) : Answer :=
  let l := s.slg.ledger.get slot
  if awaitsTally s slot then .refused .unknownShowing
  else
    .values (put2 l.C ++ put2 l.S ++ put2 l.B ++ put2 l.P ++ put2 l.H ++ put2 l.A ++ put3 l.stamp ++ putFlag l.stale
      ++ putFlag l.oversold ++ putFlag l.soldout ++ putKey l.key)

/-- HOLD (R52): desk in the first byte of the key, tag in the second; the showing id is `showingId`'s (log 31). -/
def answerHold (s : State) (key : Nat) : Answer :=
  indexed 16 (key / 256) fun d =>
    match (findHold s.slg d (key % 256)).bind fun i => s.slg.holds.get i with
    | some h => .values (putFlag true ++ put2 (showingId s h.slot) ++ put2 h.seats ++ put2 h.remaining)
    | none => .values (putFlag false)

/-- DESK (R52). -/
def answerDesk (s : State) (d : Fin 16) : Answer :=
  let k := s.slg.desks.get d
  .values (put1 k.state.code ++ put2 k.gap ++ put2 k.lastGap ++ putFlag k.measuring ++ put2 k.lateReleases ++ put2 k.owned)

/-- The line count of a head entry, or the template of an auto entry (R98). -/
def putContent : Content → List Byte
  | .lines l => put2 l.length
  | .template t => putOpt (t.map Fin.val)

/-- NOTICE (R71, R98). DESIGN CHOICE (log 15): origin HEAD is coded as 65,535. -/
def answerNotice (s : State) (e : Fin 24) : Answer :=
  match s.ntc.entries.get e with
  | none => .values (put1 0)
  | some n =>
    .values (put1 1 ++ put2 n.cls.val ++ putOpt (n.origin.map Fin.val) ++ put1 n.panels.toNat ++ put2 n.lifetime
      ++ putOpt (n.linked.map Fin.val) ++ put2 (sequencePlace s.ntc e + 1) ++ putContent n.content)

/-- A view: the entry, or 65,535 for BASE (log 15). -/
def putView (v : View) : List Byte := putOpt (v.map Fin.val)

/-- PANEL_NOTICES (R98). -/
def answerPanelNotices (s : State) (p : Fin 8) : Answer :=
  let x := ntcPanel s p
  .values (putView x.view ++ putList (fun c => putView c.view) x.stack
    ++ putList (fun w => put2 w.entry.val ++ putFlag w.forced) x.waiting ++ put2 x.enableMask.toNat
    ++ put2 x.closedMask.toNat ++ putFlag x.hold ++ putFlag s.ntc.lobbyOpen)

/-- NOTICE_MAP (R98). -/
def answerNoticeMap (s : State) (p : Fin 8) : Answer :=
  .values (((ntcPanel s p).map.list.map fun l => put2 l.val).flatten)

/-- The kind of a pane (R100). -/
def putPaneKind : PaneKind → List Byte
  | .listing _ _ _ => put1 0
  | .trailer _ => put1 1
  | .deskStrip _ _ => put1 2
  | .clock _ _ _ => put1 3
  | .noticeText _ _ => put1 4
  | .text _ _ _ => put1 5

/-- The options of a pane's kind, and none of the option bytes that its kind does not use (R100, R117, log 15, 24). -/
def putOptions : PaneKind → List Byte
  | .listing f st d => put2 f.val ++ put2 st.val ++ put2 d
  | .trailer w => put2 w.val
  | .deskStrip i p => put2 i ++ put2 p
  | .clock f i p => put1 f.code ++ put2 i ++ put2 p
  | .noticeText i p => put2 i ++ put2 p
  | .text x i p => put2 x.val ++ put2 i ++ put2 p

/-- A pane of a LAYOUT reply. -/
def putPane (x : Pane) : List Byte :=
  putPaneKind x.kind ++ put2 x.top ++ put2 x.left ++ put2 x.height ++ put2 x.width ++ putOptions x.kind

/-- LAYOUT (R117). -/
def answerLayout (s : State) (i : Fin 16) : Answer :=
  let l := s.cmp.layouts.get i
  .values (putCell l.background ++ putList putPane l.panes)

/-- FILTER (R117). -/
def answerFilter (s : State) (i : Fin 8) : Answer :=
  let f := s.cmp.filters.get i
  .values (put1 f.states.toNat ++ put2 (f.auditoriums.toNat / 65536) ++ put2 f.auditoriums.toNat ++ put2 f.maxLines)

/-- BASE_LAYOUT (R117). -/
def answerBaseLayout (s : State) (p : Fin 8) : Answer := .values (put2 (cmpPanel s p).baseLayout.val)

/-- A field of a STYLE reply (R64). -/
def putField (f : StyleField) : List Byte :=
  put1 f.kind.code ++ put2 f.start ++ put2 f.width ++ put2 f.ink ++ put2 f.paper ++ put1 f.alignment.code
    ++ putFlag f.blink ++ putFlag f.underline

/-- STYLE (R64, R117). -/
def answerStyle (s : State) (i : Fin 4) : Answer :=
  let x := s.cmp.styles.get i
  .values (put2 x.baseInk ++ put2 x.basePaper ++ putList putField x.fields)

/-- PHRASE (R117). -/
def answerPhrase (s : State) (i : Fin 48) : Answer := .values (putRun (phrase s i))

/-- An item of a TEMPLATE reply (R67; types as 10.4 codes them). -/
def putItem : TemplateItem → List Byte
  | .phrase p => put1 1 ++ put2 p.val
  | .field k => put1 2 ++ put1 k.code

/-- TEMPLATE (R117). -/
def answerTemplate (s : State) (i : Fin 8) : Answer := .values (putList (putList putItem) (s.cmp.templates.get i))

/-- CLASS_MAP (R117). -/
def answerClassMap (s : State) (i : Fin 12) : Answer :=
  let x := s.cmp.classMap.get i
  .values (putOpt (x.boarding.map Fin.val) ++ putOpt (x.soldout.map Fin.val))

/-- A pane of a PANEL_BUILD reply (R117). -/
def putPaneState (s : State) (c : CmpPanel) (xi : Pane × PaneState) : List Byte :=
  putFlag xi.2.dirty ++ put2 xi.2.issueRow ++ put2 xi.2.cursor ++ put2 (pagesOf s c xi.1) ++ put2 xi.2.dwell

/-- PANEL_BUILD (R117). -/
def answerPanelBuild (s : State) (p : Fin 8) : Answer :=
  let c := cmpPanel s p
  .values (put1 c.build.code ++ putView c.view ++ putOpt (c.cls.map Fin.val) ++ put2 c.layout.val ++ put1 c.lane.code
    ++ putFlag c.backgroundDue ++ putList (putPaneState s c) ((viewLayout s p).panes.zip c.panes.list)
    ++ put2 c.outstanding.length ++ put1 (stallCode c.stall) ++ putOpt (c.shown.map Fin.val))

/-- The key of a tile: showing id and style (R128). -/
def putTileKey (s : State) : Option (Fin 96 × Fin 4) → List Byte
  | some k => put2 (slotId s k.1) ++ put2 k.2.val
  | none => put2 0 ++ put2 0

/-- TILE (R128). DESIGN CHOICE (log 15): the fields that R128 gives only for a slot that is not FREE, or only for a VALID one, are left out
of the replies of the others. -/
def answerTile (s : State) (i : Fin 96) : Answer :=
  let x := s.tst.slots.get i
  match x.state with
  | .free => .values (put1 x.state.code)
  | .purging => .values (put1 x.state.code ++ putTileKey s x.key ++ put2 x.pins ++ put2 x.fmt)
  | .valid =>
    .values (put1 x.state.code ++ putTileKey s x.key ++ put2 x.pins ++ put2 x.fmt ++ put2 (s.tst.useList.idxOf i + 1))

/-- The number of tile slots that meet a test. -/
def countTiles (s : State) (ok : Tile → Bool) : Nat := (s.tst.slots.list.filter ok).length

/-- TILE_STORE (R127, R128). -/
def answerTileStore (s : State) : Answer :=
  .values (put2 (countTiles s fun x => x.state == .free) ++ put2 (countTiles s fun x => x.state == .valid)
    ++ put2 (countTiles s fun x => x.state == .purging) ++ put2 (countTiles s fun x => x.pins != 0)
    ++ put2 s.tst.hits ++ put2 s.tst.formats ++ put2 s.tst.replacements ++ put2 s.tst.noTile ++ put2 s.tst.purges)

/-- The run state: RUNNING, STOPPING, STOPPED (R142). -/
def runState (s : State) : Nat := if s.blc.run then 0 else if anyActive s then 1 else 2

/-- CHANNELS (R147). -/
def answerChannels (s : State) : Answer :=
  .values (put1 (runState s) ++ putFlag s.blc.run ++ putFlag s.blc.rotating ++ put2 s.blc.lastGranted.val
    ++ (s.blc.channels.list.map fun c => put1 c.state.code).flatten)

/-- A queued job (R147). -/
def putQueued (j : Job) : List Byte := put2 j.panel.val ++ put2 j.number ++ put1 j.source.code

/-- The current or aside job, or that there is none (R147, log 15). -/
def putStarted : Option Job → List Byte
  | none => putFlag false
  | some j =>
    putFlag true ++ put2 j.panel.val ++ put2 j.number ++ put1 j.lane.code ++ put1 j.source.code ++ put2 j.count
      ++ put2 j.done

/-- The fault record with its cleared mark, or that there is none (R147, log 15). -/
def putFault : Option FaultRecord → List Byte
  | none => putFlag false
  | some f =>
    putFlag true ++ put1 (f.reason.code - 1) ++ put2 f.panel.val ++ put2 f.number ++ putFlag f.cleared

/-- CHANNEL (R147, R148). DESIGN CHOICE (log 15): the queued jobs are two counted lists, the normal queue first. -/
def answerChannel (s : State) (n : Fin 4) : Answer :=
  let c := chan s n
  .values (put1 c.state.code ++ put1 c.phase.code ++ put1 c.cancelPending.toNat ++ putList putQueued c.normal
    ++ putList putQueued c.announce ++ putStarted c.current ++ putStarted c.aside ++ putFault c.fault
    ++ put2 c.counts.units ++ put2 c.counts.completed ++ put2 c.counts.discarded ++ put2 c.counts.abandoned
    ++ put2 c.counts.cleared ++ put2 c.counts.faults)

/-- The presence level, coded in the order of R150's table: high 0, low 1 (R199). -/
def putLevel (high : Bool) : List Byte := put1 (if high then 0 else 1)

/-- PANEL (R168). -/
def answerPanel (s : State) (p : Fin 8) : Answer :=
  let x := portOf s p
  .values (putFlag x.enable ++ put1 x.mode.code ++ putLevel x.level ++ put2 x.presence ++ put2 x.columns ++ put2 x.rows
    ++ putOpt (x.geometryPending.map Prod.fst) ++ putOpt (x.geometryPending.map Prod.snd) ++ put2 x.rate
    ++ putOpt x.ratePending ++ putFlag x.activeOne ++ putFlag x.mute ++ putFlag x.swapHold ++ put1 x.windows.toNat
    ++ put2 x.buffer.length ++ put1 x.phase.code ++ put2 x.frameNumber ++ put2 x.dropped ++ put2 x.gated)

/-! ## SETTING (R185) -/

/-- The stored value of a global setting, by its item code. -/
def globalSetting (s : State) : Nat → Option (List Byte)
  | 1 => some (put2 s.sch.listLead)
  | 2 => some (put2 s.sch.countdownWindow)
  | 3 => some (put2 s.sch.boardLead)
  | 4 => some (put2 s.sch.lateWindow)
  | 5 => some (put2 s.slg.holdPeriod)
  | 6 => some (put2 s.slg.silenceLimit)
  | 7 => some (put2 s.slg.staleLimit)
  | 8 => some (put2 s.slg.exactLimit)
  | 9 => some (put2 s.slg.step)
  | 10 => some (put2 s.slg.plentyLimit)
  | 11 => some (put2 s.slg.fastPct)
  | 12 => some (put2 s.slg.soldoutLifetime)
  | 13 => some (putFlag s.cmp.twelveHour)
  | 14 => some (putFlag s.blc.rotating)
  | 15 => some (putFlag s.blc.run)
  | _ => none

/-- The stored value of a per-panel item, by its item code; the class is the item's only where it uses one (R185, log 17). -/
def panelSetting (s : State) (p : Fin 8) (cls : Nat) : Nat → Option (List Byte)
  | 16 => some (put2 (ntcPanel s p).enableMask.toNat)
  | 17 => some (put2 (ntcPanel s p).closedMask.toNat)
  | 18 => some (putFlag (ntcPanel s p).hold)
  | 19 => (asFin 12 cls).map fun c => put2 (mapLayout (ntcPanel s p) c).val
  | 20 => some (put2 (cmpPanel s p).baseLayout.val)
  | 21 => some (putFlag (portOf s p).enable)
  | 22 =>
    let g := (portOf s p).geometryPending.getD ((portOf s p).columns, (portOf s p).rows)
    some (put2 g.1 ++ put2 g.2)
  | 23 => some (put2 ((portOf s p).ratePending.getD (portOf s p).rate))
  | _ => none

/-- SETTING: item code, panel, class (R185). -/
def answerSetting (s : State) (item panel cls : Nat) : Answer :=
  match globalSetting s item with
  | some b => .values b
  | none =>
    match (asFin 8 panel).bind fun p => panelSetting s p cls item with
    | some b => .values b
    | none => .refused .badItem

/-! ## Reads and answers (R184) -/

/-- A byte of a key. -/
def keyByte (k : List Byte) (i : Nat) : Nat := (k.getD i 0#8).toNat

/-- The answer of an item's owner to a read, with the values held at that moment (R184). -/
def answerOf (s : State) (r : Read) : Answer :=
  let n := numAll r.key
  match r.item with
  | 20 => indexed 8 n (answerBaseLayout s)
  | 32 => indexed 64 n (answerTitle s)
  | 33 => indexed 16 n (answerLayout s)
  | 34 => indexed 8 n (answerFilter s)
  | 35 => indexed 4 n (answerStyle s)
  | 36 => indexed 48 n (answerPhrase s)
  | 37 => indexed 8 n (answerTemplate s)
  | 38 => indexed 12 n (answerClassMap s)
  | 48 => answerIdent s
  | 49 => answerLink s
  | 50 => answerClock s
  | 51 => keyedById s n (answerShowing s)
  | 52 => indexed 8 n (answerRoster s)
  | 53 => keyedById s n (answerLedger s)
  | 54 => answerHold s n
  | 55 => indexed 16 n (answerDesk s)
  | 56 => indexed 24 n (answerNotice s)
  | 57 => indexed 8 n (answerPanelNotices s)
  | 58 => indexed 8 n (answerNoticeMap s)
  | 59 => indexed 8 n (answerPanelBuild s)
  | 60 => indexed 96 n (answerTile s)
  | 61 => answerTileStore s
  | 62 => answerChannels s
  | 63 => indexed 4 n (answerChannel s)
  | 64 => indexed 8 n (answerPanel s)
  | 65 => answerSetting s (numAll (r.key.take 2)) (keyByte r.key 2) (keyByte r.key 3)
  | _ => .refused .badItem

/-- The key of a refused QUERY: its key, or the item code where the item has no key (R185); for SETTING see log 16. -/
def refusalKey (r : Read) : Nat :=
  if r.item = itemSetting then
    (Config.settingRefusalKey (numAll (r.key.take 2)) (keyByte r.key 2) (keyByte r.key 3)).toNat
  else if r.key.isEmpty then r.item
  else numAll r.key

/-- An answer reaches the TIF: in a slot that a reset has emptied it is discarded (R184, R195). -/
def takeAnswer (r : Read) (a : Answer) (s : State) : State :=
  let t := onTif (fun t => { t with read := none }) s
  match s.tif.slot with
  | .empty => t
  | _ =>
    match a with
    | .values body => onTif (fun t => { t with slot := .full ⟨r.item, r.key, body⟩ }) t
    | .refused why => refuse .tif kindQuery why (refusalKey r) (onTif (fun t => { t with slot := .empty }) t)

/-- QUERY_READ_ANSWER: the owner of the outstanding read answers it when it is ready (R184). -/
def doQueryReadAnswer (s : State) : State :=
  match s.tif.read with
  | none => s
  | some r => if blockReady (readOwner r) s then takeAnswer r (answerOf s r) s else s

/-- QUERY_READ_ANSWER (R184). -/
def execQueryReadAnswer (s : State) : Result := running s doQueryReadAnswer

/-- A QUERY of a known item: BUSY unless the reply slot is EMPTY; else a read goes to the owner (R184). -/
def takeQuery (item : Nat) (key : List Byte) (s : State) : State :=
  match s.tif.slot with
  | .empty => onTif (fun t => { t with slot := .reserved, read := some ⟨item, key⟩ }) s
  | _ => refuse .tif kindQuery .busy 65535 s

/-- A QUERY packet of an item. -/
def pickQuery (item : Nat) : Packet → Option (State → State)
  | .query i k => if i = item then some (takeQuery item k) else none
  | _ => none

/-- A QUERY row of the table: the packet at the head of the FIFO is a QUERY of that item (R184). -/
def queryItem (item : Nat) (s : State) : Result := running s (deliverTif (pickQuery item))

/-- QUERY_IDENT (R184, R185). -/
def execQueryIdent (s : State) : Result := queryItem 48 s
/-- QUERY_LINK (R184, R185). -/
def execQueryLink (s : State) : Result := queryItem 49 s
/-- QUERY_CLOCK (R184, R185). -/
def execQueryClock (s : State) : Result := queryItem 50 s
/-- QUERY_SETTING (R184, R185). -/
def execQuerySetting (s : State) : Result := queryItem itemSetting s
/-- QUERY_SHOWING (R184, R185). -/
def execQueryShowing (s : State) : Result := queryItem 51 s
/-- QUERY_TITLE (R184, R185). -/
def execQueryTitle (s : State) : Result := queryItem 32 s
/-- QUERY_ROSTER (R184, R185). -/
def execQueryRoster (s : State) : Result := queryItem 52 s
/-- QUERY_LEDGER (R52, R184). -/
def execQueryLedger (s : State) : Result := queryItem 53 s
/-- QUERY_HOLD (R52, R184). -/
def execQueryHold (s : State) : Result := queryItem 54 s
/-- QUERY_DESK (R52, R184). -/
def execQueryDesk (s : State) : Result := queryItem 55 s
/-- QUERY_NOTICE (R98, R184). -/
def execQueryNotice (s : State) : Result := queryItem 56 s
/-- QUERY_PANEL_NOTICES (R98, R184). -/
def execQueryPanelNotices (s : State) : Result := queryItem 57 s
/-- QUERY_NOTICE_MAP (R98, R184). -/
def execQueryNoticeMap (s : State) : Result := queryItem 58 s
/-- QUERY_LAYOUT (R117, R184). -/
def execQueryLayout (s : State) : Result := queryItem 33 s
/-- QUERY_FILTER (R117, R184). -/
def execQueryFilter (s : State) : Result := queryItem 34 s
/-- QUERY_BASE_LAYOUT (R117, R184). -/
def execQueryBaseLayout (s : State) : Result := queryItem 20 s
/-- QUERY_STYLE (R117, R184). -/
def execQueryStyle (s : State) : Result := queryItem 35 s
/-- QUERY_PHRASE (R117, R184). -/
def execQueryPhrase (s : State) : Result := queryItem 36 s
/-- QUERY_TEMPLATE (R117, R184). -/
def execQueryTemplate (s : State) : Result := queryItem 37 s
/-- QUERY_CLASS_MAP (R117, R184). -/
def execQueryClassMap (s : State) : Result := queryItem 38 s
/-- QUERY_PANEL_BUILD (R117, R184). -/
def execQueryPanelBuild (s : State) : Result := queryItem 59 s
/-- QUERY_TILE (R128, R184). -/
def execQueryTile (s : State) : Result := queryItem 60 s
/-- QUERY_TILE_STORE (R128, R184). -/
def execQueryTileStore (s : State) : Result := queryItem 61 s
/-- QUERY_CHANNELS (R147, R184). -/
def execQueryChannels (s : State) : Result := queryItem 62 s
/-- QUERY_CHANNEL (R147, R184). -/
def execQueryChannel (s : State) : Result := queryItem 63 s
/-- QUERY_PANEL (R168, R184). -/
def execQueryPanel (s : State) : Result := queryItem 64 s

/-- A QUERY whose item code names no item: BUSY unless the slot is EMPTY, else BAD_ITEM (R184). -/
def refuseUnknown (item : Nat) (s : State) : State :=
  match s.tif.slot with
  | .empty => refuse .tif kindQuery .badItem item s
  | _ => refuse .tif kindQuery .busy 65535 s

/-- The QUERY packet of an unknown item. -/
def pickUnknownQuery : Packet → Option (State → State)
  | .query item _ => if (queryKeySize item).isNone then some (refuseUnknown item) else none
  | _ => none

/-- QUERY_UNKNOWN_ITEM (R184). -/
def execQueryUnknownItem (s : State) : Result := running s (deliverTif pickUnknownQuery)

end Sys2Proof.Machine
end

