-- ==== Sys2Proof/Machine/Schedule.lean ====
section
/-! DEFINITION. Chapter 1: the lobby clock (LCK) and the showing schedule (SCH): the seconds pulse, TIME, LISTING,
CANCEL, REMOVE, the schedule list and its firing, the settings of the SCH, title loads and the rosters. -/

namespace Sys2Proof.Machine

/-! ## Thresholds and the schedule list (1.3, 1.5) -/

/-- The effective board_lead of a showing (R7). -/
def effBoardLead (c : Sch) (sh : Showing) : Nat := if sh.boardLead = 0 then c.boardLead else sh.boardLead

/-- The thresholds of R9; a subtraction below 0 gives 0. -/
def openAtTime (c : Sch) (sh : Showing) : Nat := sh.start - c.listLead
def boardAtTime (c : Sch) (sh : Showing) : Nat := sh.start - effBoardLead c sh
def endAtTime (c : Sch) (sh : Showing) : Nat := sh.start + c.lateWindow
def reapAtTime (c : Sch) (sh : Showing) : Nat := max (endAtTime c sh) (sh.start + sh.runtime * 60)

/-- Where the countdown window of a showing begins (R16). -/
def windowAtTime (c : Sch) (sh : Showing) : Nat := sh.start - c.countdownWindow

/-- The minute time of a begun countdown (R16): start - 60 × (N - 1) with N = ceil((start - c) ÷ 60). -/
def minuteTime (start clock : Nat) : Nat := start - 60 * (ceilDiv (start - clock) 60 - 1)

/-- The countdown entry of an OPEN or BOARDING showing at a clock value, if there is one (R16). -/
def countdownEntry (c : Sch) (clock : Nat) (sh : Showing) : Option (Nat × EntryKind) :=
  if clock < windowAtTime c sh then some (windowAtTime c sh, .windowAt)
  else if clock < sh.start then some (minuteTime sh.start clock, .minuteAt)
  else none

/-- The earlier of a state threshold and a countdown entry; at the same time the state threshold (R16). -/
def earlier (t : Nat × EntryKind) : Option (Nat × EntryKind) → Nat × EntryKind
  | some u => if u.1 < t.1 then u else t
  | none => t

/-- The next entry of a showing, from its state and the clock (R16). An EMPTY showing has none, and that of a
CANCELLED one is fixed by the cancel (R13). -/
def nextDue (c : Sch) (clock : Nat) (sh : Showing) : Option (Nat × EntryKind) :=
  match sh.state with
  | .empty => none
  | .listed => some (openAtTime c sh, .openAt)
  | .opened => some (earlier (boardAtTime c sh, .boardAt) (countdownEntry c clock sh))
  | .boarding => some (earlier (sh.start, .startAt) (countdownEntry c clock sh))
  | .running => some (endAtTime c sh, .endAt)
  | .ended => some (reapAtTime c sh, .reapAt)
  | .cancelled => none

/-- Entry `a` stands before entry `b`: by due time, then by slot (R15). -/
def entryBefore (a b : SchedEntry) : Bool :=
  decide (a.due < b.due) || (a.due == b.due && decide (a.slot.val < b.slot.val))

/-- Put an entry into its place in the list (R15). -/
def insertEntry (e : SchedEntry) : List SchedEntry → List SchedEntry
  | [] => [e]
  | b :: rest => if entryBefore e b then e :: b :: rest else b :: insertEntry e rest

/-- The list without the entry of a slot. -/
def dropEntry (slot : Fin 96) (l : List SchedEntry) : List SchedEntry := l.filter fun e => e.slot != slot

/-- The schedule with the entry of `slot` replaced by its showing's next entry at `clock`, if it has one (R15, R16). -/
def Sch.reschedule (c : Sch) (clock : Nat) (slot : Fin 96) : Sch :=
  match nextDue c clock (c.showings.get slot) with
  | some d => { c with list := insertEntry ⟨slot, d.1, d.2⟩ (dropEntry slot c.list) }
  | none => { c with list := dropEntry slot c.list }

/-- The machine with the entry of `slot` recomputed at the present clock. -/
def reschedule (slot : Fin 96) (s : State) : State := s.withSch (s.sch.reschedule s.lck.clock slot)

/-- The machine with the showing of a slot replaced. -/
def State.setShowing (s : State) (slot : Fin 96) (sh : Showing) : State :=
  s.withSch { s.sch with showings := s.sch.showings.set slot sh }

/-! ## Rosters (1.7) -/

/-- A filter admits a showing: state set and auditorium set (R24). -/
def admits (f : Filter) (sh : Showing) : Bool :=
  (match sh.state with
    | .opened => f.states.getLsbD 0
    | .boarding => f.states.getLsbD 1
    | .running => f.states.getLsbD 2
    | .cancelled => f.states.getLsbD 3
    | _ => false)
  && (match sh.auditorium with
    | some a => f.auditoriums.getLsbD a
    | none => false)

/-- The order of a roster: start, then auditorium, then id (R24). -/
def rosterKey (c : Sch) (slot : Fin 96) : Nat :=
  let sh := c.showings.get slot
  (sh.start * 32 + sh.auditorium.getD 0) * 65536 + sh.id.getD 0

/-- Insert a slot into a list ordered by `key`. -/
def insertSlot (key : Fin 96 → Nat) (x : Fin 96) : List (Fin 96) → List (Fin 96)
  | [] => [x]
  | y :: rest => if key x < key y then x :: y :: rest else y :: insertSlot key x rest

/-- The roster of a filter over the showing table (R24). -/
def rosterOf (c : Sch) (f : Filter) : List (Fin 96) :=
  (((fins 96).filter fun i => admits f (c.showings.get i)).foldl (fun l i => insertSlot (rosterKey c) i l) []).take
    f.maxLines

/-- Re-evaluate the roster of one filter; a roster change goes to the CMP where the list differs (R25). -/
def evalRoster (f : Fin 8) (s : State) : State :=
  let new := rosterOf s.sch (s.cmp.filters.get f)
  if new = s.sch.rosters.get f then s
  else sendRosterChange f (s.withSch { s.sch with rosters := s.sch.rosters.set f new })

/-- Re-evaluate all eight rosters (R25). DESIGN CHOICE (log 38): the roster changes of several filters go to the CMP in filter order. -/
def evalRosters (s : State) : State := (fins 8).foldl (fun s f => evalRoster f s) s

/-! ## Effects of state changes (R18, R22, R23) -/

/-- Give a showing a state and tell the SLG (R23). `cause` is the cause kind. -/
def changeState (slot : Fin 96) (st : ShowState) (cause : Nat) (s : State) : State :=
  sendSlg (.stateChange slot st cause) (s.setShowing slot { s.sch.showings.get slot with state := st })

/-- A sale-end to the NTC (R23). -/
def sendSaleEnd (slot : Fin 96) (s : State) : State := sendNtc (.saleEnd slot) s

/-- auto_entry becomes none (R13, R18). -/
def clearAutoEntry (slot : Fin 96) (s : State) : State :=
  s.setShowing slot { s.sch.showings.get slot with autoEntry := none }

/-- Every schedule field at its EMPTY value (R7, R14, R18). -/
def clearShowing (slot : Fin 96) (s : State) : State := s.setShowing slot Showing.empty

/-- The boarding raise of R22: nothing where boarding_class is none or notice_panels is empty. -/
def boardingRaise (slot : Fin 96) (cause : Nat) (s : State) : State :=
  let sh := s.sch.showings.get slot
  match sh.boardingClass with
  | none => s
  | some cls =>
    if sh.noticePanels = 0#8 then s
    else
      sendNtc (.autoRaise
        { cls := cls, slot := slot, id := sh.id, panels := sh.noticePanels, lifetime := 0
          template := (s.cmp.classMap.get cls).boarding, cause := cause, boarding := true }) s

/-! ## The lobby clock (1.1) -/

/-- Distribute a seconds pulse to the blocks that count seconds (R5). -/
def distributePulse (s : State) : State :=
  s.withLinks { s.links with
    pulseSlg := s.links.pulseSlg + 1
    pulseNtc := s.links.pulseNtc + 1
    pulseCmp := s.links.pulseCmp + 1
    pulsePnl := s.links.pulsePnl.map fun n => n + 1 }

/-- Raise a minute boundary towards the CMP (R4). -/
def raiseMinute (s : State) : State := s.withLinks { s.links with minutes := s.links.minutes + 1 }

/-- The clock after an advance; reaching 129,599 holds it and makes a CLOCK_HELD due (R1, R2). -/
def Lck.advance (c : Lck) : Lck :=
  if c.held then c
  else if c.clock + 1 = Config.clockTop then ⟨Config.clockTop, true, true⟩
  else ⟨c.clock + 1, false, c.holdDue⟩

/-- The advance of an unheld clock with the minute boundary it may raise; the SCH learns the value (R1, R4, R17). -/
def advanceClock (s : State) : State :=
  let t := s.withLck s.lck.advance
  noteCause (runDue s) 0 (if t.lck.clock % 60 = 0 then raiseMinute t else t)

/-- SECONDS_PULSE (R1, R2, R4, R5). -/
def doSecondsPulse (s : State) : State :=
  distributePulse (if s.lck.held then s else advanceClock s)

/-- SECONDS_PULSE (R1). -/
def execSecondsPulse (s : State) : Result := running s doSecondsPulse

/-- CLOCK_HOLD (R2, log 5): the LCK posts CLOCK_HELD for the hold just reached. -/
def doClockHold (s : State) : State :=
  if s.lck.holdDue then post .lck .clockHeld 0 [] (s.withLck ⟨s.lck.clock, true, false⟩) else s

/-- CLOCK_HOLD (R2). -/
def execClockHold (s : State) : Result := running s doClockHold

/-- A purge of every showing in OPEN or BOARDING, in slot order (R20, R21). -/
def purgeOnSale (s : State) : State :=
  ((fins 96).filter fun i =>
    (s.sch.showings.get i).state == .opened || (s.sch.showings.get i).state == .boarding).foldl
    (fun s i => sendPurge .sch i s) s

/-- The clock as TIME writes it (R3); a CLOCK_HELD is due where it was not held before. -/
def Lck.write (c : Lck) (v : Nat) : Lck :=
  if v = Config.clockTop then ⟨v, true, c.holdDue || !c.held⟩ else ⟨v, false, false⟩

/-- A TIME packet's value applied (R3, R4, R17, R20). -/
def setTime (value : Nat) (s : State) : State :=
  let v := min value Config.clockTop
  let old := s.lck.clock
  let t := s.withLck (s.lck.write v)
  let u := if v / 60 = old / 60 then t else raiseMinute t
  if old < v then noteCause (runDue s) 13 u
  else if v < old then purgeOnSale u
  else u

/-- The TIME packet. -/
def pickTime : Packet → Option (Nat → State → State)
  | .time v => some fun _ => setTime v
  | _ => none

/-- TIME (R3). -/
def execTime (s : State) : Result := running s (deliver .lck pickTime)

/-! ## LISTING, CANCEL, REMOVE (1.4) -/

/-- The fields of a LISTING, where every one is in its range (R10 step 1, R198): its slot and its schedule fields,
with state EMPTY and auto_entry none still to be decided. -/
def listingShowing (f : ListingFields) : Option (Fin 96 × Showing) :=
  match asFin 96 f.slot, asFin 64 f.title, formatOf f.format, asFin 16 f.rating, yesNo f.subtitled,
      optIndex 12 f.boardingClass, optIndex 12 f.soldoutClass with
  | some slot, some title, some format, some rating, some sub, some bc, some sc =>
    if f.id ≠ 0 ∧ 1 ≤ f.auditorium ∧ f.auditorium ≤ 24 ∧ f.start ≤ Config.clockTop ∧ 1 ≤ f.runtime
        ∧ f.runtime ≤ 400 ∧ f.boardLead ≤ 3600 ∧ 1 ≤ f.capacity ∧ f.capacity ≤ 999 then
      some (slot,
        { state := .empty, id := some f.id, auditorium := some f.auditorium, title := some title, start := f.start
          runtime := f.runtime, format := format, rating := rating, subtitled := sub, boardLead := f.boardLead
          boardingClass := bc, soldoutClass := sc, noticePanels := BitVec.ofNat 8 f.noticePanels, autoEntry := none })
    else none
  | _, _, _, _, _, _, _ => none

/-- Steps 2 to 5 of R10: why a LISTING whose fields are in range is refused. -/
def listingRefusal (slot : Fin 96) (new : Showing) (s : State) : Option Reason :=
  let old := s.sch.showings.get slot
  if old.state = .empty then
    if (slotOf s (new.id.getD 0)).isSome then some .duplicateId
    else if endAtTime s.sch new ≤ s.lck.clock then some .tooLate
    else none
  else if old.id ≠ new.id then some .slotBusy
  else if old.state = .ended ∨ old.state = .cancelled then some .tooLate
  else none

/-- A new listing (R11). -/
def newListing (slot : Fin 96) (new : Showing) (f : ListingFields) (stamp : Nat) (s : State) : State :=
  evalRosters (reschedule slot (sendSlg (.listingTally slot f.capacity f.sold f.blocked stamp true)
    (s.setShowing slot { new with state := .listed, autoEntry := none })))

/-- An update (R12). -/
def updateListing (slot : Fin 96) (new : Showing) (f : ListingFields) (stamp : Nat) (s : State) : State :=
  let old := s.sch.showings.get slot
  evalRosters (reschedule slot (sendPurge .sch slot
    (sendSlg (.listingTally slot f.capacity f.sold f.blocked stamp false)
      (s.setShowing slot { new with state := old.state, autoEntry := old.autoEntry }))))

/-- A LISTING packet at the SCH (R10 to R12); `stamp` is its recorded clock. -/
def applyListing (f : ListingFields) (stamp : Nat) (s : State) : State :=
  match listingShowing f with
  | none => refuse .sch 2 .badField f.id s
  | some (slot, new) =>
    match listingRefusal slot new s with
    | some r => refuse .sch 2 r f.id s
    | none =>
      noteCause (runDue s) 2
        (if (s.sch.showings.get slot).state = .empty then newListing slot new f stamp s
          else updateListing slot new f stamp s)

/-- The LISTING packet. -/
def pickListing : Packet → Option (Nat → State → State)
  | .listing f => some fun stamp => applyListing f stamp
  | _ => none

/-- LISTING (R10). -/
def execListing (s : State) : Result := running s (deliver .sch pickListing)

/-- The schedule entry of a cancelled showing (R13 step 2). -/
def cancelEntry (slot : Fin 96) (s : State) : State :=
  s.withSch { s.sch with
    list := insertEntry ⟨slot, max (endAtTime s.sch (s.sch.showings.get slot)) s.lck.clock, .reapAt⟩
      (dropEntry slot s.sch.list) }

/-- The cancel of a LISTED, OPEN, BOARDING or RUNNING showing (R13 steps 1 to 6). -/
def cancelShowing (slot : Fin 96) (s : State) : State :=
  evalRosters (sendPurge .sch slot (clearAutoEntry slot (sendSaleEnd slot
    (changeState slot .cancelled 3 (cancelEntry slot s)))))

/-- A CANCEL packet at the SCH (R13). -/
def applyCancel (id : Nat) (s : State) : State :=
  match slotOf s id with
  | none => refuse .sch 3 .unknownShowing id s
  | some slot =>
    match (s.sch.showings.get slot).state with
    | .ended => refuse .sch 3 .tooLate id s
    | .cancelled => s
    | _ => noteCause (runDue s) 3 (cancelShowing slot s)

/-- The CANCEL packet. -/
def pickCancel : Packet → Option (Nat → State → State)
  | .cancel id => some fun _ => applyCancel id
  | _ => none

/-- CANCEL (R13). -/
def execCancel (s : State) : Result := running s (deliver .sch pickCancel)

/-- The removal of a showing (R14 steps 1 to 6). -/
def removeShowing (slot : Fin 96) (s : State) : State :=
  let st := (s.sch.showings.get slot).state
  let t := changeState slot .empty 4 (s.withSch { s.sch with list := dropEntry slot s.sch.list })
  let u := if st = .ended ∨ st = .cancelled then t else sendSaleEnd slot t
  evalRosters (clearShowing slot (sendPurge .sch slot u))

/-- A REMOVE packet at the SCH (R14). -/
def applyRemove (id : Nat) (s : State) : State :=
  match slotOf s id with
  | none => refuse .sch 4 .unknownShowing id s
  | some slot => noteCause (runDue s) 4 (removeShowing slot s)

/-- The REMOVE packet. -/
def pickRemove : Packet → Option (Nat → State → State)
  | .remove id => some fun _ => applyRemove id
  | _ => none

/-- REMOVE (R14). -/
def execRemove (s : State) : Result := running s (deliver .sch pickRemove)

/-! ## Firing (R17 to R19) -/

/-- Fire the head of the schedule list if it is due, of kind `kind` and its showing in state `from`: it leaves the list,
its effect runs with the cause kind of its due time, and the next entry of a showing that is still non-EMPTY goes into the list (R17). -/
def fireHead (kind : EntryKind) (ok : ShowState → Bool) (effect : Fin 96 → Nat → State → State) (s : State) : State :=
  match s.sch.list with
  | [] => s
  | e :: rest =>
    if e.kind = kind ∧ e.due ≤ s.lck.clock ∧ ok (s.sch.showings.get e.slot).state = true then
      reschedule e.slot (effect e.slot (causeOf s e.due) (s.withSch { s.sch with list := rest }))
    else s

/-- OPEN_AT in LISTED (R18). -/
def openEffect (slot : Fin 96) (cause : Nat) (s : State) : State :=
  evalRosters (sendPurge .sch slot (changeState slot .opened cause s))

/-- OPEN_AT (R18). -/
def execOpenAt (s : State) : Result := running s (fireHead .openAt (· == .listed) openEffect)

/-- A countdown entry: a purge of the slot (R19). -/
def countdownEffect (slot : Fin 96) (_cause : Nat) (s : State) : State := sendPurge .sch slot s

/-- WINDOW_AT (R19). -/
def execWindowAt (s : State) : Result := running s (fireHead .windowAt (fun _ => true) countdownEffect)

/-- MINUTE_AT (R19). -/
def execMinuteAt (s : State) : Result := running s (fireHead .minuteAt (fun _ => true) countdownEffect)

/-- BOARD_AT in OPEN (R18, R22). -/
def boardEffect (slot : Fin 96) (cause : Nat) (s : State) : State :=
  evalRosters (boardingRaise slot cause (sendPurge .sch slot (changeState slot .boarding cause s)))

/-- BOARD_AT (R18). -/
def execBoardAt (s : State) : Result := running s (fireHead .boardAt (· == .opened) boardEffect)

/-- START_AT in BOARDING (R18). -/
def startEffect (slot : Fin 96) (cause : Nat) (s : State) : State :=
  evalRosters (sendPurge .sch slot (clearAutoEntry slot (sendSaleEnd slot (changeState slot .running cause s))))

/-- START_AT (R18). -/
def execStartAt (s : State) : Result := running s (fireHead .startAt (· == .boarding) startEffect)

/-- END_AT in RUNNING: ENDED where reap_at is later than end_at, else EMPTY (R18). -/
def endEffect (slot : Fin 96) (cause : Nat) (s : State) : State :=
  let sh := s.sch.showings.get slot
  if endAtTime s.sch sh < reapAtTime s.sch sh then
    evalRosters (sendPurge .sch slot (sendSaleEnd slot (changeState slot .ended cause s)))
  else
    evalRosters (clearShowing slot (sendPurge .sch slot (sendSaleEnd slot (changeState slot .empty cause s))))

/-- END_AT (R18). -/
def execEndAt (s : State) : Result := running s (fireHead .endAt (· == .running) endEffect)

/-- REAP_AT in ENDED or CANCELLED (R18). -/
def reapEffect (slot : Fin 96) (cause : Nat) (s : State) : State :=
  evalRosters (clearShowing slot (sendPurge .sch slot (changeState slot .empty cause s)))

/-- REAP_AT (R18). -/
def execReapAt (s : State) : Result :=
  running s (fireHead .reapAt (fun st => st == .ended || st == .cancelled) reapEffect)

/-! ## Reports from the NTC and the CMP (R22, R25) -/

/-- The NTC's report of a boarding raise (R22): written while the slot is in BOARDING under the same id. -/
def takeRaiseReport (slot : Fin 96) (id : Option Nat) (entry : Option (Fin 24)) (s : State) : State :=
  let sh := s.sch.showings.get slot
  if sh.state = .boarding ∧ sh.id = id then s.setShowing slot { sh with autoEntry := entry } else s

/-- RAISE_REPORT: the SCH takes the oldest report of the NTC, if it is a raise report (R22, R178). -/
def doRaiseReport (s : State) : State :=
  match s.links.ntcSch with
  | ⟨ep, .raiseReport slot id entry⟩ :: rest =>
    let t := s.withLinks { s.links with ntcSch := rest }
    if isFresh .sch ⟨ep, ()⟩ s then takeRaiseReport slot id entry t else t
  | _ => s

/-- RAISE_REPORT (R22). -/
def execRaiseReport (s : State) : Result := running s doRaiseReport

/-- The NTC's report that an auto entry has become FREE (R22, R80). -/
def takeAutoFree (entry : Fin 24) (slot : Fin 96) (s : State) : State :=
  if (s.sch.showings.get slot).autoEntry = some entry then clearAutoEntry slot s else s

/-- AUTO_FREE_REPORT: the SCH takes the oldest report of the NTC, if it is an auto-free report (R22, R178). -/
def doAutoFreeReport (s : State) : State :=
  match s.links.ntcSch with
  | ⟨ep, .autoFree entry slot⟩ :: rest =>
    let t := s.withLinks { s.links with ntcSch := rest }
    if isFresh .sch ⟨ep, ()⟩ s then takeAutoFree entry slot t else t
  | _ => s

/-- AUTO_FREE_REPORT (R22). -/
def execAutoFreeReport (s : State) : Result := running s doAutoFreeReport

/-- FILTER_LOAD_REPORT: the roster of the loaded filter is re-evaluated (R25, R104). -/
def doFilterLoadReport (s : State) : State :=
  match s.links.cmpSch with
  | [] => s
  | f :: rest => evalRoster f (s.withLinks { s.links with cmpSch := rest })

/-- FILTER_LOAD_REPORT (R25). -/
def execFilterLoadReport (s : State) : Result := running s doFilterLoadReport

/-! ## Settings and titles (R21, R8) -/

/-- The schedule entries of the showings in LISTED to ENDED recomputed, in slot order (R21 step 1). -/
def rescheduleAll (s : State) : State :=
  ((filledSlots s).filter fun i => (s.sch.showings.get i).state != .cancelled).foldl (fun s i => reschedule i s) s

/-- A SET of one of the SCH's four settings, once stored (R21). -/
def applySchSetting (store : Sch → Sch) (s : State) : State :=
  noteCause (runDue s) kindSet (purgeOnSale (rescheduleAll (s.withSch (store s.sch))))

/-- SET_LIST_LEAD (R21, R181). -/
def execSetListLead (s : State) : Result :=
  running s (deliver .sch (pickSet 1 fun _ v => applySchSetting fun c => { c with listLead := clamp 600 43200 v }))

/-- SET_COUNTDOWN_WINDOW (R21, R181). -/
def execSetCountdownWindow (s : State) : Result :=
  running s (deliver .sch (pickSet 2 fun _ v => applySchSetting fun c => { c with countdownWindow := clamp 60 5940 v }))

/-- SET_BOARD_LEAD (R21, R181). -/
def execSetBoardLead (s : State) : Result :=
  running s (deliver .sch (pickSet 3 fun _ v => applySchSetting fun c => { c with boardLead := clamp 0 3600 v }))

/-- SET_LATE_WINDOW (R21, R181). -/
def execSetLateWindow (s : State) : Result :=
  running s (deliver .sch (pickSet 4 fun _ v => applySchSetting fun c => { c with lateWindow := clamp 0 3600 v }))

/-- A purge for every non-EMPTY slot whose title field names an entry, in slot order (R8). -/
def purgeTitle (t : Fin 64) (s : State) : State :=
  ((filledSlots s).filter fun i => (s.sch.showings.get i).title == some t).foldl (fun s i => sendPurge .sch i s) s

/-- A title as sent, where it is in range (R8 step 2, R198). -/
def titleOf (long short : List Nat) (hint : Nat) : Option Title :=
  match optIndex 2 hint with
  | some h =>
    if long.length ≤ 40 ∧ short.length ≤ 16 ∧ glyphsOk long = true ∧ glyphsOk short = true then some ⟨long, short, h⟩
    else none
  | none => none

/-- A TABLE packet of a title at the SCH (R8). -/
def applyTitle (index : Nat) (body : TableBody) (s : State) : State :=
  match body with
  | .title long short hint =>
    match asFin 64 index with
    | none => refuseTable .sch .badItem index s
    | some i =>
      match titleOf long short hint with
      | none => refuseTable .sch .badField index s
      | some t => purgeTitle i (s.withSch { s.sch with titles := s.sch.titles.set i t })
  | _ => s

/-- TABLE_TITLE (R8). -/
def execTableTitle (s : State) : Result := running s (deliver .sch (pickTable 32 applyTitle))

/-! ## Reset (R6, R26) -/

/-- The LCK takes a RESET (R6). -/
def Lck.onReset (all : Bool) (c : Lck) : Lck := if all then ⟨0, false, false⟩ else c

/-- The SCH takes a RESET (R26). -/
def Sch.onReset (all : Bool) (c : Sch) : Sch :=
  if all then Sch.reset
  else
    { Sch.reset with
      titles := c.titles, listLead := c.listLead, countdownWindow := c.countdownWindow, boardLead := c.boardLead
      lateWindow := c.lateWindow }

end Sys2Proof.Machine
end

