-- ==== Sys2Proof/Machine/Resets.lean ====
section
/-! DEFINITION. Resets: the RESET packet at the TIF (R178, R195) and at each other block (R6, R26, R53, R99, R118, R129,
R149, R169), and the pin reset (R194). -/

namespace Sys2Proof.Machine

/-- The blocks to which the TIF delivers a RESET, besides itself (R178). -/
def otherBlocks : List Block := [.lck, .sch, .slg, .ntc, .cmp, .tst, .blc, .pnl]

/-- An outstanding read after the TIF has emptied the slot: one that the TIF itself would answer is forgotten; another's
answer will be discarded (R195). -/
def keepRead (r : Option Read) : Option Read := r.filter fun x => readOwner x != .tif

/-- The TIF acts on its own state (R195). -/
def Tif.onReset (all : Bool) (t : Tif) : Tif :=
  let u := { t with slot := .empty, read := keepRead t.read, events := [], lastOwn := false
                    resetting := some ⟨all, otherBlocks⟩ }
  if all then clearLink u else u

/-- A block has taken one RESET more (log 8). -/
def countReset (b : Block) (s : State) : State := s.withTaken (s.taken.modify (blockIx b) fun n => n + 1)

/-- A RESET of a good type reaches the head of the FIFO: the TIF acts, and events posted before go with the queue (R178, R195). -/
def beginReset (all : Bool) (s : State) : State :=
  countReset .tif (onTif (Tif.onReset all) (s.withLinks { s.links with posted := Tab.fill 9 [] }))

/-- The RESET at the head of the FIFO with a type, not yet in delivery (R178). -/
def headReset (type : Nat) (s : State) : Bool :=
  match s.tif.fifo, s.tif.resetting with
  | t :: _, none => t.packet == .reset type
  | _, _ => false

/-- RESET_ALL (R178, R195; 10.3: type 2). -/
def execResetAll (s : State) : Result := running s fun s => if headReset 2 s then beginReset true s else s

/-- RESET_OPS (R178, R195; 10.3: type 1). -/
def execResetOps (s : State) : Result := running s fun s => if headReset 1 s then beginReset false s else s

/-- The RESET packet of an unknown type (R178). -/
def pickBadReset : Packet → Option (State → State)
  | .reset type => if type = 1 ∨ type = 2 then none else some (refuse .tif 18 .badField 0)
  | _ => none

/-- BAD_RESET_TYPE (R178). -/
def execBadResetType (s : State) : Result := running s (deliverTif pickBadReset)

/-- The CMP takes a RESET; after a RESET OPS it repaints every panel that the ports hold LIVE, in panel order (R118). -/
def resetCmp (all : Bool) (s : State) : State :=
  let t := s.withCmp (s.cmp.onReset all)
  if all then t else ((fins 8).filter fun p => portLive s p).foldl (fun s p => repaint p s) t

/-- The ports take a RESET; each LIVE one sends a cleared report after a RESET OPS (R169, log 18). -/
def resetPnl (all : Bool) (s : State) : State :=
  let t := s.withPorts (resetPorts all s)
  if all then t else reportCleared (s.taken.get (blockIx .pnl)) t

/-- What a block's RESET does to its own state, once it is counted. -/
def resetBlock (b : Block) (all : Bool) (s : State) : State :=
  match b with
  | .tif => s
  | .lck => s.withLck (s.lck.onReset all)
  | .sch => s.withSch (s.sch.onReset all)
  | .slg => s.withSlg (s.slg.onReset all)
  | .ntc => resetNtc all s
  | .cmp => resetCmp all s
  | .tst => s.withTst s.tst.onReset
  | .blc => s.withBlc (s.blc.onReset all)
  | .pnl => resetPnl all s

/-- The RESET after a block has taken it: the last one to take it lets it leave the FIFO (R178). -/
def Tif.resetTaken (b : Block) (r : Resetting) (t : Tif) : Tif :=
  let rest := r.waiting.filter fun c => c != b
  if rest.isEmpty then { t with resetting := none, fifo := t.fifo.drop 1 } else { t with resetting := some ⟨r.all, rest⟩ }

/-- RESET_TAKE: a block that is ready takes the RESET in delivery (R178); an owner answers any read it holds first (R195). -/
def doResetTake (b : Block) (s : State) : State :=
  match s.tif.resetting with
  | none => s
  | some r =>
    if r.waiting.contains b && ready b s then
      onTif (Tif.resetTaken b r) (resetBlock b r.all (countReset b s))
    else s

/-- RESET_TAKE (R178). -/
def execResetTake (block : Block) (s : State) : Result := running s (doResetTake block)

/-- PIN_RESET: RESET_N is low; every block at its reset values, the presence levels as the lines have them (R6, R26, R53, R99,
R118, R129, R149, R169, R194, log 13). -/
def execPinReset (s : State) : Result :=
  .next { State.reset with ports := s.ports.map fun x => Port.reset x.level, inReset := true, pending := s.pending }

/-- RESET_N_RISES (R194). -/
def execResetNRises (s : State) : Result := .next (s.withInReset false)

end Sys2Proof.Machine
end

