-- ==== Sys2Proof/Machine/Dispatch.lean ====
section
/-! DEFINITION. One arm for each command: the call of its meaning. -/

namespace Sys2Proof.Machine

def exec (i : Instr) (s : State) : Host.Outcome State Fault Refusal :=
  match i with
  | .secondsPulse => Sys2Proof.Machine.execSecondsPulse s
  | .clockHold => Sys2Proof.Machine.execClockHold s
  | .minuteBoundary => Sys2Proof.Machine.execMinuteBoundary s
  | .openAt => Sys2Proof.Machine.execOpenAt s
  | .windowAt => Sys2Proof.Machine.execWindowAt s
  | .minuteAt => Sys2Proof.Machine.execMinuteAt s
  | .boardAt => Sys2Proof.Machine.execBoardAt s
  | .startAt => Sys2Proof.Machine.execStartAt s
  | .endAt => Sys2Proof.Machine.execEndAt s
  | .reapAt => Sys2Proof.Machine.execReapAt s
  | .packetReceive frame => Sys2Proof.Machine.execPacketReceive frame s
  | .enumerate => Sys2Proof.Machine.execEnumerate s
  | .picture => Sys2Proof.Machine.execPicture s
  | .time => Sys2Proof.Machine.execTime s
  | .listing => Sys2Proof.Machine.execListing s
  | .cancel => Sys2Proof.Machine.execCancel s
  | .remove => Sys2Proof.Machine.execRemove s
  | .listingTally => Sys2Proof.Machine.execListingTally s
  | .stateChange => Sys2Proof.Machine.execStateChange s
  | .tally => Sys2Proof.Machine.execTally s
  | .tallyStale => Sys2Proof.Machine.execTallyStale s
  | .hold => Sys2Proof.Machine.execHold s
  | .release => Sys2Proof.Machine.execRelease s
  | .holdExpiry => Sys2Proof.Machine.execHoldExpiry s
  | .deskOpen => Sys2Proof.Machine.execDeskOpen s
  | .deskClose => Sys2Proof.Machine.execDeskClose s
  | .deskBeat => Sys2Proof.Machine.execDeskBeat s
  | .deskSilence => Sys2Proof.Machine.execDeskSilence s
  | .raise => Sys2Proof.Machine.execRaise s
  | .autoRaise sender => Sys2Proof.Machine.execAutoRaise sender s
  | .raiseReport => Sys2Proof.Machine.execRaiseReport s
  | .autoFreeReport => Sys2Proof.Machine.execAutoFreeReport s
  | .withdraw => Sys2Proof.Machine.execWithdraw s
  | .force => Sys2Proof.Machine.execForce s
  | .lobbyOpen => Sys2Proof.Machine.execLobbyOpen s
  | .lobbyClosed => Sys2Proof.Machine.execLobbyClosed s
  | .noticeExpiry => Sys2Proof.Machine.execNoticeExpiry s
  | .saleEnd => Sys2Proof.Machine.execSaleEnd s
  | .presenceReportNtc panel => Sys2Proof.Machine.execPresenceReportNtc panel s
  | .presenceReportCmp panel => Sys2Proof.Machine.execPresenceReportCmp panel s
  | .viewChange => Sys2Proof.Machine.execViewChange s
  | .noticeContentChange => Sys2Proof.Machine.execNoticeContentChange s
  | .rosterChange => Sys2Proof.Machine.execRosterChange s
  | .deskChange => Sys2Proof.Machine.execDeskChange s
  | .filterLoadReport => Sys2Proof.Machine.execFilterLoadReport s
  | .pageAdvance => Sys2Proof.Machine.execPageAdvance s
  | .jobIssue panel => Sys2Proof.Machine.execJobIssue panel s
  | .purge sender => Sys2Proof.Machine.execPurge sender s
  | .purgeReport => Sys2Proof.Machine.execPurgeReport s
  | .unpin channel => Sys2Proof.Machine.execUnpin channel s
  | .unpinReport => Sys2Proof.Machine.execUnpinReport s
  | .jobArrival channel => Sys2Proof.Machine.execJobArrival channel s
  | .jobCancel channel => Sys2Proof.Machine.execJobCancel channel s
  | .entryFreeNotice => Sys2Proof.Machine.execEntryFreeNotice s
  | .unitGrant => Sys2Proof.Machine.execUnitGrant s
  | .unitWritten => Sys2Proof.Machine.execUnitWritten s
  | .jobCompletedReport channel => Sys2Proof.Machine.execJobCompletedReport channel s
  | .jobDiscardedReport channel => Sys2Proof.Machine.execJobDiscardedReport channel s
  | .jobAbandonedReport channel => Sys2Proof.Machine.execJobAbandonedReport channel s
  | .jobClearedReport channel => Sys2Proof.Machine.execJobClearedReport channel s
  | .queueRoomReport channel => Sys2Proof.Machine.execQueueRoomReport channel s
  | .frameStart panel => Sys2Proof.Machine.execFrameStart panel s
  | .geometryReport panel => Sys2Proof.Machine.execGeometryReport panel s
  | .openWindowsReport panel => Sys2Proof.Machine.execOpenWindowsReport panel s
  | .linkPhaseIdle panel => Sys2Proof.Machine.execLinkPhaseIdle panel s
  | .presenceFall panel => Sys2Proof.Machine.execPresenceFall panel s
  | .presenceRise panel => Sys2Proof.Machine.execPresenceRise panel s
  | .panelBack panel => Sys2Proof.Machine.execPanelBack panel s
  | .gridClearedReport panel => Sys2Proof.Machine.execGridClearedReport panel s
  | .gridClearedAnswer panel => Sys2Proof.Machine.execGridClearedAnswer panel s
  | .setListLead => Sys2Proof.Machine.execSetListLead s
  | .setCountdownWindow => Sys2Proof.Machine.execSetCountdownWindow s
  | .setBoardLead => Sys2Proof.Machine.execSetBoardLead s
  | .setLateWindow => Sys2Proof.Machine.execSetLateWindow s
  | .setHoldPeriod => Sys2Proof.Machine.execSetHoldPeriod s
  | .setSilenceLimit => Sys2Proof.Machine.execSetSilenceLimit s
  | .setStaleLimit => Sys2Proof.Machine.execSetStaleLimit s
  | .setExactLimit => Sys2Proof.Machine.execSetExactLimit s
  | .setStep => Sys2Proof.Machine.execSetStep s
  | .setPlentyLimit => Sys2Proof.Machine.execSetPlentyLimit s
  | .setFastPct => Sys2Proof.Machine.execSetFastPct s
  | .setSoldoutLifetime => Sys2Proof.Machine.execSetSoldoutLifetime s
  | .setClockFormat => Sys2Proof.Machine.execSetClockFormat s
  | .setArbitration => Sys2Proof.Machine.execSetArbitration s
  | .setChannelsRun => Sys2Proof.Machine.execSetChannelsRun s
  | .setEnableMask => Sys2Proof.Machine.execSetEnableMask s
  | .setClosedMask => Sys2Proof.Machine.execSetClosedMask s
  | .setNoticeHold => Sys2Proof.Machine.execSetNoticeHold s
  | .setNoticeLayout => Sys2Proof.Machine.execSetNoticeLayout s
  | .setBaseLayout => Sys2Proof.Machine.execSetBaseLayout s
  | .setPanelEnable => Sys2Proof.Machine.execSetPanelEnable s
  | .setPanelGeometry => Sys2Proof.Machine.execSetPanelGeometry s
  | .setPanelRate => Sys2Proof.Machine.execSetPanelRate s
  | .setChannelClear => Sys2Proof.Machine.execSetChannelClear s
  | .setLinkClear => Sys2Proof.Machine.execSetLinkClear s
  | .setUnknownItem => Sys2Proof.Machine.execSetUnknownItem s
  | .tableTitle => Sys2Proof.Machine.execTableTitle s
  | .tableLayout => Sys2Proof.Machine.execTableLayout s
  | .tableFilter => Sys2Proof.Machine.execTableFilter s
  | .tableStyle => Sys2Proof.Machine.execTableStyle s
  | .tablePhrase => Sys2Proof.Machine.execTablePhrase s
  | .tableTemplate => Sys2Proof.Machine.execTableTemplate s
  | .tableClassMap => Sys2Proof.Machine.execTableClassMap s
  | .tableUnknownItem => Sys2Proof.Machine.execTableUnknownItem s
  | .queryIdent => Sys2Proof.Machine.execQueryIdent s
  | .queryLink => Sys2Proof.Machine.execQueryLink s
  | .queryClock => Sys2Proof.Machine.execQueryClock s
  | .querySetting => Sys2Proof.Machine.execQuerySetting s
  | .queryShowing => Sys2Proof.Machine.execQueryShowing s
  | .queryTitle => Sys2Proof.Machine.execQueryTitle s
  | .queryRoster => Sys2Proof.Machine.execQueryRoster s
  | .queryLedger => Sys2Proof.Machine.execQueryLedger s
  | .queryHold => Sys2Proof.Machine.execQueryHold s
  | .queryDesk => Sys2Proof.Machine.execQueryDesk s
  | .queryNotice => Sys2Proof.Machine.execQueryNotice s
  | .queryPanelNotices => Sys2Proof.Machine.execQueryPanelNotices s
  | .queryNoticeMap => Sys2Proof.Machine.execQueryNoticeMap s
  | .queryLayout => Sys2Proof.Machine.execQueryLayout s
  | .queryFilter => Sys2Proof.Machine.execQueryFilter s
  | .queryBaseLayout => Sys2Proof.Machine.execQueryBaseLayout s
  | .queryStyle => Sys2Proof.Machine.execQueryStyle s
  | .queryPhrase => Sys2Proof.Machine.execQueryPhrase s
  | .queryTemplate => Sys2Proof.Machine.execQueryTemplate s
  | .queryClassMap => Sys2Proof.Machine.execQueryClassMap s
  | .queryPanelBuild => Sys2Proof.Machine.execQueryPanelBuild s
  | .queryTile => Sys2Proof.Machine.execQueryTile s
  | .queryTileStore => Sys2Proof.Machine.execQueryTileStore s
  | .queryChannels => Sys2Proof.Machine.execQueryChannels s
  | .queryChannel => Sys2Proof.Machine.execQueryChannel s
  | .queryPanel => Sys2Proof.Machine.execQueryPanel s
  | .queryUnknownItem => Sys2Proof.Machine.execQueryUnknownItem s
  | .queryReadAnswer => Sys2Proof.Machine.execQueryReadAnswer s
  | .resetAll => Sys2Proof.Machine.execResetAll s
  | .resetOps => Sys2Proof.Machine.execResetOps s
  | .resetTake block => Sys2Proof.Machine.execResetTake block s
  | .pinReset => Sys2Proof.Machine.execPinReset s
  | .eventOffer block => Sys2Proof.Machine.execEventOffer block s
  | .passBufferReceive packet => Sys2Proof.Machine.execPassBufferReceive packet s
  | .returnReadyChange go => Sys2Proof.Machine.execReturnReadyChange go s
  | .returnLaneGrant => Sys2Proof.Machine.execReturnLaneGrant s
  | .reportSent => Sys2Proof.Machine.execReportSent s
  | .resetNRises => Sys2Proof.Machine.execResetNRises s
  | .badResetType => Sys2Proof.Machine.execBadResetType s
  | .lobbyBadMode => Sys2Proof.Machine.execLobbyBadMode s
  | .deskBadOperation => Sys2Proof.Machine.execDeskBadOperation s

end Sys2Proof.Machine
end

