-- ==== Sys2Proof/Safety.lean ====
section
/-! DEFINITION. What the claims speak of: packets delivered from the parse FIFO, payloads that pass the length test,
what a handled showing or a recomputed figure leaves, and the invariants of the machine's tables, queues and grids. -/

namespace Sys2Proof.Machine

/-! ## Packets -/

/-- A packet's payload ends where its kind and its counts say (R197). -/
def Reads : Packet → Prop
  | .set item _ v => ∀ n, setValueSize item = some n → v.length = n
  | .table item _ b => isTableItem item = true → (readBody item b).isSome = true
  | .query item k => ∀ n, queryKeySize item = some n → k.length = n
  | _ => True

/-- A part out of reset has a packet with its recorded clock at the head of the parse FIFO (R176). -/
abbrev AtHead (p : Packet) (clock : Nat) (rest : List Taken) (s : State) : Prop :=
  s.inReset = false ∧ s.tif.fifo = ⟨p, clock⟩ :: rest

/-- The FIFO can deliver that packet to its owner, which is ready for it (R177, R184). -/
abbrev Delivers (b : Block) (p : Packet) (clock : Nat) (rest : List Taken) (s : State) : Prop :=
  AtHead p clock rest s ∧ ready b s = true

/-! ## What the SCH leaves when it has handled a showing (R11 to R14, R18, R25) -/

/-- The schedule list with the entry of a slot replaced by the next entry of showing `sh` (R15, R16). -/
def nextList (c : Sch) (clock : Nat) (slot : Fin 96) (sh : Showing) (list : List SchedEntry) : List SchedEntry :=
  match nextDue c clock sh with
  | some d => insertEntry ⟨slot, d.1, d.2⟩ (dropEntry slot list)
  | none => dropEntry slot list

/-- The machine with new showings and a new schedule list, requests sent to the SLG, the TST and the NTC, every roster
built anew and a roster change sent for each that differs, in filter order (R23 to R25, log 38); nothing else is different. -/
def State.scheduled (s : State) (showings : Tab 96 Showing) (list : List SchedEntry) (slg : List ToSlg)
    (tst : List (Fin 96)) (ntc : List ToNtc) : State :=
  let c := { s.sch with showings := showings, list := list }
  let rosters := Tab.make 8 fun f => rosterOf c (s.cmp.filters.get f)
  { s with
    sch := { c with rosters := rosters }
    links := { s.links with
      schSlg := s.links.schSlg ++ slg.map (mail .sch s)
      schTst := s.links.schTst ++ tst.map (mail .sch s)
      schNtc := s.links.schNtc ++ ntc.map (mail .sch s)
      schCmp := s.links.schCmp
        ++ ((fins 8).filter fun f => decide (rosters.get f ≠ s.sch.rosters.get f)).map (mail .sch s) } }

/-- The boarding raise of a showing in a slot, if it has one (R22). -/
def boardingRaises (s : State) (slot : Fin 96) (cause : Nat) : List ToNtc :=
  let sh := s.sch.showings.get slot
  match sh.boardingClass with
  | none => []
  | some cls =>
    if sh.noticePanels = 0#8 then []
    else [.autoRaise ⟨cls, slot, sh.id, sh.noticePanels, 0, (s.cmp.classMap.get cls).boarding, cause, true⟩]

/-- The slots of the showings in OPEN or BOARDING, in slot order (R20, R21). -/
def onSaleSlots (s : State) : List (Fin 96) :=
  (fins 96).filter fun i =>
    (s.sch.showings.get i).state == .opened || (s.sch.showings.get i).state == .boarding

/-! ## What the SLG leaves (R30, R31, R35, R36) -/

/-- A record replaced by `f` of it, and its oversold field brought up to date (R31); nothing else is different, no event posted. -/
def State.recorded (s : State) (slot : Fin 96) (f : Ledger → Ledger) : State :=
  let l := f (s.slg.ledger.get slot)
  { s with slg := { s.slg with ledger := s.slg.ledger.set slot { l with oversold := decide (l.C < l.B + l.S + l.P) } } }

/-- A record replaced by `f` of it, its oversold field brought up to date, and an OVERSOLD event posted where it has become
yes (R31); nothing else is different. -/
def State.tallied (s : State) (slot : Fin 96) (f : Ledger → Ledger) : State :=
  let l := f (s.slg.ledger.get slot)
  if l.C < l.B + l.S + l.P ∧ l.oversold = false then
    postRecord .slg
      ⟨.oversold, slot.val, [l.B + l.S + l.P - l.C, showingId s slot], s.lck.clock⟩ (s.recorded slot f)
  else s.recorded slot f

/-- A recomputation that finds key `k` requests a sold-out notice (R36). -/
def wantsNotice (s : State) (st : ShowState) (slot : Fin 96) (k : FigureKey) : Bool :=
  decide ((s.slg.ledger.get slot).key ≠ some k) && k.figure == .soldOut
    && (s.sch.showings.get slot).soldoutClass.isSome && decide ((s.sch.showings.get slot).noticePanels ≠ 0#8)
    && !(s.slg.ledger.get slot).soldout && (st == .opened || st == .boarding)

/-- The sold-out raise of a showing for a cause kind (R36). -/
def soldOutMail (s : State) (slot : Fin 96) (cause : Nat) : List (Mail AutoRaise) :=
  match (s.sch.showings.get slot).soldoutClass with
  | none => []
  | some cls =>
    [mail .slg s ⟨cls, slot, (s.sch.showings.get slot).id, (s.sch.showings.get slot).noticePanels,
      s.slg.soldoutLifetime, (s.cmp.classMap.get cls).soldout, cause, false⟩]

/-- The machine after the figure key of a showing taken to be in state `st` has been recomputed (R35, R36). -/
def State.refigured (s : State) (st : ShowState) (slot : Fin 96) (cause : Nat) : State :=
  let l := s.slg.ledger.get slot
  let k := figureKey (figureSettings s.slg) st l
  { s with
    slg := { s.slg with
      ledger := s.slg.ledger.set slot
        { l with key := some k, soldout := if 0 < seatsLeft l then false else l.soldout || wantsNotice s st slot k } }
    links := { s.links with
      slgTst := s.links.slgTst ++ (if l.key = some k then [] else [mail .slg s slot])
      slgNtc := s.links.slgNtc ++ (if wantsNotice s st slot k then soldOutMail s slot cause else []) } }

/-- The sum of the seats of some holds. -/
def seatSum (l : List Hold) : Nat := (l.map fun h => h.seats).sum

/-! ## Notices -/

/-- Panel state `x` holds entry `e`: pending, current or stacked (R71). -/
abbrev Holds (e : Fin 24) (x : NtcPanel) : Prop := e ∈ x.waiting.map (fun w => w.entry) ∨ some e ∈ shownViews x

/-- The places of panel state `x` that hold entry `e`: pending, current or stacked (R71, R72). -/
def places (e : Fin 24) (x : NtcPanel) : Nat := ((x.waiting.map fun w => w.entry) ++ (shownViews x).filterMap id).count e

/-- Panel state `x` holds entry `e` in one place at most (R71, R72). -/
abbrev HeldOnce (e : Fin 24) (x : NtcPanel) : Prop := places e x ≤ 1

/-! ## Invariants -/

/-- The clock is in its range and held exactly at its top, and a CLOCK_HELD is due only while it is held (R1, R2, R3). -/
abbrev ClockOk (s : State) : Prop :=
  s.lck.clock ≤ 129599 ∧ (s.lck.held = true ↔ s.lck.clock = 129599) ∧ (s.lck.holdDue = true → s.lck.held = true)

/-- The parse FIFO, the event queue, the dropped count and the picture buffers are within their bounds (R164, R176, R187). -/
abbrev QueuesOk (s : State) : Prop :=
  s.tif.fifo.length ≤ 4 ∧ s.tif.events.length ≤ 16 ∧ s.tif.dropped ≤ 255 ∧ ∀ p, (s.ports.get p).buffer.length ≤ 2

/-- No channel queue holds, with the jobs on their way to it, more jobs than it has room for (R112, R133, R134). -/
abbrev JobsFit (s : State) : Prop :=
  ∀ n, (s.blc.channels.get n).normal.length + jobsInFlight (s.links.cmpBlc.get n) .normal ≤ 16
    ∧ (s.blc.channels.get n).announce.length + jobsInFlight (s.links.cmpBlc.get n) .announce ≤ 8

/-- A job stands in the lane of its queue; an aside job is a normal one, and leaves no room for a current normal one (R133, R139). -/
abbrev LanesOk (c : Channel) : Prop :=
  (∀ j ∈ c.normal, j.lane = .normal) ∧ (∀ j ∈ c.announce, j.lane = .announce)
    ∧ (∀ j ∈ c.aside, j.lane = .normal) ∧ (currentNormal c = true → c.aside = none)

/-- A channel's work and port phase are those of its state (R133). -/
abbrev ChannelOk (run : Bool) (c : Channel) : Prop :=
  (c.state = .idle → hasWork c = false ∧ c.phase = .none)
    ∧ (c.state = .active → c.current.isSome = true ∧ c.phase ≠ .none ∧ (run = false → c.phase = .writing))
    ∧ (c.state = .stopped → hasWork c = true ∧ c.phase = .none ∧ run = false)
    ∧ (c.state = .fault → c.current.isSome = true ∧ c.phase = .none)

/-- Every channel is as its state says, and one that is WRITING has the unit in writing (R133, R136). -/
abbrev ChannelsOk (s : State) : Prop :=
  ∀ n, ChannelOk s.blc.run (s.blc.channels.get n) ∧ LanesOk (s.blc.channels.get n)
    ∧ ((s.blc.channels.get n).phase = .writing → s.blc.unit.map (fun u => u.channel) = some n)

/-- The geometry of a port, in force and pending, is in range and both its grids are in canonical form (R150, R160). -/
abbrev GridOk (x : Port) : Prop :=
  x.grid0.wf = true ∧ x.grid1.wf = true ∧ x.columns ≤ 64 ∧ x.rows ≤ 36
    ∧ ∀ g ∈ x.geometryPending, g.1 ≤ 64 ∧ g.2 ≤ 36

/-- Every grid is in canonical form, and the unit in writing lies on the grid (R137, R150). -/
abbrev GridsOk (s : State) : Prop :=
  (∀ p, GridOk (s.ports.get p)) ∧ ∀ u ∈ s.blc.unit, ∀ ac ∈ u.cells, ac.1 < 2304

/-- The entry kinds that a showing in a state can have in the schedule list (R16). -/
def kindFits : ShowState → EntryKind → Bool
  | .listed, .openAt => true
  | .opened, .boardAt | .opened, .windowAt | .opened, .minuteAt => true
  | .boarding, .startAt | .boarding, .windowAt | .boarding, .minuteAt => true
  | .running, .endAt => true
  | .ended, .reapAt | .cancelled, .reapAt => true
  | _, _ => false

/-- The schedule list is in order, with one entry of a fitting kind for each non-EMPTY showing and none for an EMPTY one; an EMPTY
slot holds its EMPTY values, and no two non-EMPTY slots hold one id (R7, R15, R16). -/
abbrev ScheduleOk (s : State) : Prop :=
  s.sch.list.Pairwise (fun a b => entryBefore a b = true)
    ∧ (∀ i, (s.sch.list.filter fun e => e.slot == i).length
        = if (s.sch.showings.get i).state = .empty then 0 else 1)
    ∧ (∀ e ∈ s.sch.list, kindFits (s.sch.showings.get e.slot).state e.kind = true)
    ∧ (∀ i, (s.sch.showings.get i).state = .empty → s.sch.showings.get i = Showing.empty)
    ∧ ∀ i j, (s.sch.showings.get i).state ≠ .empty → (s.sch.showings.get j).state ≠ .empty →
        (s.sch.showings.get i).id = (s.sch.showings.get j).id → i = j

/-- A save stack holds at most 3 contexts, is empty exactly when the view is BASE, and has BASE at the bottom and nowhere
else (R74). -/
abbrev StackOk (x : NtcPanel) : Prop :=
  x.stack.length ≤ 3 ∧ (x.stack = [] ↔ x.view = none)
    ∧ (∀ c ∈ x.stack.getLast?, c.view = none) ∧ ∀ c ∈ x.stack.dropLast, c.view ≠ none

/-- Each panel of a LIVE entry's panels set holds the entry in exactly one place, and no other panel holds it (R71). -/
abbrev HeldOk (s : State) : Prop :=
  ∀ e p, places e (s.ntc.panels.get p)
    = if ((s.ntc.entries.get e).any fun n => n.panels.getLsbD p.val) = true then 1 else 0

/-- The raise sequence holds every LIVE entry once and nothing else, every LIVE entry stands in exactly one place on each of its panels, and
every save stack is well formed (R71, R74). -/
abbrev NoticesOk (s : State) : Prop :=
  s.ntc.sequence.Nodup ∧ (∀ e, e ∈ s.ntc.sequence ↔ (s.ntc.entries.get e).isSome = true)
    ∧ HeldOk s ∧ ∀ p, StackOk (s.ntc.panels.get p)

/-- A tile slot is as its state says (R119). -/
abbrev TileOk (x : Tile) : Prop :=
  x.pins ≤ 16 ∧ x.fmt ≤ 65535
    ∧ (x.state = .free → x.pins = 0 ∧ x.key = none) ∧ (x.state = .purging → 1 ≤ x.pins)

/-- Tile slots are as their states say, the use list holds every VALID slot once and no other, and at most one VALID slot holds a
key (R119, R120). -/
abbrev TilesOk (s : State) : Prop :=
  (∀ i, TileOk (s.tst.slots.get i)) ∧ s.tst.useList.Nodup
    ∧ (∀ i, i ∈ s.tst.useList ↔ (s.tst.slots.get i).state = .valid)
    ∧ ∀ i j, (s.tst.slots.get i).state = .valid → (s.tst.slots.get j).state = .valid →
        (s.tst.slots.get i).key = (s.tst.slots.get j).key → i = j

/-- A port's mode, mute, presence and link agree: DARK exactly when disabled, and silent then; LIVE only with its line high; not LIVE means
muted, with nothing buffered or in sending as a segment; a segment waits only behind something in sending (R150 to R153, R159, R165). -/
abbrev PortOk (x : Port) : Prop :=
  (x.mode = .dark ↔ x.enable = false)
    ∧ (x.mode = .dark → x.phase = .idle)
    ∧ (x.mode = .live → x.level = true)
    ∧ (x.mode ≠ .live → x.mute = true ∧ x.buffer = [] ∧ x.segment = none)
    ∧ (x.phase = .grid ↔ x.frame.isSome = true)
    ∧ (x.phase = .segment ↔ x.segment.isSome = true)
    ∧ (x.frameWaiting.isSome = true → x.phase = .segment)
    ∧ (x.buffer ≠ [] → x.phase ≠ .idle)

/-- Every port is well formed, and no port is LIVE while RESET_N is low (R150 to R153, R194). -/
abbrev PortsOk (s : State) : Prop :=
  (∀ p, PortOk (s.ports.get p)) ∧ (s.inReset = true → ∀ p, (s.ports.get p).mode ≠ .live)

/-! ## What the statements say a command leaves -/

/-- The links with events that a block has posted (R187). -/
def Links.posting (k : Links) (b : Block) (l : List Event) : Links :=
  { k with posted := k.posted.modify (blockIx b) fun q => q ++ l }

/-- The links with one seconds pulse more on its way to the SLG, the NTC, the CMP and every port (R5). -/
def Links.pulsed (k : Links) : Links :=
  { k with
    pulseSlg := k.pulseSlg + 1, pulseNtc := k.pulseNtc + 1, pulseCmp := k.pulseCmp + 1
    pulsePnl := Tab.make 8 fun p => k.pulsePnl.get p + 1 }

/-- The schedule that knows which packet kind brought it to a clock value, behind the causes of a run in progress (log 7). -/
def Sch.noted (c : Sch) (busy : Bool) (clock kind : Nat) : Sch :=
  { c with causes := (if busy then c.causes else []) ++ [(clock, kind)] }

/-- The machine whose SCH begins a firing run for a packet of a kind (R17, log 7). -/
def State.noting (s : State) (kind : Nat) : State := { s with sch := { s.sch with causes := [(s.lck.clock, kind)] } }

/-- The machine with the holds that meet `p` FREE, their seats out of H of their showings and their number out of the holds that
their desks own; nothing else is different (R41, R43, R44). -/
def State.dropped (s : State) (p : Hold → Bool) : State :=
  { s with
    slg := { s.slg with
      holds := Tab.make 64 fun i => (s.slg.holds.get i).filter fun h => !p h
      ledger := Tab.make 96 fun i =>
        { s.slg.ledger.get i with
          H := (s.slg.ledger.get i).H - seatSum (holdsWith (fun h => p h && h.slot == i) s.slg) }
      desks := Tab.make 16 fun d =>
        { s.slg.desks.get d with
          owned := (s.slg.desks.get d).owned - (holdsWith (fun h => p h && h.desk == d) s.slg).length } } }

/-- Figure keys of showings recomputed, in the order given, each if the SLG has a showing there (R35, R44). -/
def State.refiguredEach (s : State) (slots : List (Fin 96)) (cause : Nat) : State :=
  slots.foldl (fun s i => if inLedger s i then s.refigured (stateOf s i) i cause else s) s

/-- The machine with the panes that `pick` names marked dirty in every panel's current view (R109). -/
def State.marked (s : State) (pick : Fin 8 → Nat → Pane → Bool) : State :=
  { s with cmp := { s.cmp with
      panels := Tab.make 8 fun p => markPanes (viewLayout s p) (pick p) (cmpPanel s p) } }

/-- The machine with an entry pending, at its ordered place, on the panels of a set (R73, R77, R80). -/
def State.pended (s : State) (e : Fin 24) (m : BitVec 8) : State :=
  { s with ntc := { s.ntc with
      panels := Tab.make 8 fun p =>
        if m.getLsbD p.val then { ntcPanel s p with waiting := insertWaiting s.ntc e (ntcPanel s p).waiting }
        else ntcPanel s p } }

/-- The machine after the entries of a list have been retired and takes evaluated, its panels' views and the view changes sent being
`panels` and `changes` (R71, R80, R91, R132). -/
def State.retired (s : State) (l : List (Fin 24)) (panels : Tab 8 NtcPanel) (changes : List (Mail ToCmp)) : State :=
  { s with
    ntc := { s.ntc with
      entries := Tab.make 24 fun e => if e ∈ l then none else s.ntc.entries.get e
      sequence := s.ntc.sequence.filter fun e => decide (e ∉ l)
      panels := panels }
    links := { s.links with
      ntcBlc := s.links.ntcBlc ++ l
      ntcSch := s.links.ntcSch ++ l.filterMap fun e =>
        ((s.ntc.entries.get e).bind fun n => n.origin).map fun slot => mail .ntc s (.autoFree e slot)
      ntcCmp := s.links.ntcCmp ++ changes } }

/-- Every LIVE hold is counted: H of a showing is the sum of the seats of the holds that name it, a desk owns as many holds as
name it, only an OPEN desk owns any, and no two holds have one desk and tag (R37, R45). -/
abbrev HoldsOk (s : State) : Prop :=
  (∀ i, (s.slg.ledger.get i).H = seatSum (holdsWith (fun h => h.slot == i) s.slg))
    ∧ (∀ d, (s.slg.desks.get d).owned = (holdsWith (fun h => h.desk == d) s.slg).length)
    ∧ (∀ d, (s.slg.desks.get d).state ≠ .opened → (s.slg.desks.get d).owned = 0)
    ∧ ((holdsWith (fun _ => true) s.slg).map fun h => (h.desk, h.tag)).Nodup

/-- A request of the SCH that the SLG will act on by emptying a slot (R34, R178). -/
def empties (s : State) (i : Fin 96) (m : Mail ToSlg) : Bool :=
  isFresh .slg m s && match m.body with
    | .stateChange j .empty _ => j == i
    | _ => false

/-- No hold names an EMPTY slot, or the slot of a new listing whose tally is on its way, unless the state change that drops it is
still ahead; and none is left where the SLG has taken a RESET before the SCH (R28, R34, R37, R53). -/
abbrev OpeningsOk (s : State) : Prop :=
  (∀ i, (s.sch.showings.get i).state = .empty → s.taken.get (blockIx .sch) = s.taken.get (blockIx .slg) →
      holdsWith (fun h => h.slot == i) s.slg = [] ∨ s.links.schSlg.any (empties s i) = true)
    ∧ (∀ k < s.links.schSlg.length, ∀ m ∈ s.links.schSlg[k]?, isFresh .slg m s = true → ∀ i, isOpening i m = true →
      holdsWith (fun h => h.slot == i) s.slg = [] ∨ (s.links.schSlg.take k).any (empties s i) = true)
    ∧ (s.taken.get (blockIx .sch) < s.taken.get (blockIx .slg) → holdsWith (fun _ => true) s.slg = [])

/-- Every block has taken as many RESETs as the TIF but for one that it is still waited for, and the RESET in delivery stands at
the head of the parse FIFO (R178). -/
abbrev ResetsOk (s : State) : Prop :=
  (∀ b ∈ Block.tif :: otherBlocks,
      s.taken.get (blockIx b) + (if awaitsReset b s = true then 1 else 0) = s.taken.get (blockIx .tif))
    ∧ (s.tif.resetting.isSome = true → (s.tif.fifo.head?.map fun t => t.packet) = some (.reset 1)
      ∨ (s.tif.fifo.head?.map fun t => t.packet) = some (.reset 2))

/-- The fields of a LISTING are in their ranges (R10, R198). -/
abbrev ListingInRange (f : ListingFields) : Prop :=
  f.slot < 96 ∧ f.id ≠ 0 ∧ 1 ≤ f.auditorium ∧ f.auditorium ≤ 24 ∧ f.title < 64 ∧ f.start ≤ 129599 ∧ 1 ≤ f.runtime
    ∧ f.runtime ≤ 400 ∧ f.format < 4 ∧ f.rating < 16 ∧ f.subtitled < 2 ∧ f.boardLead ≤ 3600
    ∧ (f.boardingClass < 12 ∨ f.boardingClass = 255) ∧ (f.soldoutClass < 12 ∨ f.soldoutClass = 255)
    ∧ 1 ≤ f.capacity ∧ f.capacity ≤ 999

/-- The tile reference that a job's end unpins (R124, R140). -/
def unpinsOf (j : Job) : List TileRef :=
  match j.source with
  | .tile r => [r]
  | _ => []

/-- The machine with a channel replaced, its reports to the CMP and its unpins to the Tile Store sent (R140); nothing else is different. -/
def State.channelled (s : State) (n : Fin 4) (c : Channel) (reports : List FromChannel) (unpins : List TileRef) : State :=
  { s with
    blc := { s.blc with channels := s.blc.channels.set n c }
    links := { s.links with
      blcCmp := s.links.blcCmp.modify n fun l => l ++ reports
      blcTst := s.links.blcTst.modify n fun l => l ++ unpins } }

/-- The reports of the jobs of one queue that a cancel removes, with the one queue-room report behind them (R140, R141). -/
def discards (lane : Lane) (gone : List Job) : List FromChannel :=
  match gone with
  | [] => []
  | _ => gone.map (fun j => .discarded j.panel j.number) ++ [.room lane]

/-- One more in a count that stops at 65,535 (R148, R193). -/
def more (n : Nat) : Nat := min 65535 (n + 1)

/-- The QUERY rows of the table that name an item, with the item's code (10.4). -/
def queryRows : List (Instr × Nat) :=
  [(.queryIdent, 48), (.queryLink, 49), (.queryClock, 50), (.querySetting, 65), (.queryShowing, 51), (.queryTitle, 32),
   (.queryRoster, 52), (.queryLedger, 53), (.queryHold, 54), (.queryDesk, 55), (.queryNotice, 56), (.queryPanelNotices, 57),
   (.queryNoticeMap, 58), (.queryLayout, 33), (.queryFilter, 34), (.queryBaseLayout, 20), (.queryStyle, 35), (.queryPhrase, 36),
   (.queryTemplate, 37), (.queryClassMap, 38), (.queryPanelBuild, 59), (.queryTile, 60), (.queryTileStore, 61),
   (.queryChannels, 62), (.queryChannel, 63), (.queryPanel, 64)]

/-- A schedule after one of its settings has been stored: the entries of the showings in LISTED to ENDED are those their thresholds now
give, those of CANCELLED ones stay, and the list keeps its order (R21). -/
abbrev Rescheduled (c : Sch) (clock : Nat) (list : List SchedEntry) : Prop :=
  (∀ i, list.filter (fun e => e.slot == i)
      = if (c.showings.get i).state = .empty ∨ (c.showings.get i).state = .cancelled then c.list.filter fun e => e.slot == i
        else (nextDue c clock (c.showings.get i)).toList.map fun d => ⟨i, d.1, d.2⟩)
    ∧ (c.list.Pairwise (fun a b => entryBefore a b = true) → list.Pairwise fun a b => entryBefore a b = true)

end Sys2Proof.Machine
end

