-- ==== Sys2Proof/Certificates/Slice0/Obligations.lean ====
section
/-! DEFINITION. What is to be proved of the machine, one proposition each. Where a statement gives the next state as a record with
some parts replaced, every part it does not name is as before. -/

open Sys2Proof Sys2Proof.Machine

/-! ## The step and the commands -/

/-- A step takes the command at the front of the queue and runs it with the queue's rest; with no command waiting the part idles, which
is the model's choice (log 2). The model's own choices here: log 2. -/
def Obligations.StepTakesTheFront : Prop :=
  (∀ (c : Instr) (rest : List Instr) (s : State), s.pending = c :: rest → step s = exec c { s with pending := rest })
    ∧ ∀ s : State, s.pending = [] → step s = .next s

/-- Every command, in every state, goes on to a next state and leaves the queue of commands alone: nothing stops the part. The model's
own choices here: log 1. -/
def Obligations.EveryCommandGoesOn : Prop :=
  ∀ (c : Instr) (s : State), ∃ t, exec c s = .next t ∧ t.pending = s.pending

/-- While RESET_N is low no block runs; only the presence lines still move their levels, frame starts and the ends of what the panel
links send still occur (FrameStarts, SegmentsPassTheGate), and RESET_N rises (R156, R194). The model's own choices here: log 13. -/
def Obligations.NothingRunsInReset : Prop :=
  (∀ (c : Instr) (s : State), s.inReset = true → c ≠ .pinReset → c ≠ .resetNRises →
      (∀ p, c ≠ .presenceFall p) → (∀ p, c ≠ .presenceRise p) → (∀ p, c ≠ .frameStart p) → (∀ p, c ≠ .linkPhaseIdle p) →
      exec c s = .next s)
    ∧ (∀ (p : Fin 8) (s : State), s.inReset = true → exec (.presenceFall p) s
        = .next { s with ports := s.ports.modify p fun x => { x with level := false } })
    ∧ ∀ s : State, exec .resetNRises s = .next { s with inReset := false }

/-! ## Packets as bytes -/

/-- The bytes of every packet whose fields fit read back as that packet (10.2 to 10.4, R197). -/
def Obligations.PacketsReadBack : Prop :=
  (∀ p : Packet, p.wf = true → Reads p → decodePayload p.kind (encodePayload p) = some (.fifo p))
    ∧ (∀ f : Picture, f.wf = true → decodePayload 1 (encodePicture f) = some (.picture f))
    ∧ ∀ n : Nat, n < 256 → decodePayload 17 (put1 n) = some (.enumerate n)

/-- A packet as sent is good; with two other check bytes it is a check failure, and with another number of bytes behind its header, or a
payload length above 1,024, a format failure (R170, R196). The check of the digits 1 to 9 is 29B1 hexadecimal; the register ends with 0
on a good packet; and a change of any one byte changes the check (R196). -/
def Obligations.FramesAreTested : Prop :=
  ((∀ (k d : Nat) (p : List Byte), k < 256 → d < 256 → p.length ≤ 1024 → testFrame (packetBytes k d p) = .good k d p)
      ∧ (∀ (k d n1 n0 : Byte) (p check' : List Byte), num2 n1 n0 ≤ 1024 → p.length = num2 n1 n0 → check'.length = 2 →
          check' ≠ checkBytes (k :: d :: n1 :: n0 :: p) → testFrame (k :: d :: n1 :: n0 :: p ++ check') = .checkFailure)
      ∧ (∀ (k d n1 n0 : Byte) (rest : List Byte), rest.length ≠ num2 n1 n0 + 2 →
          testFrame (k :: d :: n1 :: n0 :: rest) = .formatFailure)
      ∧ ∀ (k d n1 n0 : Byte) (rest : List Byte), 1024 < num2 n1 n0 → testFrame (k :: d :: n1 :: n0 :: rest) = .formatFailure)
  ∧ (check [0x31#8, 0x32#8, 0x33#8, 0x34#8, 0x35#8, 0x36#8, 0x37#8, 0x38#8, 0x39#8] = 0x29B1#16
      ∧ (∀ bs : List Byte, check (bs ++ checkBytes bs) = 0#16)
      ∧ ∀ (before after : List Byte) (x y : Byte), check (before ++ x :: after) = check (before ++ y :: after) → x = y)

/-! ## Invariants that every step keeps -/

/-- The clock stays in its range, held exactly at 129,599 (R1, R2, R3). The FIFO, the event queue, the dropped count and the picture
buffers stay within their bounds (R164, R176, R187). -/
def Obligations.ClockAndQueuesStayOk : Prop :=
  (∀ s t : State, ClockOk s → step s = .next t → ClockOk t)
  ∧ (∀ s t : State, QueuesOk s → step s = .next t → QueuesOk t)

/-- The jobs in and on their way to a channel's queues always fit them (R112, R133). Every channel's work and port phase stay those of
its state, in the right lanes (R133, R136, R139). The model's own choices here: log 12, 27. -/
def Obligations.JobsAndChannelsStayOk : Prop :=
  (∀ s t : State, JobsFit s → step s = .next t → JobsFit t)
  ∧ (∀ s t : State, ChannelsOk s → step s = .next t → ChannelsOk t)

/-- Every grid stays in canonical form within its range, whatever a unit writes (R131, R137, R150). The ports stay well formed (R150 to
R153, R157, R165). The model's own choices here: log 25. -/
def Obligations.GridsAndPortsStayOk : Prop :=
  (∀ s t : State, GridsOk s → step s = .next t → GridsOk t)
  ∧ (∀ s t : State, PortsOk s → step s = .next t → PortsOk t)

/-- The schedule list stays in order with exactly one entry for each non-EMPTY showing, of a kind that fits its state (R15, R16). -/
def Obligations.ScheduleStaysOk : Prop :=
  ∀ s t : State, ScheduleOk s → step s = .next t → ScheduleOk t

/-- The holds stay counted, and the RESETs taken agree: a showing's H is the sum of the seats of its holds, a desk owns as many holds as
name it, and a slot without a showing has none but for a state change still on its way (R28, R34, R37, R45, R178). The model's own
choices here: log 4, 8, 30. -/
def Obligations.HoldsStayOk : Prop :=
  ∀ s t : State, HoldsOk s ∧ OpeningsOk s ∧ ResetsOk s → step s = .next t → HoldsOk t ∧ OpeningsOk t ∧ ResetsOk t

/-- The raise sequence stays that of the LIVE entries; each panel of an entry's set goes on holding it in exactly one place, and no other
panel holds it; and the save stacks stay well formed (R71, R74). The model's own choices here: log 32. -/
def Obligations.NoticesStayOk : Prop :=
  ∀ s t : State, NoticesOk s → step s = .next t → NoticesOk t

/-- The tile slots and the use list stay as R119 and R120 say. -/
def Obligations.TilesStayOk : Prop := ∀ s t : State, TilesOk s → step s = .next t → TilesOk t

/-- The state after reset is well formed in every one of these ways; the settings have their defaults, nothing is on sale, held, raised
or queued, and every port is WAITING, muted, 48 x 27 at 60 (R6, R21, R26, R51, R53, R60, R99, R118, R129, R149, R169, R194). The model's
own choices here: log 14. -/
def Obligations.ResetIsWellFormed : Prop :=
  let s := State.reset
  (ClockOk s ∧ QueuesOk s ∧ JobsFit s ∧ ChannelsOk s ∧ GridsOk s
    ∧ ScheduleOk s ∧ HoldsOk s ∧ OpeningsOk s ∧ ResetsOk s ∧ NoticesOk s ∧ TilesOk s ∧ PortsOk s)
  ∧ (s.lck.clock = 0 ∧ s.sch.listLead = 14400 ∧ s.sch.countdownWindow = 1800 ∧ s.sch.boardLead = 1200 ∧ s.sch.lateWindow = 900
    ∧ s.slg.holdPeriod = 480 ∧ s.slg.silenceLimit = 30 ∧ s.slg.staleLimit = 120 ∧ s.slg.exactLimit = 20 ∧ s.slg.step = 10
    ∧ s.slg.plentyLimit = 100 ∧ s.slg.fastPct = 80 ∧ s.slg.soldoutLifetime = 60 ∧ s.cmp.twelveHour = false ∧ s.ntc.lobbyOpen = false
    ∧ s.blc.rotating = true ∧ s.blc.run = true ∧ s.blc.lastGranted = 3 ∧ s.tif.position = 0 ∧ s.tif.lastOwn = false)
  ∧ (∀ i, s.sch.showings.get i = Showing.empty ∧ s.slg.ledger.get i = Ledger.empty ∧ (s.tst.slots.get i).state = .free)
  ∧ (∀ i, s.slg.holds.get i = none) ∧ (∀ d, (s.slg.desks.get d).state = .closed) ∧ (∀ e, s.ntc.entries.get e = none)
  ∧ (∀ n, (s.blc.channels.get n).state = .idle) ∧ s.tif.fifo = [] ∧ s.tif.slot = .empty ∧ s.tif.events = [] ∧ s.pending = []
  ∧ ∀ p, let x := s.ports.get p
    x.enable = true ∧ x.mode = .waiting ∧ x.mute = true ∧ x.columns = 48 ∧ x.rows = 27 ∧ x.rate = 60 ∧ x.grid0 = [] ∧ x.grid1 = []
      ∧ (s.cmp.panels.get p).build = .clean ∧ (s.cmp.panels.get p).baseLayout = 0 ∧ (s.ntc.panels.get p).view = none
      ∧ (s.ntc.panels.get p).enableMask = 0xFFF#12 ∧ (s.ntc.panels.get p).closedMask = 1#12

/-! ## The clock and the showings -/

/-- SECONDS_PULSE: an unheld clock advances by 1, raising a minute boundary at a multiple of 60, and is held on reaching 129,599; the
pulse reaches every block that counts seconds, held or not (R1, R2, R4, R5). CLOCK_HOLD: the LCK posts one CLOCK_HELD event for a hold
just reached, subject 0, no details, stamped with the clock; no other (R2, log 5). The model's own choices here: log 4, 5, 7. -/
def Obligations.SecondsMoveTheClock : Prop :=
  (∀ s : State, s.inReset = false →
      (s.lck.held = true → exec .secondsPulse s = .next { s with links := s.links.pulsed })
      ∧ (s.lck.held = false → s.lck.clock + 1 ≠ 129599 → exec .secondsPulse s = .next { s with
          lck := { s.lck with clock := s.lck.clock + 1 }
          sch := s.sch.noted (runDue s) (s.lck.clock + 1) 0
          links := { s.links.pulsed with
            minutes := s.links.minutes + if (s.lck.clock + 1) % 60 = 0 then 1 else 0 } })
      ∧ (s.lck.held = false → s.lck.clock + 1 = 129599 → exec .secondsPulse s = .next { s with
          lck := ⟨129599, true, true⟩
          sch := s.sch.noted (runDue s) 129599 0
          links := s.links.pulsed }))
  ∧ (∀ s : State, s.inReset = false →
      (s.lck.holdDue = true → exec .clockHold s = .next { s with
          lck := ⟨s.lck.clock, true, false⟩
          links := s.links.posting .lck [⟨.clockHeld, 0, [], s.lck.clock⟩] })
      ∧ (s.lck.holdDue = false → exec .clockHold s = .next s))

/-- TIME: the value, clamped to 129,599, becomes the clock, held exactly at that top; another minute raises one boundary; a later value
begins a firing run; an earlier one sends a purge for every showing in OPEN or BOARDING, in slot order (R3, R4, R17, R20). The model's
own choices here: log 5, 7. -/
def Obligations.TimeSetsTheClock : Prop :=
  ∀ (v clock : Nat) (rest : List Taken) (s : State), Delivers .lck (.time v) clock rest s →
    let new := min v 129599
    let old := s.lck.clock
    exec .time s = .next { s.withFifo rest with
      lck := if new = 129599 then ⟨new, true, !s.lck.held⟩ else ⟨new, false, false⟩
      sch := if old < new then s.sch.noted (runDue s) new 13 else s.sch
      links := { s.links with
        minutes := s.links.minutes + if new / 60 = old / 60 then 0 else 1
        schTst := s.links.schTst ++ if new < old then (onSaleSlots s).map (mail .sch s) else [] } }

/-- The next entry of a showing (R9, R16): an OPEN or BOARDING showing's is its state threshold unless a countdown entry comes strictly
before it; a begun countdown's minute time lies later than the clock, at most a minute later, whole minutes before the start. -/
def Obligations.NextEntryOfAShowing : Prop :=
  (∀ (c : Sch) (clock : Nat) (sh : Showing),
      (sh.state = .listed → nextDue c clock sh = some (sh.start - c.listLead, .openAt))
      ∧ (sh.state = .running → nextDue c clock sh = some (sh.start + c.lateWindow, .endAt))
      ∧ (sh.state = .ended → nextDue c clock sh = some (max (sh.start + c.lateWindow) (sh.start + sh.runtime * 60), .reapAt))
      ∧ (sh.state = .opened → nextDue c clock sh
          = some (earlier (sh.start - (if sh.boardLead = 0 then c.boardLead else sh.boardLead), .boardAt) (countdownEntry c clock sh)))
      ∧ (sh.state = .boarding → nextDue c clock sh = some (earlier (sh.start, .startAt) (countdownEntry c clock sh)))
      ∧ (sh.state = .empty → nextDue c clock sh = none))
    ∧ (∀ (c : Sch) (clock : Nat) (sh : Showing),
      (clock < sh.start - c.countdownWindow → countdownEntry c clock sh = some (sh.start - c.countdownWindow, .windowAt))
      ∧ (sh.start - c.countdownWindow ≤ clock → clock < sh.start → ∃ m, countdownEntry c clock sh = some (m, .minuteAt)
          ∧ clock < m ∧ m ≤ clock + 60 ∧ m ≤ sh.start ∧ (sh.start - m) % 60 = 0)
      ∧ (sh.start ≤ clock → sh.start - c.countdownWindow ≤ clock → countdownEntry c clock sh = none))
    ∧ ∀ t u : Nat × EntryKind, (u.1 < t.1 → earlier t (some u) = u) ∧ (t.1 ≤ u.1 → earlier t (some u) = t) ∧ earlier t none = t

/-- A roster holds the first `maxLines` of the showings that its filter admits by state and auditorium, each once, in order of start,
then auditorium, then id (R24). -/
def Obligations.RosterIsInOrder : Prop :=
  ∀ (c : Sch) (f : Filter),
    (rosterOf c f).length = min f.maxLines ((fins 96).filter fun i => admits f (c.showings.get i)).length
    ∧ (rosterOf c f).Nodup
    ∧ (rosterOf c f).Pairwise (fun i j => rosterKey c i ≤ rosterKey c j)
    ∧ (∀ i ∈ rosterOf c f, admits f (c.showings.get i) = true)
    ∧ (∀ i ∈ rosterOf c f, ∀ j, admits f (c.showings.get j) = true → j ∉ rosterOf c f → rosterKey c i ≤ rosterKey c j)
    ∧ (∀ i j, let x := c.showings.get i
      let y := c.showings.get j
      x.auditorium.getD 0 < 32 → y.auditorium.getD 0 < 32 → x.id.getD 0 < 65536 → y.id.getD 0 < 65536 →
      (rosterKey c i < rosterKey c j ↔ x.start < y.start ∨ (x.start = y.start
        ∧ (x.auditorium.getD 0 < y.auditorium.getD 0
          ∨ (x.auditorium.getD 0 = y.auditorium.getD 0 ∧ x.id.getD 0 < y.id.getD 0)))))
    ∧ ∀ sh : Showing, admits f sh = true ↔
      ((sh.state = .opened ∧ f.states.getLsbD 0 = true) ∨ (sh.state = .boarding ∧ f.states.getLsbD 1 = true)
        ∨ (sh.state = .running ∧ f.states.getLsbD 2 = true) ∨ (sh.state = .cancelled ∧ f.states.getLsbD 3 = true))
      ∧ ∃ a, sh.auditorium = some a ∧ f.auditoriums.getLsbD a = true

/-- OPEN_AT, BOARD_AT, START_AT, END_AT and REAP_AT: the head of the schedule list, due and of that kind, leaves the list; its showing
changes state; the SLG learns of it, the Tile Store is sent a purge, the NTC the boarding raise or the sale-end that R18 gives; the
rosters are built anew; and the next entry goes into the list (R17, R18, R22, R23, R25). WINDOW_AT and MINUTE_AT change no state: a purge
for the slot goes to the Tile Store and the showing's next entry into the list (R17, R19). A schedule entry that is not due, or an empty
list, fires nothing (R17). The roster changes of several filters go to the CMP in filter order, the model's choice (log 38). The model's
own choices here: log 6, 7, 38. -/
def Obligations.ScheduleFires : Prop :=
  (∀ (e : SchedEntry) (rest : List SchedEntry) (s : State), s.inReset = false → s.sch.list = e :: rest → e.due ≤ s.lck.clock →
      let sh := s.sch.showings.get e.slot
      let cause := causeOf s e.due
      (e.kind = .openAt → sh.state = .listed → exec .openAt s = .next (s.scheduled
          (s.sch.showings.set e.slot { sh with state := .opened })
          (nextList s.sch s.lck.clock e.slot { sh with state := .opened } rest)
          [.stateChange e.slot .opened cause] [e.slot] []))
      ∧ (e.kind = .boardAt → sh.state = .opened → exec .boardAt s = .next (s.scheduled
          (s.sch.showings.set e.slot { sh with state := .boarding })
          (nextList s.sch s.lck.clock e.slot { sh with state := .boarding } rest)
          [.stateChange e.slot .boarding cause] [e.slot] (boardingRaises s e.slot cause)))
      ∧ (e.kind = .startAt → sh.state = .boarding → exec .startAt s = .next (s.scheduled
          (s.sch.showings.set e.slot { sh with state := .running, autoEntry := none })
          (nextList s.sch s.lck.clock e.slot { sh with state := .running } rest)
          [.stateChange e.slot .running cause] [e.slot] [.saleEnd e.slot]))
      ∧ (e.kind = .endAt → sh.state = .running → s.sch.lateWindow < sh.runtime * 60 → exec .endAt s = .next (s.scheduled
          (s.sch.showings.set e.slot { sh with state := .ended })
          (nextList s.sch s.lck.clock e.slot { sh with state := .ended } rest)
          [.stateChange e.slot .ended cause] [e.slot] [.saleEnd e.slot]))
      ∧ (e.kind = .endAt → sh.state = .running → sh.runtime * 60 ≤ s.sch.lateWindow → exec .endAt s = .next (s.scheduled
          (s.sch.showings.set e.slot Showing.empty) (dropEntry e.slot rest)
          [.stateChange e.slot .empty cause] [e.slot] [.saleEnd e.slot]))
      ∧ (e.kind = .reapAt → sh.state = .ended ∨ sh.state = .cancelled → exec .reapAt s = .next (s.scheduled
          (s.sch.showings.set e.slot Showing.empty) (dropEntry e.slot rest)
          [.stateChange e.slot .empty cause] [e.slot] [])))
  ∧ (∀ (e : SchedEntry) (rest : List SchedEntry) (s : State), s.inReset = false → s.sch.list = e :: rest → e.due ≤ s.lck.clock →
      let t : State := { s with
        sch := { s.sch with list := nextList s.sch s.lck.clock e.slot (s.sch.showings.get e.slot) rest }
        links := { s.links with schTst := s.links.schTst ++ [mail .sch s e.slot] } }
      (e.kind = .windowAt → exec .windowAt s = .next t) ∧ (e.kind = .minuteAt → exec .minuteAt s = .next t))
  ∧ (∀ s : State, (∀ e ∈ s.sch.list.head?, s.lck.clock < e.due) →
      ∀ c ∈ [Instr.openAt, .windowAt, .minuteAt, .boardAt, .startAt, .endAt, .reapAt], exec c s = .next s)

/-- LISTING of an EMPTY slot and of the same showing: a new listing writes its fields with state LISTED; an update keeps the state and
auto_entry and sends a purge; both hand the SLG their figures with the recorded clock, build the rosters anew, take the showing's next
entry into the list, and begin a firing run (R10, R11, R12, R17). The roster changes of several filters go to the CMP in filter order,
the model's choice (log 38). The model's own choices here: log 7, 38. -/
def Obligations.ListingIsTaken : Prop :=
  ∀ (f : ListingFields) (clock : Nat) (rest : List Taken) (slot : Fin 96) (new : Showing) (s : State),
    Delivers .sch (.listing f) clock rest s → listingShowing f = some (slot, new) →
    let old := s.sch.showings.get slot
    (old.state = .empty → slotOf s f.id = none → s.lck.clock < f.start + s.sch.lateWindow →
      exec .listing s = .next (((s.withFifo rest).scheduled
        (s.sch.showings.set slot { new with state := .listed })
        (nextList s.sch s.lck.clock slot { new with state := .listed } s.sch.list)
        [.listingTally slot f.capacity f.sold f.blocked clock true] [] []).noting 2))
    ∧ (old.state ≠ .empty → old.state ≠ .ended → old.state ≠ .cancelled → old.id = some f.id →
      exec .listing s = .next (((s.withFifo rest).scheduled
        (s.sch.showings.set slot { new with state := old.state, autoEntry := old.autoEntry })
        (nextList s.sch s.lck.clock slot { new with state := old.state } s.sch.list)
        [.listingTally slot f.capacity f.sold f.blocked clock false] [slot] []).noting 2))

/-- The checks of a LISTING in the order of R10: a field out of its range, a duplicate id, an end already past, another showing in the
slot, a showing that has ended; each refused with its reason, key the id, and nothing else changed. -/
def Obligations.ListingIsChecked : Prop :=
  (∀ f : ListingFields, (listingShowing f).isSome = true ↔ ListingInRange f)
    ∧ (∀ (f : ListingFields) (slot : Fin 96) (new : Showing), listingShowing f = some (slot, new) →
      slot.val = f.slot ∧ new.id = some f.id ∧ new.auditorium = some f.auditorium ∧ new.title.map Fin.val = some f.title
        ∧ new.start = f.start ∧ new.runtime = f.runtime ∧ new.rating.val = f.rating ∧ new.boardLead = f.boardLead
        ∧ new.format.code = f.format ∧ (if new.subtitled then 1 else 0) = f.subtitled
        ∧ (new.boardingClass.map Fin.val).getD 255 = f.boardingClass ∧ (new.soldoutClass.map Fin.val).getD 255 = f.soldoutClass
        ∧ new.noticePanels = BitVec.ofNat 8 f.noticePanels ∧ new.autoEntry = none)
    ∧ ∀ (f : ListingFields) (clock : Nat) (rest : List Taken) (s : State), Delivers .sch (.listing f) clock rest s →
      let refused := fun r => exec .listing s = .next (refuse .sch 2 r f.id (s.withFifo rest))
      (¬ ListingInRange f → refused .badField)
      ∧ ∀ (slot : Fin 96) (new : Showing), listingShowing f = some (slot, new) →
        let old := s.sch.showings.get slot
        (old.state = .empty → slotOf s f.id ≠ none → refused .duplicateId)
        ∧ (old.state = .empty → slotOf s f.id = none → f.start + s.sch.lateWindow ≤ s.lck.clock → refused .tooLate)
        ∧ (old.state ≠ .empty → old.id ≠ some f.id → refused .slotBusy)
        ∧ (old.state = .ended ∨ old.state = .cancelled → old.id = some f.id → refused .tooLate)

/-- CANCEL and REMOVE (R13, R14, R17): the refusals, the cancel of a showing already CANCELLED, and what becomes of one in LISTED to
RUNNING, or in any state for REMOVE. The roster changes of several filters go to the CMP in filter order, the model's choice (log 38).
The model's own choices here: log 7, 38. -/
def Obligations.CancelAndRemove : Prop :=
  ∀ (id clock : Nat) (rest : List Taken) (s : State),
    (Delivers .sch (.cancel id) clock rest s →
      (slotOf s id = none → exec .cancel s = .next (refuse .sch 3 .unknownShowing id (s.withFifo rest)))
      ∧ ∀ slot, slotOf s id = some slot →
        let sh := s.sch.showings.get slot
        (sh.state = .ended → exec .cancel s = .next (refuse .sch 3 .tooLate id (s.withFifo rest)))
        ∧ (sh.state = .cancelled → exec .cancel s = .next (s.withFifo rest))
        ∧ (sh.state = .listed ∨ sh.state = .opened ∨ sh.state = .boarding ∨ sh.state = .running →
          exec .cancel s = .next (((s.withFifo rest).scheduled
            (s.sch.showings.set slot { sh with state := .cancelled, autoEntry := none })
            (insertEntry ⟨slot, max (sh.start + s.sch.lateWindow) s.lck.clock, .reapAt⟩ (dropEntry slot s.sch.list))
            [.stateChange slot .cancelled 3] [slot] [.saleEnd slot]).noting 3)))
    ∧ (Delivers .sch (.remove id) clock rest s →
      (slotOf s id = none → exec .remove s = .next (refuse .sch 4 .unknownShowing id (s.withFifo rest)))
      ∧ ∀ slot, slotOf s id = some slot →
        let sh := s.sch.showings.get slot
        exec .remove s = .next (((s.withFifo rest).scheduled
          (s.sch.showings.set slot Showing.empty) (dropEntry slot s.sch.list)
          [.stateChange slot .empty 4] [slot]
          (if sh.state = .ended ∨ sh.state = .cancelled then [] else [.saleEnd slot])).noting 4))

/-! ## Seat figures and the ledger -/

/-- Seats used U = B + S + P + H, at most 3,957; seats left L = C - U where U < C and 0 otherwise, at most C - B and at most 999 (R54);
fill F = floor(100 U ÷ C), at most 100 (R55). The LEDGER reply carries C, S, B, P, H, A and the stamp, and behind them nothing but the
three conditions and the figure key: neither U nor L (R54). -/
def Obligations.SeatsUsedLeftAndFill : Prop :=
  (∀ l : Ledger,
    let U := l.B + l.S + l.P + l.H
    seatsUsed l = U
      ∧ (U < l.C → (seatsLeft l : Int) = l.C - U) ∧ (l.C ≤ U → seatsLeft l = 0)
      ∧ seatsLeft l ≤ l.C - l.B
      ∧ (l.B ≤ 999 → l.S ≤ 999 → l.P ≤ 999 → l.H ≤ 960 → U ≤ 3957)
      ∧ (l.C ≤ 999 → seatsLeft l ≤ 999)
      ∧ (0 < l.C → seatFill l = if l.C ≤ U then 100 else 100 * U / l.C))
  ∧ ∃ tail : Bool → Bool → Bool → FigureKey → List Byte,
    ∀ (s : State) (slot : Fin 96) (k : FigureKey), awaitsTally s slot = false → (s.slg.ledger.get slot).key = some k →
      let l := s.slg.ledger.get slot
      answerLedger s slot = .values (put2 l.C ++ put2 l.S ++ put2 l.B ++ put2 l.P ++ put2 l.H ++ put2 l.A ++ put3 l.stamp
        ++ tail l.stale l.oversold l.soldout k)

/-- The figure case and shown number are those of the first condition that holds, and the badge shows exactly under its four conditions
(R56, R57, R58). The texts that are read at the moment of formatting: numbers, time texts and field texts (R61, R62, R63); the 64 cells
of a line, its fields written one over the other (R64, R65); the lines of a notice, and the empty text of a line that its entry does not
have any more, the model's choice (R68, log 40); and the formatted lines of TEXT, NOTICE, DESK and CLOCK jobs (R132). SEATS and BADGE are
those of the stored key, or of the record where there is no key yet, the latter the model's choice (R63, log 41). The model's own choices
here: log 40, 41. -/
def Obligations.FigureCases : Prop :=
  (∀ (f : FigureSettings) (st : ShowState) (l : Ledger),
    let L := seatsLeft l
    let q := L / f.step * f.step
    (st = .running ∨ st = .cancelled → figureOf f st l = (.stateShown, 0))
    ∧ (st ≠ .running → st ≠ .cancelled →
      (l.stale = true → figureOf f st l = (.askAtDesk, 0))
      ∧ (l.stale = false → L = 0 → figureOf f st l = if l.H = 0 then (.soldOut, 0) else (.fullCheckBack, 0))
      ∧ (l.stale = false → 0 < L → f.plentyLimit ≤ L → figureOf f st l = (.goodAvailability, 0))
      ∧ (l.stale = false → 0 < L → L < f.plentyLimit → (L ≤ f.exactLimit ∨ q = 0) → figureOf f st l = (.exact, L))
      ∧ (l.stale = false → L < f.plentyLimit → f.exactLimit < L → 0 < q → figureOf f st l = (.rounded, q)))
    ∧ figureKey f st l = ⟨(figureOf f st l).1, (figureOf f st l).2, badgeOf f st l⟩
    ∧ (badgeOf f st l = true
        ↔ f.fastPct ≤ seatFill l ∧ 0 < L ∧ l.stale = false ∧ (st = .opened ∨ st = .boarding)))
  ∧ ((∀ n, (n < 10 → digits n = [48 + n]) ∧ (10 ≤ n → digits n = digits (n / 10) ++ [48 + n % 10])
        ∧ (n < 100 → twoDigits n = [48 + n / 10, 48 + n % 10]))
      ∧ ∀ (s : State) (t : Nat),
        let h := t / 3600 % 24
        let m := t % 3600 / 60
        timeText s false t = twoDigits h ++ [58] ++ twoDigits m
        ∧ timeText s true t = digits (if h % 12 = 0 then 12 else h % 12) ++ [58] ++ twoDigits m
          ++ s.cmp.phrases.get (if h < 12 then 29 else 30))
  ∧ (∀ (s : State) (slot : Fin 96),
      let sh := s.sch.showings.get slot
      let said := fun i => s.cmp.phrases.get i
      let left := sh.start - s.lck.clock
      let counts := (sh.state = .opened ∨ sh.state = .boarding) ∧ s.lck.clock < sh.start ∧ left ≤ s.sch.countdownWindow
      let l := s.slg.ledger.get slot
      let k := l.key.getD (figureKey (figureSettings s.slg) sh.state l)
      (sh.state = .empty → ∀ k, fieldText s slot k = [])
      ∧ (sh.state ≠ .empty →
        (counts → fieldText s slot .time = said 27 ++ digits ((left + 59) / 60) ++ said 28)
        ∧ (sh.state = .running → fieldText s slot .time = said 32)
        ∧ (sh.state = .cancelled → fieldText s slot .time = said 33)
        ∧ (¬ counts → sh.state ≠ .running → sh.state ≠ .cancelled → fieldText s slot .time = timeText s s.cmp.twelveHour sh.start)
        ∧ (∀ i, sh.title = some i → fieldText s slot .titleLong = (s.sch.titles.get i).long
          ∧ fieldText s slot .titleShort = (s.sch.titles.get i).short)
        ∧ (∀ n, sh.auditorium = some n → fieldText s slot .auditorium = said 36 ++ digits n)
        ∧ fieldText s slot .format
          = (match sh.format with | .twoD => said 16 | .threeD => said 17 | .large => said 18 | .large3D => said 19)
        ∧ (∀ q : Fin 48, q.val = sh.rating.val → fieldText s slot .rating = said q)
        ∧ fieldText s slot .subtitle = (if sh.subtitled then said 20 else [])
        ∧ fieldText s slot .seats = (match k.figure with
          | .stateShown => [] | .askAtDesk => said 25 | .soldOut => said 22 | .fullCheckBack => said 23 | .goodAvailability => said 24
          | .exact => digits k.shown | .rounded => digits k.shown ++ said 21)
        ∧ fieldText s slot .badge
          = (if k.badge then said 26 else [])
        ∧ fieldText s slot .state
          = (match sh.state with | .boarding => said 31 | .running => said 32 | .cancelled => said 33 | _ => [])))
  ∧ (∀ (s : State) (slot : Fin 96) (ink paper : Nat) (fields : List StyleField) (f : StyleField),
      let line := fun l => formatLine s slot ⟨ink, paper, l⟩
      let cut := (fieldText s slot f.kind).take f.width
      let pad := List.replicate (f.width - cut.length) 32
      let right := f.alignment = .right ∨ (f.alignment = .natural ∧ (f.kind = .seats ∨ f.kind = .auditorium))
      line [] = List.replicate 64 ⟨32, ink, paper, false, false, false⟩
      ∧ (line (fields ++ [f])).length = 64
      ∧ ∀ i < 64, (line (fields ++ [f]))[i]? = if f.start ≤ i ∧ i < f.start + f.width
        then ((if right then pad ++ cut else cut ++ pad)[i - f.start]?).map fun g => ⟨g, f.ink, f.paper, false, f.blink, f.underline⟩
        else (line fields)[i]?)
  ∧ (∀ (s : State) (e : Fin 24),
      (s.ntc.entries.get e = none → lineCount s e = 0 ∧ ∀ k, noticeLine s e k = [])
      ∧ ∀ n, s.ntc.entries.get e = some n →
        (∀ l, n.content = .lines l → lineCount s e = l.length
          ∧ ∀ k, (∀ text, l[k]? = some text → noticeLine s e (k + 1) = text) ∧ (l[k]? = none → noticeLine s e (k + 1) = []))
        ∧ (n.content = .template none → lineCount s e = 0 ∧ ∀ k, noticeLine s e k = [])
        ∧ ∀ i, n.content = .template (some i) →
          let l := s.cmp.templates.get i
          lineCount s e = l.length
          ∧ ∀ k, (∀ items, l[k]? = some items → noticeLine s e (k + 1) = ((items.map fun x => match x with
              | .phrase p => s.cmp.phrases.get p
              | .field kind => (n.linked.map fun slot => fieldText s slot kind).getD []).flatten).take 64)
            ∧ (l[k]? = none → noticeLine s e (k + 1) = []))
  ∧ ∀ (s : State) (count ink paper : Nat),
      let cells := fun (text : List Nat) => some ((text.take count ++ List.replicate (count - (text.take count).length) 32).map fun g =>
        (⟨g, ink, paper, false, false, false⟩ : Cell))
      let opened := (fins 16).filter fun d => decide ((s.slg.desks.get d).state = .opened)
      (∀ p, sourceLine s count (.text p ink paper) = cells (s.cmp.phrases.get p))
      ∧ (∀ e k, sourceLine s count (.notice e k ink paper) = cells (noticeLine s e k))
      ∧ sourceLine s count (.desk ink paper) = cells (s.cmp.phrases.get 35 ++ (opened.map fun d => 32 :: digits d.val).flatten)
      ∧ (∀ form, sourceLine s count (.clock form ink paper)
        = cells (s.cmp.phrases.get 37 ++ timeText s (form == .h12 || (form == .follow && s.cmp.twelveHour)) s.lck.clock))
      ∧ (∀ c, sourceLine s count (.fill c) = none) ∧ (∀ r, sourceLine s count (.tile r) = none) ∧ sourceLine s count .copy = none

/-- A recomputation of a figure key stores it; one that differs is purged and may request a sold-out notice; and the soldout field is
cleared where seats are left (R35, R36). Holds are dropped together: their entries are FREE, and their seats and their number are taken
from their showings and desks, in whatever order the entries stand (R41, R43, R44). The showing id that the SLG gives in an event is that
of the showing in the slot (R31, R32); for a slot that has none any more it is a free value, the model's choice (log 31). The model's own
choices here: log 31. -/
def Obligations.KeysAndDroppedHolds : Prop :=
  (∀ (st : ShowState) (slot : Fin 96) (cause : Nat) (s : State), recomputeAs st slot cause s = s.refigured st slot cause)
  ∧ (∀ (p : Hold → Bool) (s : State), dropHolds p s = s.dropped p)
  ∧ (∀ (slot : Fin 96) (id : Nat) (s : State), (s.sch.showings.get slot).id = some id → showingId s slot = id)

/-- TALLY (R29, R30, R31): the figures, clamped to 999, replace S and B; P and A become 0; the stamp is the packet's recorded clock; the
oversold condition is evaluated and the figure key recomputed; or the packet is refused. The model's own choices here: log 30. -/
def Obligations.TallyIsTaken : Prop :=
  ∀ (id sold blocked clock : Nat) (rest : List Taken) (s : State), Delivers .slg (.tally id sold blocked) clock rest s →
    (ledgerSlot s id = none → exec .tally s = .next (refuse .slg 5 .unknownShowing id (s.withFifo rest)))
    ∧ ∀ slot, ledgerSlot s id = some slot →
      let st := (s.sch.showings.get slot).state
      (st = .ended ∨ st = .cancelled → exec .tally s = .next (refuse .slg 5 .notOnSale id (s.withFifo rest)))
      ∧ (st = .listed ∨ st = .opened ∨ st = .boarding ∨ st = .running →
        exec .tally s = .next (((s.withFifo rest).tallied slot fun l =>
          { l with S := min sold 999, B := min blocked 999, P := 0, A := 0, stamp := clock, stale := false }).refigured
            st slot 5))

/-- LISTING_TALLY (R28): a new listing's record begins anew, and its key is stored without comparing; an update takes the capacity and is
tallied as R30 gives. STATE_CHANGE (R34, R44): OPEN, BOARDING and RUNNING keep the holds; ENDED and CANCELLED drop them; both recompute
the key under the new state. EMPTY drops the holds and empties the record. The model's own choices here: log 30, 31. -/
def Obligations.ScheduleReachesTheLedger : Prop :=
  (∀ (ep capacity sold blocked stamp : Nat) (slot : Fin 96) (fresh : Bool) (rest : List (Mail ToSlg)) (s : State),
      s.inReset = false → s.slg.stage = .idle →
      s.links.schSlg = ⟨ep, .listingTally slot capacity sold blocked stamp fresh⟩ :: rest → s.taken.get (blockIx .slg) ≤ ep →
      let s' : State := { s with links := { s.links with schSlg := rest } }
      (fresh = true →
        let t := s'.tallied slot fun l =>
          { l with
            C := capacity, S := min sold 999, B := min blocked 999, P := 0, H := 0, A := 0, stamp := stamp
            stale := false, oversold := false, soldout := false, key := none }
        exec .listingTally s = .next { t with slg := { t.slg with ledger := t.slg.ledger.modify slot fun l =>
          { l with key := some (figureKey (figureSettings s.slg) .listed l) } } })
      ∧ (fresh = false →
        let t := s'.tallied slot fun l =>
          { l with
            C := capacity, S := min sold 999, B := min blocked 999, P := 0, A := 0, stamp := stamp, stale := false }
        exec .listingTally s
          = .next (if inLedger t slot then t.refigured (s.sch.showings.get slot).state slot 2 else t)))
  ∧ (∀ (ep cause : Nat) (slot : Fin 96) (st : ShowState) (rest : List (Mail ToSlg)) (s : State),
      s.inReset = false → s.slg.stage = .idle → s.links.schSlg = ⟨ep, .stateChange slot st cause⟩ :: rest →
      s.taken.get (blockIx .slg) ≤ ep →
      let s' : State := { s with links := { s.links with schSlg := rest } }
      let d := s'.dropped fun h => h.slot == slot
      (st = .opened ∨ st = .boarding ∨ st = .running → exec .stateChange s = .next (s'.refigured st slot cause))
      ∧ (st = .ended ∨ st = .cancelled → exec .stateChange s = .next (d.refigured st slot cause))
      ∧ (st = .empty → exec .stateChange s
          = .next { d with slg := { d.slg with ledger := d.slg.ledger.set slot Ledger.empty } }))

/-- HOLD (R38, R39, R47): the checks in order; then a new hold takes a FREE entry, its desk is in contact, its seats are held and the key
is recomputed. A HOLD whose desk and tag name a LIVE entry amends it (R40): the seats leave the old showing and join the new one, the
period starts anew, the desk owns as many holds as before, and the keys are recomputed, the old showing's first. The model's own choices
here: log 22, 30. -/
def Obligations.HoldIsTaken : Prop :=
  (∀ (dk tag id seats period clock : Nat) (rest : List Taken) (s : State), Delivers .slg (.hold dk tag id seats period) clock rest s →
      let s' := s.withFifo rest
      let refused := fun r key => exec .hold s = .next (refuse .slg 6 r key s')
      (16 ≤ dk → refused .badField dk)
      ∧ ∀ d : Fin 16, d.val = dk →
        ((s.slg.desks.get d).state ≠ .opened → refused .deskNotOpen dk)
        ∧ ((s.slg.desks.get d).state = .opened →
          (ledgerSlot s id = none → refused .unknownShowing id)
          ∧ ∀ slot, ledgerSlot s id = some slot →
            let st := (s.sch.showings.get slot).state
            (st = .ended ∨ st = .cancelled → refused .notOnSale id)
            ∧ (st = .listed ∨ st = .opened ∨ st = .boarding ∨ st = .running →
              (seats = 0 ∨ 15 < seats → refused .badField dk)
              ∧ (1 ≤ seats → seats ≤ 15 → findHold s.slg d tag = none →
                (freeHold s.slg = none → refused .holdTableFull dk)
                ∧ ∀ i, freeHold s.slg = some i →
                  exec .hold s = .next ({ s' with slg := { s.slg with
                    holds := s.slg.holds.set i (some ⟨d, tag, slot, seats,
                      if period = 0 then s.slg.holdPeriod else clamp 30 1800 period⟩)
                    ledger := s.slg.ledger.modify slot fun l => { l with H := l.H + seats }
                    desks := s.slg.desks.modify d fun k => { contactDesk k with owned := k.owned + 1 } } }.refigured st slot 6)))))
  ∧ (∀ (d : Fin 16) (tag id seats period clock : Nat) (rest : List Taken) (slot : Fin 96) (i : Fin 64) (old : Hold) (s : State),
      Delivers .slg (.hold d.val tag id seats period) clock rest s → (s.slg.desks.get d).state = .opened →
      ledgerSlot s id = some slot → onSale (s.sch.showings.get slot).state = true → 1 ≤ seats → seats ≤ 15 →
      findHold s.slg d tag = some i → s.slg.holds.get i = some old →
      let t : State := { s.withFifo rest with slg := { s.slg with
        holds := s.slg.holds.set i (some ⟨d, tag, slot, seats, if period = 0 then s.slg.holdPeriod else clamp 30 1800 period⟩)
        ledger := (s.slg.ledger.modify old.slot fun l => { l with H := l.H - old.seats }).modify slot fun l =>
          { l with H := l.H + seats }
        desks := s.slg.desks.modify d contactDesk } }
      exec .hold s = .next (t.refiguredEach (if old.slot = slot then [slot] else [old.slot, slot]) 6))

/-- RELEASE (R41, R42, R47): the checks in order; the entry of the key is freed, its seats converted where the packet says so, and the
oversold condition evaluated (R31); without an entry the release is late: the packet's seats are converted, the oversold field is brought
up to date, and no event is posted, the model's choice (log 39). The model's own choices here: log 30, 31, 39. -/
def Obligations.ReleaseIsTaken : Prop :=
  ∀ (dk tag id seats convert clock : Nat) (rest : List Taken) (s : State),
    Delivers .slg (.release dk tag id seats convert) clock rest s →
    let s' := s.withFifo rest
    (16 ≤ dk ∨ seats = 0 ∨ 15 < seats ∨ 1 < convert → exec .release s = .next (refuse .slg 7 .badField dk s'))
    ∧ ∀ d : Fin 16, d.val = dk → 1 ≤ seats → seats ≤ 15 → convert ≤ 1 →
      ((s.slg.desks.get d).state ≠ .opened → exec .release s = .next (refuse .slg 7 .deskNotOpen dk s'))
      ∧ ((s.slg.desks.get d).state = .opened →
        (∀ i h, findHold s.slg d tag = some i → s.slg.holds.get i = some h →
          let t : State := { s' with slg := { s.slg with
            holds := s.slg.holds.set i none
            ledger := s.slg.ledger.modify h.slot fun l => { l with H := l.H - h.seats }
            desks := s.slg.desks.modify d fun k => { contactDesk k with owned := k.owned - 1 } } }
          exec .release s = .next
            ((if convert = 1 then t.tallied h.slot fun l => { l with P := min 999 (l.P + h.seats) } else t).refiguredEach
              [h.slot] 7))
        ∧ (findHold s.slg d tag = none →
          let t : State := { s' with slg := { s.slg with desks := s.slg.desks.modify d fun k =>
            { contactDesk k with lateReleases := min 255 (k.lateReleases + 1) } } }
          (convert = 0 → exec .release s = .next t)
          ∧ (convert = 1 → ledgerSlot s id = none → exec .release s = .next t)
          ∧ ∀ slot, ledgerSlot s id = some slot →
            let st := (s.sch.showings.get slot).state
            (convert = 1 → st = .ended ∨ st = .cancelled → exec .release s = .next t)
            ∧ (convert = 1 → st = .listed ∨ st = .opened ∨ st = .boarding ∨ st = .running →
              exec .release s = .next
                ((t.recorded slot fun l => { l with P := min 999 (l.P + seats) }).refigured st slot 7))))

/-- HOLD_EXPIRY, the first step of a pulse at the SLG: a hold in its last second is dropped and its showing marked for the recomputation;
every other has one second less (R43, R50). TALLY_STALE, the second step: the tally age of every showing in LISTED to RUNNING counts to
4,095 at most, and one whose age has reached the limit becomes stale, with its STALE event, in slot order (R32, R50). DESK_SILENCE, the
third and fourth steps: the gap of every OPEN desk counts to 255 at most; one at the limit falls silent, its last gap frozen, its holds
dropped, with its DESK_SILENT event and a desk change, in desk order; then the marked showings are recomputed once, in slot order (R49,
R50). The model's own choices here: log 4. -/
def Obligations.SecondsReachTheLedger : Prop :=
  (∀ s : State, s.inReset = false → s.slg.stage = .idle → 0 < s.links.pulseSlg →
      let t := s.dropped fun h => decide (h.remaining ≤ 1)
      exec .holdExpiry s = .next { t with
        slg := { t.slg with
          holds := t.slg.holds.map fun o => o.map fun h => { h with remaining := h.remaining - 1 }
          touched := Tab.make 96 fun i =>
            s.slg.touched.get i || !(holdsWith (fun h => decide (h.remaining ≤ 1) && h.slot == i) s.slg).isEmpty
          stage := .ages }
        links := { s.links with pulseSlg := s.links.pulseSlg - 1 } })
  ∧ (∀ s : State, s.inReset = false → s.slg.stage = .ages →
      let counted := fun i => onSale (s.sch.showings.get i).state && inLedger s i
      let age := fun i => min 4095 ((s.slg.ledger.get i).A + 1)
      let due := fun i => counted i && !(s.slg.ledger.get i).stale && decide (s.slg.staleLimit ≤ age i)
      exec .tallyStale s = .next { s with
        slg := { s.slg with
          ledger := Tab.make 96 fun i =>
            { s.slg.ledger.get i with
              A := if counted i then age i else (s.slg.ledger.get i).A
              stale := (s.slg.ledger.get i).stale || due i }
          touched := Tab.make 96 fun i => s.slg.touched.get i || due i
          stage := .desks }
        links := s.links.posting .slg (((fins 96).filter due).map fun i =>
          ⟨.stale, i.val, [showingId s i, age i], s.lck.clock⟩) })
  ∧ (∀ s : State, s.inReset = false → s.slg.stage = .desks →
      let gap := fun d => min 255 ((s.slg.desks.get d).gap + 1)
      let silent := fun d => (s.slg.desks.get d).state == .opened && decide (s.slg.silenceLimit ≤ gap d)
      let lost := fun i => !(holdsWith (fun h => silent h.desk && h.slot == i) s.slg).isEmpty
      let t := s.dropped fun h => silent h.desk
      let u : State := { t with
        slg := { t.slg with
          desks := Tab.make 16 fun d =>
            if silent d then { t.slg.desks.get d with state := .silent, gap := gap d, lastGap := gap d }
            else if (s.slg.desks.get d).state = .opened then { t.slg.desks.get d with gap := gap d } else t.slg.desks.get d
          touched := Tab.make 96 fun i => s.slg.touched.get i || lost i }
        links := { s.links.posting .slg (((fins 16).filter silent).map fun d =>
            ⟨.deskSilent, d.val, [gap d, (holdsWith (fun h => h.desk == d) s.slg).length], s.lck.clock⟩) with
          slgCmp := s.links.slgCmp ++ ((fins 16).filter silent).map fun _ => mail .slg s () } }
      let v := u.refiguredEach ((fins 96).filter fun i => s.slg.touched.get i || lost i) 0
      exec .deskSilence s = .next { v with slg := { v.slg with stage := .idle, touched := Tab.fill 96 false } })

/-- DESK_OPEN, DESK_CLOSE, DESK_BEAT and a bad operation, by the state of the desk (R45, R46, R47, R48). A contact of an OPEN desk: the
gap, if measured, becomes the last gap, and the measure begins anew; a BEAT, a HOLD or a RELEASE from another desk is refused and is no
contact (R47). -/
def Obligations.DeskOperations : Prop :=
  (∀ (dk op clock : Nat) (rest : List Taken) (s : State), Delivers .slg (.desk dk op) clock rest s →
      let s' := s.withFifo rest
      let told : Links := { s.links with slgCmp := s.links.slgCmp ++ [mail .slg s ()] }
      (op ≠ 1 → op ≠ 2 → op ≠ 3 → exec .deskBadOperation s = .next (refuse .slg 8 .badField dk s'))
      ∧ (16 ≤ dk →
        (op = 1 → exec .deskOpen s = .next (refuse .slg 8 .badField dk s'))
        ∧ (op = 2 → exec .deskClose s = .next (refuse .slg 8 .badField dk s'))
        ∧ (op = 3 → exec .deskBeat s = .next (refuse .slg 8 .badField dk s')))
      ∧ ∀ d : Fin 16, d.val = dk →
        let k := s.slg.desks.get d
        (op = 1 → k.state = .opened → exec .deskOpen s = .next s')
        ∧ (op = 1 → k.state ≠ .opened → exec .deskOpen s = .next { s' with
            slg := { s.slg with
              desks := s.slg.desks.set d { k with state := .opened, gap := 0, lastGap := 0, measuring := false } }
            links := told })
        ∧ (op = 2 → k.state = .closed → exec .deskClose s = .next s')
        ∧ (op = 2 → k.state = .silent → exec .deskClose s = .next { s' with
            slg := { s.slg with desks := s.slg.desks.set d { k with state := .closed, measuring := false } }
            links := told })
        ∧ (op = 2 → k.state = .opened →
          let t := s'.dropped fun h => h.desk == d
          let u : State := { t with slg := { t.slg with
            desks := t.slg.desks.modify d fun k => { k with state := .closed, measuring := false } } }
          let v := u.refiguredEach (slotsOfHolds (fun h => h.desk == d) s.slg) 8
          exec .deskClose s = .next { v with links := { v.links with slgCmp := s.links.slgCmp ++ [mail .slg s ()] } })
        ∧ (op = 3 → k.state = .opened → exec .deskBeat s
            = .next { s' with slg := { s.slg with desks := s.slg.desks.set d (contactDesk k) } })
        ∧ (op = 3 → k.state ≠ .opened → exec .deskBeat s = .next (refuse .slg 8 .deskNotOpen dk s')))
  ∧ (∀ k : Desk, contactDesk k = { k with lastGap := if k.measuring then k.gap else k.lastGap, gap := 0, measuring := true })
  ∧ (∀ (d : Fin 16) (tag id seats clock : Nat) (rest : List Taken) (s : State), (s.slg.desks.get d).state ≠ .opened →
      (∀ period, Delivers .slg (.hold d.val tag id seats period) clock rest s →
        exec .hold s = .next (refuse .slg 6 .deskNotOpen d.val (s.withFifo rest)))
      ∧ ∀ convert, Delivers .slg (.release d.val tag id seats convert) clock rest s → 1 ≤ seats → seats ≤ 15 → convert ≤ 1 →
        exec .release s = .next (refuse .slg 7 .deskNotOpen d.val (s.withFifo rest)))

/-! ## Notices -/

/-- RAISE (R76, R77, R78, R79): the checks in order; a new raise joins the raise sequence and the pending lists of its panels, and takes
are evaluated there; a re-raise of the same class and panels replaces the notice where it stands and tells the CMP where it is shown. A
re-raise on one panel: in both sets the entry stays where it stands, or moves to the place of its new class, and is told of where it is
shown; in the new set only it becomes pending; in the old set only it is retired; in neither, nothing happens (R78, R79). -/
def Obligations.RaiseIsTaken : Prop :=
  (∀ (f : RaiseFields) (clock : Nat) (rest : List Taken) (s : State), Delivers .ntc (.raise f) clock rest s →
      let s' := s.withFifo rest
      let ok := f.entry ≤ 17 ∧ f.cls < 12 ∧ 0 < f.panels ∧ f.panels < 256 ∧ 1 ≤ f.lines.length ∧ f.lines.length ≤ 3
        ∧ ∀ l ∈ f.lines, 1 ≤ l.length ∧ l.length ≤ 64 ∧ ∀ g ∈ l, g ≤ 1023
      (¬ ok → exec .raise s = .next (refuse .ntc 9 .badField f.entry s'))
      ∧ (ok → ∀ (e : Fin 24) (c : Fin 12), e.val = f.entry → c.val = f.cls →
        let n : Notice := ⟨c, none, BitVec.ofNat 8 f.panels, if f.lifetime = 0 then 0 else clamp 5 3600 f.lifetime, none, .lines f.lines⟩
        (s.ntc.entries.get e = none →
          let t : State := { s' with ntc := { s.ntc with
            entries := s.ntc.entries.set e (some n), sequence := s.ntc.sequence ++ [e] } }
          exec .raise s = .next (evalSet n.panels (t.pended e n.panels)))
        ∧ ∀ old, s.ntc.entries.get e = some old →
          (old.cls ≠ c → (∃ p, some e ∈ shownViews (s.ntc.panels.get p)) →
            exec .raise s = .next (refuse .ntc 9 .classChange f.entry s'))
          ∧ (old.cls = c ∨ (∀ p, some e ∉ shownViews (s.ntc.panels.get p)) →
            exec .raise s = .next (evalSet (old.panels ||| n.panels)
              ((fins 8).foldl (fun s p => rePanel e old.panels n.panels (decide (old.cls ≠ c)) p s)
                { s' with ntc := { s.ntc with entries := s.ntc.entries.set e (some n) } })))))
  ∧ (∀ (e : Fin 24) (old new : BitVec 8) (moved : Bool) (p : Fin 8) (s : State),
      let x := ntcPanel s p
      let had := old.getLsbD p.val
      let has := new.getLsbD p.val
      let act := rePanel e old new moved p s
      (had = true → has = true → moved = false → act = { s with links := { s.links with
          ntcCmp := s.links.ntcCmp ++ if x.view = some e then [mail .ntc s (.content p)] else [] } })
      ∧ (had = true → has = true → moved = true → x.view ≠ some e → act = { s with ntc := { s.ntc with
          panels := s.ntc.panels.set p { x with waiting :=
            if ⟨e, false⟩ ∈ x.waiting then insertWaiting s.ntc e (x.waiting.filter fun w => w.entry != e) else x.waiting } } })
      ∧ (had = false → has = true → act = { s with ntc := { s.ntc with
          panels := s.ntc.panels.set p { x with waiting := insertWaiting s.ntc e x.waiting } } })
      ∧ (had = true → has = false → act = retireFrom e p s)
      ∧ (had = false → has = false → act = s))

/-- AUTO_RAISE, from either sender: the lowest FREE entry of 18 to 23 becomes LIVE with the request's fields, is pending on its panels,
is reported to the SCH for a boarding raise, and takes are evaluated; with none FREE the raise is refused (R22, R80). RAISE_REPORT,
AUTO_FREE_REPORT and FILTER_LOAD_REPORT at the SCH (R22, R25, R104). The model's own choices here: log 31. -/
def Obligations.AutoRaiseIsTaken : Prop :=
  (∀ (sender : RaiseSender) (ep : Nat) (r : AutoRaise) (s s' : State), s.inReset = false → s.taken.get (blockIx .ntc) ≤ ep →
      (match sender with
        | .sch => ∃ rest, s.links.schNtc = ⟨ep, .autoRaise r⟩ :: rest ∧ s' = { s with links := { s.links with schNtc := rest } }
        | .slg => ∃ rest, s.links.slgNtc = ⟨ep, r⟩ :: rest ∧ s' = { s with links := { s.links with slgNtc := rest } }) →
      let told := fun (t : State) (e : Option (Fin 24)) => ({ t with links := { t.links with
        ntcSch := t.links.ntcSch ++ if r.boarding then [mail .ntc s (.raiseReport r.slot r.id e)] else [] } } : State)
      (∀ e : Fin 24, 18 ≤ e.val → s.ntc.entries.get e = none →
          (∀ f : Fin 24, 18 ≤ f.val → f < e → (s.ntc.entries.get f).isSome = true) →
        let t : State := { s' with ntc := { s.ntc with
          entries := s.ntc.entries.set e (some ⟨r.cls, some r.slot, r.panels, r.lifetime, some r.slot, .template r.template⟩)
          sequence := s.ntc.sequence ++ [e] } }
        exec (.autoRaise sender) s = .next (evalSet r.panels (told (t.pended e r.panels) (some e))))
      ∧ ((∀ f : Fin 24, 18 ≤ f.val → (s.ntc.entries.get f).isSome = true) →
        exec (.autoRaise sender) s = .next (told (refuse .ntc r.cause .autoPoolFull (r.id.getD 0) s') none)))
  ∧ (∀ s : State, s.inReset = false →
      (∀ ep slot id entry rest, s.links.ntcSch = ⟨ep, .raiseReport slot id entry⟩ :: rest → s.taken.get (blockIx .sch) ≤ ep →
        let sh := s.sch.showings.get slot
        exec .raiseReport s = .next { s with
          sch := { s.sch with
            showings := s.sch.showings.set slot (if sh.state = .boarding ∧ sh.id = id then { sh with autoEntry := entry } else sh) }
          links := { s.links with ntcSch := rest } })
      ∧ (∀ ep entry slot rest, s.links.ntcSch = ⟨ep, .autoFree entry slot⟩ :: rest → s.taken.get (blockIx .sch) ≤ ep →
        let sh := s.sch.showings.get slot
        exec .autoFreeReport s = .next { s with
          sch := { s.sch with
            showings := s.sch.showings.set slot (if sh.autoEntry = some entry then { sh with autoEntry := none } else sh) }
          links := { s.links with ntcSch := rest } })
      ∧ ∀ f rest, s.links.cmpSch = f :: rest →
        let roster := rosterOf s.sch (s.cmp.filters.get f)
        exec .filterLoadReport s = .next { s with
          sch := { s.sch with rosters := s.sch.rosters.set f roster }
          links := { s.links with
            cmpSch := rest
            schCmp := s.links.schCmp ++ if roster = s.sch.rosters.get f then [] else [mail .sch s f] } })

/-- WITHDRAW, SALE_END and NOTICE_EXPIRY: the entries named, linked or expired become FREE, leave the raise sequence, and are told of to
the Blit Channels and, the auto ones, to the SCH; no panel of theirs holds them any more; the panels that were not theirs are as before
(R71, R80, R81, R91, R95, R96, R132). They are retired one after the other, each from the panels of its set in panel order, and then
takes are evaluated on all of those panels, in panel order; the view changes owed are those of these retirements. Retiring an entry from
a panel: the current view pops the top context, whose cursors come back only if its layout is the one the view would use now, the base
layout for BASE and the map's layout of the entry's class for an entry; a stacked view is spliced out, and a pending one leaves the list,
with no view change (R92, R93, R94). The model's own choices here: log 10. -/
def Obligations.EntriesAreRetired : Prop :=
  (
    let gone := fun (s t : State) (l : List (Fin 24)) (res : Result) =>
      let u := l.foldl (fun u e => retireAll e u) t
      let panels := u.ntc.panels
      res = .next (evalSet (l.foldl (fun m e => m ||| entryPanels s e) 0#8) u)
      ∧ u = t.retired l panels (u.links.ntcCmp.drop t.links.ntcCmp.length)
      ∧ (∀ e ∈ l, ∀ p, (entryPanels s e).getLsbD p.val = true → HeldOnce e (s.ntc.panels.get p) → ¬ Holds e (panels.get p))
      ∧ ∀ p, (∀ e ∈ l, (entryPanels s e).getLsbD p.val = false) → panels.get p = s.ntc.panels.get p
    (∀ (k clock : Nat) (rest : List Taken) (s : State), Delivers .ntc (.withdraw k) clock rest s →
      (24 ≤ k → exec .withdraw s = .next (refuse .ntc 10 .badField k (s.withFifo rest)))
      ∧ ∀ e : Fin 24, e.val = k →
        (s.ntc.entries.get e = none → exec .withdraw s = .next (s.withFifo rest))
        ∧ (s.ntc.entries.get e ≠ none → gone s (s.withFifo rest) [e] (exec .withdraw s)))
    ∧ (∀ (ep : Nat) (slot : Fin 96) (rest : List (Mail ToNtc)) (s : State), s.inReset = false →
        s.links.schNtc = ⟨ep, .saleEnd slot⟩ :: rest → s.taken.get (blockIx .ntc) ≤ ep →
      gone s { s with links := { s.links with schNtc := rest } }
        ((fins 24).filter fun e => (s.ntc.entries.get e).any fun n => n.linked == some slot) (exec .saleEnd s))
    ∧ ∀ s : State, s.inReset = false → 0 < s.links.pulseNtc →
      gone s { s with
          ntc := { s.ntc with entries := s.ntc.entries.map fun o => o.map fun n => { n with lifetime := n.lifetime - 1 } }
          links := { s.links with pulseNtc := s.links.pulseNtc - 1 } }
        ((fins 24).filter fun e => (s.ntc.entries.get e).any fun n => n.lifetime == 1) (exec .noticeExpiry s))
  ∧ (∀ (e : Fin 24) (n : Notice) (s : State), s.ntc.entries.get e = some n →
      let u := (panelsOf n.panels).foldl (fun u p => retireFrom e p u) s
      panelsOf n.panels = (fins 8).filter (fun p => n.panels.getLsbD p.val)
      ∧ retireAll e s = { u with
        ntc := { u.ntc with entries := u.ntc.entries.set e none, sequence := u.ntc.sequence.filter fun f => decide (f ≠ e) }
        links := { u.links with
          ntcBlc := u.links.ntcBlc ++ [e]
          ntcSch := u.links.ntcSch ++ (n.origin.map fun slot => mail .ntc u (.autoFree e slot)).toList } })
  ∧ (∀ (e : Fin 24) (p : Fin 8) (n : Notice) (s : State), s.ntc.entries.get e = some n →
      let x := s.ntc.panels.get p
      let entries := s.ntc.entries.set e (some { n with panels := n.panels &&& ~~~(1#8 <<< p.val) })
      (∀ c rest, x.view = some e → x.stack = c :: rest → c.view ≠ some e →
        ∃ cls layout, retireFrom e p s = { s with
            ntc := { s.ntc with entries := entries, panels := s.ntc.panels.set p { x with view := c.view, stack := rest } }
            links := { s.links with ntcCmp := s.links.ntcCmp ++ [mail .ntc s (.view ⟨p, c.view.filter fun f => (s.ntc.entries.get f).isSome, cls, layout,
              if c.layout = layoutNow s p c.view then c.cursors else Tab.fill 8 0⟩)] } }
          ∧ (∀ f m, c.view = some f → s.ntc.entries.get f = some m → cls = some m.cls ∧ layout = some (x.map.get m.cls))
          ∧ (c.view = none → cls = none ∧ layout = none))
      ∧ (x.view ≠ some e → retireFrom e p s = { s with ntc := { s.ntc with
          entries := entries
          panels := s.ntc.panels.set p { x with
            stack := x.stack.filter fun c => decide (c.view ≠ some e)
            waiting := x.waiting.filter fun w => decide (w.entry ≠ e) } } }))
  ∧ ∀ (p : Fin 8) (s : State), layoutNow s p none = (s.cmp.panels.get p).baseLayout
      ∧ ∀ (e : Fin 24) (n : Notice), s.ntc.entries.get e = some n → layoutNow s p (some e) = (s.ntc.panels.get p).map.get n.cls

/-- FORCE (R82, R83): the checks in order, with the classes shown those of the current view and of the stacked views; on a LIVE panel the
entry is taken at once and takes evaluated; elsewhere it waits behind the entries forced before it and ahead of every other. LOBBY_OPEN,
LOBBY_CLOSED and a bad mode (R84): a change stores the mode and evaluates takes on every panel. The model's own choices here: log 32. -/
def Obligations.ForceAndLobbyMode : Prop :=
  (∀ (k panel clock : Nat) (rest : List Taken) (s : State), Delivers .ntc (.force k panel) clock rest s →
      let s' := s.withFifo rest
      (24 ≤ k ∨ 8 ≤ panel → exec .force s = .next (refuse .ntc 11 .badField k s'))
      ∧ ∀ (e : Fin 24) (p : Fin 8), e.val = k → p.val = panel →
        (s.ntc.entries.get e = none → exec .force s = .next (refuse .ntc 11 .badField k s'))
        ∧ ∀ n, s.ntc.entries.get e = some n →
          let x := s.ntc.panels.get p
          let t : State := { s' with ntc := { s.ntc with
            entries := s.ntc.entries.set e (some { n with panels := n.panels ||| (1#8 <<< p.val) }) } }
          (classShown s.ntc n.cls.val x = true → exec .force s = .next (refuse .ntc 11 .classShown k s'))
          ∧ (classShown s.ntc n.cls.val x = false → x.live = true → exec .force s = .next (evalTakes p (takeEntry e p t)))
          ∧ (classShown s.ntc n.cls.val x = false → x.live = false → exec .force s = .next { t with ntc := { t.ntc with
              panels := s.ntc.panels.set p { x with
                waiting := insertForced e (x.waiting.filter fun w => w.entry != e) } } }))
  ∧ (∀ (e : Fin 24) (l : List Waiting),
      insertForced e l = l.takeWhile (fun w => w.forced) ++ ⟨e, true⟩ :: l.dropWhile fun w => w.forced)
  ∧ (∀ (c : Ntc) (k : Nat) (x : NtcPanel), classShown c k x = true
      ↔ ∃ f : Fin 24, (x.view = some f ∨ ∃ d ∈ x.stack, d.view = some f) ∧ classOf c f = k)
  ∧ (∀ (c : Ntc) (e : Fin 24), (c.entries.get e = none → classOf c e = 12)
      ∧ ∀ n, c.entries.get e = some n → classOf c e = n.cls.val)
  ∧ (∀ (mode clock : Nat) (rest : List Taken) (s : State), Delivers .ntc (.lobby mode) clock rest s →
      let s' := s.withFifo rest
      (mode = 1 → exec .lobbyOpen s = .next
        (if s.ntc.lobbyOpen then s' else evalSet 255#8 { s' with ntc := { s.ntc with lobbyOpen := true } }))
      ∧ (mode = 0 → exec .lobbyClosed s = .next
        (if s.ntc.lobbyOpen then evalSet 255#8 { s' with ntc := { s.ntc with lobbyOpen := false } } else s'))
      ∧ (2 ≤ mode → exec .lobbyBadMode s = .next (refuse .ntc 12 .badField 0 s')))

/-- A take (R89, R90): the entry leaves the pending list and becomes the view, told to the CMP with its class, the map's layout and
cursors 0; the displaced view goes onto the save stack, or with no room back to the pending list. Takes on a panel that is not LIVE do
nothing; on a LIVE one the first candidate of the pending list is taken, again and again, until no pending entry is a candidate: its
class enabled, the gate of the lobby mode open, its class not shown, and above that of the current view; several panels are evaluated in
panel order (R87, R88). The pending list keeps its order under an insertion: the forced entries first, then by class, then by raise
sequence (R73). The layout and cursors that a take saves are those of the CMP's current view, or, with a view change of the panel on its
way to the CMP, those that the last one brings (log 10). The model's own choices here: log 10. -/
def Obligations.TakesAreEvaluated : Prop :=
  (∀ (e : Fin 24) (n : Notice) (p : Fin 8) (s : State), s.ntc.entries.get e = some n →
      let x := s.ntc.panels.get p
      let left := x.waiting.filter fun w => w.entry != e
      let sent : Links := { s.links with ntcCmp := s.links.ntcCmp
        ++ [mail .ntc s (.view ⟨p, some e, some n.cls, some (x.map.get n.cls), Tab.fill 8 0⟩)] }
      let y := fun (stack : List Context) (waiting : List Waiting) => takeEntry e p s = { s with
        ntc := { s.ntc with panels := s.ntc.panels.set p { x with waiting := waiting, view := some e, stack := stack } }
        links := sent }
      (x.stack.length < 3 → y (⟨x.view, (shownView s p).1, (shownView s p).2⟩ :: x.stack) left)
      ∧ (3 ≤ x.stack.length → ∀ f, x.view = some f → y x.stack (insertWaiting s.ntc f left)))
  ∧ ((∀ (p : Fin 8) (s : State), (ntcPanel s p).live = false → evalTakes p s = s)
      ∧ (∀ (p : Fin 8) (s : State), (ntcPanel s p).live = true →
        let t := evalTakes p s
        (∀ w ∈ (ntcPanel t p).waiting, isCandidate t.ntc (ntcPanel t p) w.entry = false)
        ∧ (∀ q, q ≠ p → ntcPanel t q = ntcPanel s q)
        ∧ t = { s with
          ntc := { s.ntc with panels := t.ntc.panels }
          links := { s.links with ntcCmp := t.links.ntcCmp } }
        ∧ s.links.ntcCmp <+: t.links.ntcCmp)
      ∧ (∀ (p : Fin 8) (s : State), (ntcPanel s p).live = true →
        let first := (ntcPanel s p).waiting.find? fun w => isCandidate s.ntc (ntcPanel s p) w.entry
        (first = none → evalTakes p s = s)
        ∧ ∀ w, first = some w → evalTakes p s = evalTakes p (takeEntry w.entry p s))
      ∧ (∀ (m : BitVec 8) (s : State), evalSet m s
        = ((fins 8).filter fun p => m.getLsbD p.val).foldl (fun s p => evalTakes p s) s)
      ∧ ∀ (c : Ntc) (x : NtcPanel) (e : Fin 24),
        (isCandidate c x e = true ↔ x.enableMask.getLsbD (classOf c e) = true
          ∧ (if c.lobbyOpen then x.hold = false else x.closedMask.getLsbD (classOf c e) = true)
          ∧ (∀ f, some f ∈ shownViews x → classOf c f ≠ classOf c e)
          ∧ ∀ f, x.view = some f → classOf c e < classOf c f))
  ∧ (∀ (c : Ntc) (e : Fin 24) (l : List Waiting),
      let ordered := fun l : List Waiting => l.Pairwise fun a b => a.forced = true ∨ (b.forced = false ∧ pendsBefore c b.entry a.entry = false)
      ordered l →
        ordered (insertWaiting c e l) ∧ ordered (insertForced e l)
        ∧ (insertWaiting c e l).Perm (⟨e, false⟩ :: l) ∧ (insertForced e l).Perm (⟨e, true⟩ :: l))
  ∧ (∀ (c : Ntc) (e f : Fin 24), pendsBefore c e f = true
      ↔ classOf c e < classOf c f ∨ (classOf c e = classOf c f ∧ c.sequence.idxOf e < c.sequence.idxOf f))
  ∧ (∀ (p : Fin 8) (s : State),
      let c := s.cmp.panels.get p
      let changes := s.links.ntcCmp.filterMap fun m => match m.body with
        | .view v => if v.panel = p ∧ s.taken.get (blockIx .cmp) ≤ m.epoch then some v else none
        | .content _ => none
      (changes = [] → shownView s p = (c.layout, Tab.make 8 fun i => (c.panes.get i).cursor))
      ∧ ∀ v, changes.getLast? = some v →
        let number := v.layout.getD c.baseLayout
        shownView s p = (number, Tab.make 8 fun i => match (s.cmp.layouts.get number).panes[i.val]? with
          | some x => if isListing x = true ∧ v.cursors.get i < pagesOf s c x then v.cursors.get i else 0
          | none => 0))

/-- PRESENCE_REPORT_NTC: a report of a mode other than LIVE makes the panel not LIVE and changes nothing else; one of LIVE makes it LIVE,
takes its forced entries first, one at a time from the head of the pending list, each taken or, where its class is shown, pending again
without its mark, and then evaluates takes; no other panel changes, and no forced entry is left (R83, R87, R97). The NTC takes a report
only once the CMP has taken the same one (R155). The model's own choices here: log 9, 10. -/
def Obligations.PresenceReachesTheNotices : Prop :=
  (∀ (p : Fin 8) (mode : Mode) (rest : List Mode) (s : State), s.inReset = false → s.links.pnlNtc.get p = mode :: rest →
      let s' : State := { s with
        ntc := { s.ntc with panels := s.ntc.panels.set p { s.ntc.panels.get p with live := decide (mode = .live) } }
        links := { s.links with pnlNtc := s.links.pnlNtc.set p rest } }
      let told := (presenceOnWay s p).length ≤ rest.length
      (¬ told → exec (.presenceReportNtc p) s = .next s)
      ∧ (told → mode ≠ .live → exec (.presenceReportNtc p) s = .next s')
      ∧ (told → mode = .live →
        let t := evalTakes p (forcedLoop 24 p s')
        let x := t.ntc.panels.get p
        exec (.presenceReportNtc p) s = .next t
        ∧ t = { s' with
          ntc := { s'.ntc with panels := t.ntc.panels }
          links := { s'.links with ntcCmp := s.links.ntcCmp ++ t.links.ntcCmp.drop s.links.ntcCmp.length } }
        ∧ (∀ q, q ≠ p → t.ntc.panels.get q = s.ntc.panels.get q)
        ∧ x.live = true
        ∧ (∀ w ∈ x.waiting, isCandidate s.ntc x w.entry = false)
        ∧ ((s.ntc.panels.get p).waiting.length ≤ 24 →
          (s.ntc.panels.get p).waiting.Pairwise (fun a b => b.forced = true → a.forced = true) →
          ∀ w ∈ x.waiting, w.forced = false)))
  ∧ (∀ (k : Nat) (p : Fin 8) (s : State),
      let x := ntcPanel s p
      (∀ w rest, x.waiting = w :: rest → w.forced = true → forcedLoop (k + 1) p s = forcedLoop k p (forcedStep w.entry p s))
      ∧ ((∀ w rest, x.waiting = w :: rest → w.forced = false) → forcedLoop k p s = s))
  ∧ ∀ (e : Fin 24) (p : Fin 8) (s : State),
      let x := ntcPanel s p
      let shown := ∃ f, some f ∈ shownViews x ∧ classOf s.ntc f = classOf s.ntc e
      (¬ shown → forcedStep e p s = takeEntry e p s)
      ∧ (shown → forcedStep e p s = { s with ntc := { s.ntc with panels := s.ntc.panels.set p { x with
          waiting := insertWaiting s.ntc e (x.waiting.filter fun w => w.entry != e) } } })

/-! ## Composition -/

/-- MINUTE_BOUNDARY, DESK_CHANGE, NOTICE_CONTENT_CHANGE, PURGE_REPORT and ROSTER_CHANGE: each is taken from its sender and marks the
panes that R109 names in the current view of every panel; a roster change first corrects the cursors past the last page (R4, R108, R109,
R125). A LISTING pane shows a slot where its page names it, or where a row issued for it since its last mark holds a line of it that was
looked up before the purge (log 19). The model's own choices here: log 19. -/
def Obligations.CausesMarkPanes : Prop :=
  ∀ s : State, s.inReset = false →
    (0 < s.links.minutes → exec .minuteBoundary s
      = .next (({ s with links := { s.links with minutes := s.links.minutes - 1 } } : State).marked fun _ _ x => isClock x))
    ∧ (∀ ep rest, s.links.slgCmp = ⟨ep, ()⟩ :: rest → s.taken.get (blockIx .cmp) ≤ ep → exec .deskChange s
      = .next (({ s with links := { s.links with slgCmp := rest } } : State).marked fun _ _ x => isDeskStrip x))
    ∧ (∀ ep p rest, s.links.ntcCmp = ⟨ep, .content p⟩ :: rest → s.taken.get (blockIx .cmp) ≤ ep →
      exec .noticeContentChange s = .next { s with
        cmp := { s.cmp with
          panels := s.cmp.panels.set p (markPanes (viewLayout s p) (fun _ x => isNoticeText x) (cmpPanel s p)) }
        links := { s.links with ntcCmp := rest } })
    ∧ (∀ ep slot rest, s.links.tstCmp = ⟨ep, .purged slot⟩ :: rest → s.taken.get (blockIx .cmp) ≤ ep → exec .purgeReport s
      = .next (({ s with links := { s.links with tstCmp := rest } } : State).marked fun p i x =>
        (isListing x && (asFin 8 i).any fun j =>
          let y := (cmpPanel s p).panes.get j
          decide (slot ∈ pageSlots s (cmpPanel s p) y.cursor x)
            || y.issued.any fun r => r.tile.any fun t => t.1 == slot && decide (t.2 < s.tst.purged.get slot))
          || (isNoticeText x && viewLinked slot s p)))
    ∧ ∀ ep f rest, s.links.schCmp = ⟨ep, f⟩ :: rest → s.taken.get (blockIx .cmp) ≤ ep →
      let corrected := fun (p i : Fin 8) =>
        let x := (cmpPanel s p).panes.get i
        match (viewLayout s p).panes[i.val]? with
        | some y =>
          if namesFilter f y = true ∧ pagesOf s (cmpPanel s p) y ≤ x.cursor then { x with cursor := 0, dwell := 0 } else x
        | none => x
      exec .rosterChange s = .next (({ s with
        cmp := { s.cmp with panels := Tab.make 8 fun p => { cmpPanel s p with panes := Tab.make 8 (corrected p) } }
        links := { s.links with schCmp := rest } } : State).marked fun _ _ x => namesFilter f x)

/-- Marking panes: exactly those with cells that are named, or that share a cell with an earlier marked pane, are dirty and start their
issue over; any mark moves CLEAN, BUILDING and READY to DIRTY and leaves SYNCING; with none marked nothing changes (R109, R115).
PAGE_ADVANCE: on a seconds pulse every LISTING pane of every current view counts its dwell; with one page the count is 0; at the dwell
the page turns, from the last to the first, and the pane is marked dirty (R108, R109). -/
def Obligations.MarksSpreadAndPagesTurn : Prop :=
  (∀ (l : Layout) (pick : Nat → Pane → Bool) (c : CmpPanel),
      let marks := markList c [] (l.panes.mapIdx fun i x => (x, pick i x))
      (∀ i x, l.panes[i]? = some x → (marks.getD i false = true ↔ hasCells c x = true ∧ (pick i x = true
        ∨ ∃ j < i, ∃ y, l.panes[j]? = some y ∧ marks.getD j false = true ∧ shareCell c y x = true)))
      ∧ ((∀ i, marks.getD i false = false) → markPanes l pick c = c)
      ∧ ((∃ i, marks.getD i false = true) → markPanes l pick c = { c with
          panes := Tab.make 8 fun i =>
            if marks.getD i.val false then { c.panes.get i with dirty := true, issueRow := 0, issued := [] } else c.panes.get i
          build := if c.build = .syncing then .syncing else .dirty }))
  ∧ (∀ s : State, s.inReset = false → 0 < s.links.pulseCmp →
      let pages := fun (p : Fin 8) (y : Pane) => pagesOf s (cmpPanel s p) y
      let turns := fun (p i : Fin 8) => match (viewLayout s p).panes[i.val]? with
        | some ⟨.listing f st d, top, left, h, w⟩ =>
          decide (1 < pages p ⟨.listing f st d, top, left, h, w⟩) && decide (d ≤ ((cmpPanel s p).panes.get i).dwell + 1)
        | _ => false
      let after := fun (p i : Fin 8) =>
        let x := (cmpPanel s p).panes.get i
        match (viewLayout s p).panes[i.val]? with
        | some ⟨.listing f st d, top, left, h, w⟩ =>
          let n := pages p ⟨.listing f st d, top, left, h, w⟩
          if n ≤ 1 then { x with dwell := 0 }
          else if x.dwell + 1 < d then { x with dwell := x.dwell + 1 }
          else { x with dwell := 0, cursor := if x.cursor + 1 < n then x.cursor + 1 else 0 }
        | _ => x
      exec .pageAdvance s = .next { s with
        cmp := { s.cmp with
          panels := Tab.make 8 fun p =>
            markPanes (viewLayout s p) (fun i _ => (asFin 8 i).any fun j => turns p j)
              { cmpPanel s p with panes := Tab.make 8 (after p) } }
        links := { s.links with pulseCmp := s.links.pulseCmp - 1 } })

/-- VIEW_CHANGE (R75, R108, R110, R113): view, class, layout and lane are stored, a cancel goes to the panel's channel, the background is
due, every pane with cells is marked with its cursor loaded, stalls end, and the build state is DIRTY. So with every view change that the
CMP acts on, its own among them (R105). A repaint is a view change to the panel's present view, class and layout with given cursors: its
present ones, except where R106 gives 0 (R111). -/
def Obligations.ViewChangeIsTaken : Prop :=
  let changed := fun (v : ViewChange) (s : State) =>
    let c := s.cmp.panels.get v.panel
    let number := v.layout.getD c.baseLayout
    let l := s.cmp.layouts.get number
    ({ s with
      cmp := { s.cmp with panels := s.cmp.panels.set v.panel { c with
        view := v.view, cls := v.cls, layout := number
        lane := if v.cls = some 0 then .announce else .normal
        backgroundDue := true
        panes := Tab.make 8 fun i => match l.panes[i.val]? with
          | some x => ⟨hasCells c x, 0, if isListing x = true ∧ v.cursors.get i < pagesOf s c x then v.cursors.get i else 0, 0, []⟩
          | none => ⟨false, 0, 0, 0, []⟩
        stall := none, build := .dirty, copyDue := false } }
      links := { s.links with cmpBlc := s.links.cmpBlc.modify (channelOf v.panel) fun q => q ++ [.cancel v.panel] } } : State)
  (∀ (ep : Nat) (v : ViewChange) (rest : List (Mail ToCmp)) (s : State), s.inReset = false →
      s.links.ntcCmp = ⟨ep, .view v⟩ :: rest → s.taken.get (blockIx .cmp) ≤ ep →
      exec .viewChange s = .next (changed v { s with links := { s.links with ntcCmp := rest } }))
  ∧ (∀ (v : ViewChange) (s : State), applyView v s = changed v s)
  ∧ (∀ (p : Fin 8) (cursors : Tab 8 Nat) (s : State),
      let c := s.cmp.panels.get p
      repaintAt p cursors s = changed ⟨p, c.view, c.cls, some c.layout, cursors⟩ s)
  ∧ ∀ (p : Fin 8) (s : State), repaint p s = repaintAt p (Tab.make 8 fun i => ((s.cmp.panels.get p).panes.get i).cursor) s

/-- JOB_ISSUE (R102, R103, R112, R113, R116, R118): nothing unless R112 allows it, nor before the other blocks have taken a RESET that
the CMP has taken: the Blit Channels and the Tile Store (R118), and the SCH and the SLG, the model's choice (log 44); a full queue
stalls; else the COPY, the whole-grid FILL, or the job of the issue row of the lowest dirty pane, with a tile looked up where it needs
one: LookupHitsOrFormats at the Tile Store, with the line of R65 at that moment for what a miss formats (R113, R122). Each issued job
takes the panel's next number and joins its outstanding set. A LISTING pane's row is also recorded with what it was made from (log 19).
When issue leaves nothing dirty and no background due in DIRTY, the build state is READY with nothing outstanding and BUILDING otherwise;
in any other case it stays (R115). What a row of each kind of pane needs: for LISTING the tile of the roster's line, the text NO_SHOWINGS
on an empty roster, or spaces (R102); for the other kinds the source of R103, and spaces below it. The model's own choices here: log 9,
11, 19, 27, 33, 44. -/
def Obligations.JobIssueFollowsPrecedence : Prop :=
  (∀ (p : Fin 8) (s : State), s.inReset = false →
      let c := cmpPanel s p
      let n := channelOf p
      let room := (queueOf (s.blc.channels.get n) c.lane).length + jobsInFlight (s.links.cmpBlc.get n) c.lane
        < queueDepth c.lane
      let waits := ∃ r ∈ s.tif.resetting, Block.cmp ∉ r.waiting ∧ ∃ b ∈ r.waiting, b = .blc ∨ b = .tst ∨ b = .sch ∨ b = .slg
      let allowed := c.live = true ∧ (s.ports.get p).mode = .live ∧ (c.build = .dirty ∨ (c.build = .syncing ∧ c.copyDue = true))
        ∧ c.stall = none ∧ ¬ waits
      let number := (c.jobNumber + 1) % 65536
      let issued := fun (t : State) (job : Job) (d : CmpPanel) => exec (.jobIssue p) s = .next { t with
        cmp := { t.cmp with
          panels := s.cmp.panels.set p
            (CmpPanel.settle { d with jobNumber := number, outstanding := c.outstanding ++ [number] }) }
        links := { t.links with cmpBlc := s.links.cmpBlc.modify n fun q => q ++ [.job job] } }
      let grid := fun src => (⟨p, number, c.lane, src, some c.columns, 0, 0, c.columns * c.rows, 0, none⟩ : Job)
      (¬ allowed → exec (.jobIssue p) s = .next s)
      ∧ (allowed → ¬ room → exec (.jobIssue p) s
        = .next { s with cmp := { s.cmp with panels := s.cmp.panels.set p { c with stall := some (.queueFull c.lane) } } })
      ∧ (allowed → room → c.build = .syncing → issued s (grid .copy) { c with copyDue := false })
      ∧ (allowed → room → c.build = .dirty → c.backgroundDue = true →
        issued s (grid (.fill (viewLayout s p).background)) { c with backgroundDue := false })
      ∧ (allowed → room → c.build = .dirty → c.backgroundDue = false → (∀ i, (c.panes.get i).dirty = false) →
        exec (.jobIssue p) s = .next { s with cmp := { s.cmp with panels := s.cmp.panels.set p c.settle } })
      ∧ ∀ (i : Fin 8) (x : Pane), allowed → room → c.build = .dirty → c.backgroundDue = false →
        (c.panes.get i).dirty = true → (∀ j < i, (c.panes.get j).dirty = false) → (viewLayout s p).panes[i.val]? = some x →
        let row := (c.panes.get i).issueRow
        let job := fun src => (⟨p, number, c.lane, src, none, x.top + row, x.left, clippedWidth c.columns x, 0, none⟩ : Job)
        let after := fun tile => { c with panes := c.panes.set i { c.panes.get i with
          issueRow := row + 1, dirty := decide (row + 1 < clippedHeight c.rows x)
          issued := (c.panes.get i).issued ++ match x.kind with
            | .listing f _ _ => [⟨tile, s.sch.rosters.get f⟩]
            | _ => [] } }
        (∀ src, rowNeed s c x (c.panes.get i).cursor row = .source src → issued s (job src) (after none))
        ∧ ∀ slot st, rowNeed s c x (c.panes.get i).cursor row = .tile slot st →
          (∀ ref, (lookupTile slot st s).2 = some ref →
            issued (lookupTile slot st s).1 (job (.tile ref)) (after (some (slot, s.tst.purged.get slot))))
          ∧ ((lookupTile slot st s).2 = none → exec (.jobIssue p) s = .next { (lookupTile slot st s).1 with
            cmp := { s.cmp with panels := s.cmp.panels.set p { c with stall := some .noTile } } }))
  ∧ (∀ c : CmpPanel,
      (c.build = .dirty → c.backgroundDue = false → (∀ i, (c.panes.get i).dirty = false) →
        c.settle = { c with build := if c.outstanding = [] then .ready else .building })
      ∧ (c.build ≠ .dirty ∨ c.backgroundDue = true ∨ (∃ i, (c.panes.get i).dirty = true) → c.settle = c))
  ∧ (∀ (p : Fin 8) (s : State), s.inReset = false → exec (.jobIssue p) s = .next (issueOne p s))
  ∧ (∀ (slot : Fin 96) (st : Fin 4) (s : State),
      let r := lookup (slot, st) (formatLine s slot (s.cmp.styles.get st)) s.tst
      lookupTile slot st s = ({ s with tst := r.1 }, r.2))
  ∧ ∀ (s : State) (c : CmpPanel) (x : Pane) (cursor row : Nat),
      let need := rowNeed s c x cursor row
      let h := min (x.top + x.height) c.rows - x.top
      let space := fun ink paper => RowNeed.source (.fill ⟨32, ink, paper, false, false, false⟩)
      (∀ f st dwell, x.kind = .listing f st dwell →
        let roster := s.sch.rosters.get f
        let style := s.cmp.styles.get st
        (∀ slot, roster[cursor * h + row]? = some slot → need = .tile slot st)
        ∧ (roster = [] → row = 0 → need = .source (.text 34 style.baseInk style.basePaper))
        ∧ (roster.length ≤ cursor * h + row → roster ≠ [] ∨ row ≠ 0 → need = space style.baseInk style.basePaper))
      ∧ (∀ w, x.kind = .trailer w → need = .source (.fill ⟨32, 0, 0, true, false, false⟩))
      ∧ (∀ ink paper, x.kind = .deskStrip ink paper → need = if row = 0 then .source (.desk ink paper) else space ink paper)
      ∧ (∀ form ink paper, x.kind = .clock form ink paper →
        need = if row = 0 then .source (.clock form ink paper) else space ink paper)
      ∧ (∀ i ink paper, x.kind = .text i ink paper → need = if row = 0 then .source (.text i ink paper) else space ink paper)
      ∧ ∀ ink paper, x.kind = .noticeText ink paper →
        (∀ e, c.view = some e → row < h → row < lineCount s e → need = .source (.notice e (row + 1) ink paper))
        ∧ (c.view = none ∨ h ≤ row ∨ (∃ e, c.view = some e ∧ lineCount s e ≤ row) → need = space ink paper)

/-- The four job reports (R111, R114, R115): an outstanding job leaves the set; the build state is READY when that empties the set with
nothing left in DIRTY or BUILDING; the COPY's completion ends SYNCING; a cleared job is followed by a repaint; a number not outstanding
changes nothing. QUEUE_ROOM_REPORT ends the stalls that wait for it, and no other (R112, R140). UNPIN_REPORT ends the NO_TILE stalls, and
each of those panels, in panel order, issues its next job, as JOB_ISSUE does (R113, R124, JobIssueFollowsPrecedence). The model's own
choices here: log 34. -/
def Obligations.JobReportsAreTaken : Prop :=
  (∀ (n : Fin 4) (p : Fin 8) (k : Nat) (rest : List FromChannel) (x : FromChannel) (s : State), s.inReset = false →
      s.links.blcCmp.get n = x :: rest →
      let s' : State := { s with links := { s.links with blcCmp := s.links.blcCmp.set n rest } }
      let c := cmpPanel s p
      let left := c.outstanding.erase k
      let still := c.backgroundDue = true ∨ ∃ i, (c.panes.get i).dirty = true
      ∃ (done : CmpPanel) (copied : CmpPanel),
        (left = [] → ¬ still → (c.build = .dirty ∨ c.build = .building) → done = { c with outstanding := left, build := .ready })
        ∧ (left ≠ [] ∨ still ∨ (c.build ≠ .dirty ∧ c.build ≠ .building) → done = { c with outstanding := left })
        ∧ ((∃ i, (c.panes.get i).dirty = true) → copied = { c with outstanding := left, build := .dirty })
        ∧ ((∀ i, (c.panes.get i).dirty = false) → copied = { c with outstanding := left, build := .clean })
        ∧ (k ∉ c.outstanding →
          (x = .completed p k → exec (.jobCompletedReport n) s = .next s')
          ∧ (x = .discarded p k → exec (.jobDiscardedReport n) s = .next s')
          ∧ (x = .abandoned p k → exec (.jobAbandonedReport n) s = .next s')
          ∧ (x = .cleared p k → exec (.jobClearedReport n) s = .next s'))
        ∧ (k ∈ c.outstanding →
          (x = .completed p k → exec (.jobCompletedReport n) s = .next { s' with
            cmp := { s.cmp with panels := s.cmp.panels.set p (if c.build = .syncing then copied else done) } })
          ∧ (x = .discarded p k → exec (.jobDiscardedReport n) s
            = .next { s' with cmp := { s.cmp with panels := s.cmp.panels.set p done } })
          ∧ (x = .abandoned p k → exec (.jobAbandonedReport n) s
            = .next { s' with cmp := { s.cmp with panels := s.cmp.panels.set p done } })
          ∧ (x = .cleared p k → exec (.jobClearedReport n) s
            = .next (repaint p { s' with cmp := { s.cmp with panels := s.cmp.panels.set p done } }))))
  ∧ (∀ s : State, s.inReset = false →
      (∀ n lane rest, s.links.blcCmp.get n = .room lane :: rest → exec (.queueRoomReport n) s = .next { s with
        cmp := { s.cmp with
          panels := Tab.make 8 fun p => if p.val % 4 = n.val ∧ (cmpPanel s p).stall = some (.queueFull lane) then { cmpPanel s p with stall := none }
          else cmpPanel s p }
        links := { s.links with blcCmp := s.links.blcCmp.set n rest } })
      ∧ ∀ ep rest, s.links.tstCmp = ⟨ep, .unpinned⟩ :: rest → exec .unpinReport s
        = .next (((fins 8).filter fun p => decide ((cmpPanel s p).stall = some .noTile)).foldl
          (fun t p => issueOne p
            { t with cmp := { t.cmp with panels := t.cmp.panels.set p { t.cmp.panels.get p with stall := none } } })
          { s with links := { s.links with tstCmp := rest } }))

/-- The reports of a port at the CMP (R101, R111, R162, R169): a panel that becomes LIVE is repainted; one that stops has its background
due, every pane marked and DIRTY; a geometry is stored and the panel repainted; a cleared grid is repainted and answered, once the CMP
has taken the same RESET. The model's own choices here: log 8, 35. -/
def Obligations.PortReportsAreTaken : Prop :=
  ∀ (p : Fin 8) (x : FromPort) (rest : List FromPort) (s : State), s.inReset = false → s.links.pnlCmp.get p = x :: rest →
    let s' : State := { s with links := { s.links with pnlCmp := s.links.pnlCmp.set p rest } }
    let c := cmpPanel s p
    let store := fun d => ({ s' with cmp := { s.cmp with panels := s.cmp.panels.set p d } } : State)
    (x = .presence .live → exec (.presenceReportCmp p) s = .next (repaint p (store { c with live := true })))
    ∧ (∀ mode, x = .presence mode → mode ≠ .live → exec (.presenceReportCmp p) s = .next (store { markPanes (viewLayout s p) (fun _ _ => true) c with
        live := false, backgroundDue := true, build := .dirty, copyDue := false }))
    ∧ (∀ columns rows rate, x = .geometry columns rows rate → exec (.geometryReport p) s
      = .next (repaint p (store { c with columns := columns, rows := rows, rate := rate })))
    ∧ ∀ epoch, x = .gridCleared epoch →
      (epoch ≤ s.taken.get (blockIx .cmp) →
        let t := repaint p s'
        exec (.gridClearedReport p) s = .next { t with links := { t.links with
          cmpPnl := s.links.cmpPnl.modify p fun q => q ++ [.cleared epoch] } })
      ∧ (s.taken.get (blockIx .cmp) < epoch → exec (.gridClearedReport p) s = .next s)

/-! ## Tiles -/

/-- PURGE, from each of its three senders (R125, R127): every VALID tile of the slot is FREE without pins and PURGING with them, out of
the use list, and the CMP is told; the purges of the slot are also counted, for log 19. UNPIN (R124): a reference that finds its tile
takes one pin from it; a PURGING tile without pins is FREE; the CMP is told when the tile becomes unpinned or leaves the pin limit; a
reference that finds no tile changes nothing. The model's own choices here: log 19. -/
def Obligations.PurgesAndUnpins : Prop :=
  (∀ (sender : PurgeSender) (ep : Nat) (slot : Fin 96) (rest : List (Mail (Fin 96))) (s : State), s.inReset = false →
      purgeLink sender s.links = ⟨ep, slot⟩ :: rest → s.taken.get (blockIx .tst) ≤ ep →
      let hit := fun i => let x := s.tst.slots.get i
        x.state == .valid && (x.key.any fun k => k.1 == slot)
      exec (.purge sender) s = .next { s with
        tst := { s.tst with
          slots := Tab.make 96 fun i =>
            let x := s.tst.slots.get i
            if hit i then (if x.pins = 0 then ⟨.free, none, [], 0, x.fmt⟩ else { x with state := .purging }) else x
          useList := s.tst.useList.filter fun i => (s.tst.slots.get i).state == .valid && !hit i
          purges := min 65535 (s.tst.purges + 1)
          purged := s.tst.purged.set slot (s.tst.purged.get slot + 1) }
        links := { s.links.withPurges sender rest with
          tstCmp := s.links.tstCmp ++ [mail .tst s (.purged slot)] } })
  ∧ (∀ (n : Fin 4) (r : TileRef) (rest : List TileRef) (s : State), s.inReset = false → s.links.blcTst.get n = r :: rest →
      let x := s.tst.slots.get r.slot
      let s' : State := { s with links := { s.links with blcTst := s.links.blcTst.set n rest } }
      let found := x.state ≠ .free ∧ x.fmt = r.fmt ∧ 1 ≤ x.pins
      (¬ found → exec (.unpin n) s = .next s')
      ∧ (found → exec (.unpin n) s = .next { s' with
          tst := { s.tst with
            slots := s.tst.slots.set r.slot (if x.state = .purging ∧ x.pins = 1 then ⟨.free, none, [], 0, x.fmt⟩ else { x with pins := x.pins - 1 }) }
          links := { s'.links with
            tstCmp := s.links.tstCmp ++ if x.pins = 1 ∨ x.pins = 16 then [mail .tst s .unpinned] else [] } }))

/-- A lookup (R119 to R123): a VALID tile of the key below the pin limit is a hit, pinned once more and used most recently; a miss takes
the lowest FREE slot, or the least recently used VALID slot without pins; the tile formatted there has one pin and a new format number; a
tile of the key at the limit is condemned; with no slot at hand nothing changes but the no-tile count. The model's count of purges stays
(log 19). The model's own choices here: log 19. -/
def Obligations.LookupHitsOrFormats : Prop :=
  ∀ (key : Fin 96 × Fin 4) (cells : List Cell) (t : Tst),
    let u := (lookup key cells t).1
    let ref := (lookup key cells t).2
    (∀ i, validSlot t key = some i → (t.slots.get i).pins < 16 →
      ref = some ⟨i, (t.slots.get i).fmt⟩ ∧ u = { t with
        slots := t.slots.set i { t.slots.get i with pins := (t.slots.get i).pins + 1 }
        useList := (t.useList.filter fun j => j != i) ++ [i]
        hits := min 65535 (t.hits + 1) })
    ∧ ((∀ i, validSlot t key = some i → 16 ≤ (t.slots.get i).pins) →
      let free := (fins 96).find? fun i => (t.slots.get i).state == .free
      let old := t.useList.find? fun i => (t.slots.get i).pins == 0
      (free = none → old = none → ref = none ∧ u = { t with noTile := min 65535 (t.noTile + 1) })
      ∧ ∀ i, (free = some i ∨ (free = none ∧ old = some i)) →
        let number := ((t.slots.get i).fmt + 1) % 65536
        ref = some ⟨i, number⟩
        ∧ u.slots.get i = ⟨.valid, some key, cells, 1, number⟩
        ∧ (∀ j, j ≠ i → u.slots.get j
          = if validSlot t key = some j then { t.slots.get j with state := .purging } else t.slots.get j)
        ∧ u.useList = ((t.useList.filter fun j => decide (validSlot t key ≠ some j)).filter fun j => j != i) ++ [i]
        ∧ u.hits = t.hits ∧ u.formats = min 65535 (t.formats + 1) ∧ u.noTile = t.noTile ∧ u.purges = t.purges
        ∧ u.purged = t.purged
        ∧ u.replacements = if free = none then min 65535 (t.replacements + 1) else t.replacements)

/-! ## Channels -/

/-- What an ACTIVE channel with no current job does (R132, R135, R140): the announce queue's head, else the aside job, else the normal
queue's head, else IDLE; a head for a panel that is not LIVE is discarded and the channel chooses again. JOB_ARRIVAL (R134, R139): the
job joins the end of its lane's queue; an IDLE channel starts it or, with channels_run off, is STOPPED; an announce job arriving at a
channel that requests for a normal one makes it yield at once; in any other case the job waits. -/
def Obligations.JobsArriveAndStart : Prop :=
  (∀ (n : Fin 4) (s : State),
      let c := s.blc.channels.get n
      let live := fun (j : Job) => (s.ports.get j.panel).mode = .live
      let started := fun (j : Job) => some { j with line := sourceLine s j.count j.source }
      let lost := { c.counts with discarded := more c.counts.discarded }
      (∀ j rest, c.announce = j :: rest →
        (live j → choose n s
          = s.channelled n { c with announce := rest, current := started j, phase := .requesting } [.room .announce] [])
        ∧ (¬ live j → choose n s = choose n (s.channelled n { c with announce := rest, counts := lost }
          [.room .announce, .discarded j.panel j.number] (unpinsOf j))))
      ∧ (c.announce = [] → ∀ j, c.aside = some j →
        choose n s = s.channelled n { c with aside := none, current := some j, phase := .requesting } [] [])
      ∧ (c.announce = [] → c.aside = none → ∀ j rest, c.normal = j :: rest →
        (live j → choose n s
          = s.channelled n { c with normal := rest, current := started j, phase := .requesting } [.room .normal] [])
        ∧ (¬ live j → choose n s = choose n (s.channelled n { c with normal := rest, counts := lost }
          [.room .normal, .discarded j.panel j.number] (unpinsOf j))))
      ∧ (c.announce = [] → c.aside = none → c.normal = [] →
        choose n s = s.channelled n { c with state := .idle, phase := .none } [] []))
  ∧ (∀ (n : Fin 4) (j : Job) (rest : List ToChannel) (s : State), s.inReset = false → s.links.cmpBlc.get n = .job j :: rest →
      let s' : State := { s with links := { s.links with cmpBlc := s.links.cmpBlc.set n rest } }
      let c := s.blc.channels.get n
      let waits := fun (d : Channel) => match j.lane with
        | .normal => { d with normal := c.normal ++ [j] }
        | .announce => { d with announce := c.announce ++ [j] }
      let yields := c.phase = .requesting ∧ (c.current.any fun k => k.lane == .normal) = true ∧ j.lane = .announce
      (c.state = .idle → s.blc.run = true → exec (.jobArrival n) s
        = .next (choose n (s'.channelled n (waits { c with state := .active }) [] [])))
      ∧ (c.state = .idle → s.blc.run = false → exec (.jobArrival n) s
        = .next (s'.channelled n (waits { c with state := .stopped }) [] []))
      ∧ (c.state = .active → yields → exec (.jobArrival n) s
        = .next (choose n (s'.channelled n (waits { c with aside := c.current, current := none, phase := .none }) [] [])))
      ∧ (c.state = .active → ¬ yields → exec (.jobArrival n) s = .next (s'.channelled n (waits c) [] []))
      ∧ (c.state = .stopped ∨ c.state = .fault → exec (.jobArrival n) s = .next (s'.channelled n (waits c) [] [])))

/-- JOB_CANCEL (R140, R141): every queued job of the panel is reported discarded, announce queue first; an aside job and a current job
not in writing are abandoned; one in writing waits for its boundary; a faulted one is kept; then a channel left without a current job
chooses, and a STOPPED one without work is IDLE. ENTRY_FREE_NOTICE (R132): every started NOTICE job of the entry has its line blank from
done onward; no other job changes. What becomes of a unit in writing is the model's choice (log 12). The model's own choices here: log
12, 36. -/
def Obligations.JobsAreCancelledOrBlanked : Prop :=
  (∀ (n : Fin 4) (p : Fin 8) (rest : List ToChannel) (s : State), s.inReset = false →
      s.links.cmpBlc.get n = .cancel p :: rest →
      let s' : State := { s with links := { s.links with cmpBlc := s.links.cmpBlc.set n rest } }
      let c := s.blc.channels.get n
      let its := fun (j : Job) => j.panel == p
      let aside := c.aside.filter its
      let current := (c.current.filter its).filter fun _ => c.state != .fault
      let cut := current.filter fun _ => c.phase != .writing
      let ended := aside.toList ++ cut.toList
      let gone := c.announce.filter its ++ c.normal.filter its
      let d : Channel := { c with
        announce := c.announce.filter fun j => !its j
        normal := c.normal.filter fun j => !its j
        aside := c.aside.filter fun j => !its j
        current := if cut.isSome then none else c.current
        phase := if cut.isSome then .none else c.phase
        cancelPending := if current.isSome ∧ c.phase = .writing then c.cancelPending ||| (1#8 <<< p.val) else c.cancelPending
        counts := { c.counts with abandoned := ended.foldl (fun k _ => more k) c.counts.abandoned } }
      let t := fun d => s'.channelled n d
        (discards .announce (c.announce.filter its) ++ discards .normal (c.normal.filter its)
          ++ ended.map fun j => .abandoned j.panel j.number)
        ((gone ++ ended).flatMap unpinsOf)
      (c.state = .active → d.current = none → exec (.jobCancel n) s = .next (choose n (t d)))
      ∧ (c.state = .stopped → hasWork d = false → exec (.jobCancel n) s = .next (t { d with state := .idle }))
      ∧ ((c.state = .active → d.current ≠ none) → (c.state = .stopped → hasWork d = true) →
        exec (.jobCancel n) s = .next (t d)))
  ∧ ((∀ (e : Fin 24) (rest : List (Fin 24)) (s : State), s.inReset = false → s.links.ntcBlc = e :: rest →
      exec .entryFreeNotice s = .next { s with
        blc := { s.blc with
          channels := Tab.make 4 fun n =>
            let c := s.blc.channels.get n
            { c with current := c.current.map (blankJob e), aside := c.aside.map (blankJob e) }
          unit := s.blc.unit.map (blankUnit e s.blc) }
        links := { s.links with ntcBlc := rest } })
      ∧ ∀ (e : Fin 24) (j : Job),
        (∀ line ink paper, j.source = .notice e line ink paper → blankJob e j = { j with
          line := j.line.map fun l => l.take j.done ++ List.replicate (l.length - j.done) ⟨32, ink, paper, false, false, false⟩ })
        ∧ ((∀ line ink paper, j.source ≠ .notice e line ink paper) → blankJob e j = j))

/-- The arbiter (R136): it grants some requesting channel whenever one requests; an announce request before every normal one; within the
lane the lowest number, or in rotating mode the first after the last granted channel in cyclic order. UNIT_GRANT (R136, R137, R144): with
the port free, the granted channel's next unit of up to 8 cells is checked; it passes and is in writing, or fails for the geometry or the
source, and the channel is in FAULT with its record and its event. A busy port, or no request, grants nothing. The model's own choices
here: log 12. -/
def Obligations.UnitIsGranted : Prop :=
  (∀ b : Blc,
      let asks := fun (n : Fin 4) lane => requests (b.channels.get n) lane = true
      let place := fun (n : Fin 4) => if b.rotating then (n.val + 3 - b.lastGranted.val) % 4 else n.val
      (granted b = none ↔ ∀ n, ¬ asks n .announce ∧ ¬ asks n .normal)
      ∧ (∀ n, granted b = some n ↔
        (asks n .announce ∧ ∀ m, asks m .announce → place n ≤ place m)
        ∨ ((∀ m, ¬ asks m .announce) ∧ asks n .normal ∧ ∀ m, asks m .normal → place n ≤ place m)))
  ∧ ((∀ s : State, s.inReset = false → (s.blc.unit ≠ none ∨ granted s.blc = none) → exec .unitGrant s = .next s)
      ∧ (∀ (n : Fin 4) (j : Job) (s : State), s.inReset = false → s.blc.unit = none → granted s.blc = some n →
        (s.blc.channels.get n).current = some j →
        let c := s.blc.channels.get n
        let x := s.ports.get j.panel
        let size := min 8 (j.count - j.done)
        let inside := ∀ k, k < size → (cellPlace j (j.done + k)).1 < x.rows ∧ (cellPlace j (j.done + k)).2 < x.columns
        let fails := fun r => exec .unitGrant s = .next { s with
          blc := { s.blc with
            lastGranted := n
            channels := s.blc.channels.set n { c with
              state := .fault, phase := .none, cancelPending := c.cancelPending &&& ~~~(1#8 <<< j.panel.val)
              fault := some ⟨r, j.panel, j.number, false⟩, counts := { c.counts with faults := more c.counts.faults } } }
          links := s.links.posting .blc [⟨.channelFault, n.val, [r.code, j.panel.val], s.lck.clock⟩] }
        (∀ cells, inside → unitContent s j = some cells → exec .unitGrant s = .next { s with
          blc := { s.blc with
            lastGranted := n
            channels := s.blc.channels.set n { c with phase := .writing }
            unit := some ⟨n, j.panel, ((List.range size).map fun k => cellAddress j (j.done + k)).zip cells⟩ } })
        ∧ (¬ inside → fails .outOfGrid)
        ∧ (inside → unitContent s j = none → fails .noSource))
      ∧ ∀ (j : Job) (s : State),
        let size := min 8 (j.count - j.done)
        (∀ c, j.source = .fill c → unitContent s j = some (List.replicate size c))
        ∧ (∀ r, j.source = .tile r → unitContent s j
          = if (s.tst.slots.get r.slot).state ≠ .free ∧ (s.tst.slots.get r.slot).fmt = r.fmt
            then some (((s.tst.slots.get r.slot).cells.drop j.done).take size) else none)
        ∧ (j.source = .copy → unitContent s j = some ((List.range size).map fun k =>
          let x := s.ports.get j.panel
          (if x.activeOne then x.grid1 else x.grid0).read (cellAddress j (j.done + k))))
        ∧ (∀ l, j.line = some l → j.done + size ≤ l.length → (∀ c, j.source ≠ .fill c) → (∀ r, j.source ≠ .tile r) →
          j.source ≠ .copy → unitContent s j = some ((l.drop j.done).take size))
        ∧ (∀ i, j.span = none → cellPlace j i = (j.row, j.column + i))
        ∧ (∀ i k, j.span = some k → cellPlace j i = (j.row + i / k, i % k))
        ∧ ∀ i, cellAddress j i = (cellPlace j i).1 * 64 + (cellPlace j i).2)

/-- UNIT_WRITTEN (R131, R137, R138, R139, R149): each of the unit's cells reads back from the shadow grid of its panel, every grid having
its canonical form before (GridsAndPortsStayOk), and no other cell of any grid has changed; the job, further by the unit, is complete,
cancelled or goes on; then the channel stops, yields, goes on with its job or chooses another. The model's own choices here: log 12. -/
def Obligations.UnitIsWritten : Prop :=
  ∀ (u : WritingUnit) (s : State), s.inReset = false → s.blc.unit = some u →
    let n := u.channel
    let c := s.blc.channels.get n
    let s' : State := { s with
      ports := s.ports.modify u.panel fun x =>
        if x.activeOne then { x with grid0 := x.grid0.writeAll u.cells } else { x with grid1 := x.grid1.writeAll u.cells }
      blc := { s.blc with unit := none } }
    (∀ p a, (p ≠ u.panel ∨ ∀ ac ∈ u.cells, ac.1 ≠ a) →
      (s'.ports.get p).grid0.read a = (s.ports.get p).grid0.read a
        ∧ (s'.ports.get p).grid1.read a = (s.ports.get p).grid1.read a)
    ∧ (GridsOk s → ∀ before a cell after, u.cells = before ++ (a, cell) :: after → (∀ ac ∈ after, ac.1 ≠ a) →
      let x := s'.ports.get u.panel
      (if x.activeOne then x.grid0 else x.grid1).read a = cell)
    ∧ (c.phase ≠ .writing → exec .unitWritten s = .next s')
    ∧ ∀ j, c.phase = .writing → c.current = some j →
      let job : Job := { j with done := j.done + u.cells.length }
      let over' := job.done = job.count
      let cut := ¬ over' ∧ c.cancelPending.getLsbD j.panel.val = true
      let d : Channel := { c with
        phase := .none
        current := if over' ∨ cut then none else some job
        cancelPending := c.cancelPending &&& ~~~(1#8 <<< u.panel.val)
        counts := { c.counts with
          units := more c.counts.units
          completed := if over' then more c.counts.completed else c.counts.completed
          abandoned := if cut then more c.counts.abandoned else c.counts.abandoned } }
      let t := fun d => s'.channelled n d
        (if over' then [.completed j.panel j.number] else if cut then [.abandoned j.panel j.number] else [])
        (if over' ∨ cut then unpinsOf j else [])
      let goes := ¬ over' ∧ ¬ cut
      (s.blc.run = false → exec .unitWritten s = .next (t { d with state := if hasWork d then .stopped else .idle }))
      ∧ (s.blc.run = true → goes → j.lane = .normal → c.announce ≠ [] →
        exec .unitWritten s = .next (choose n (t { d with aside := some job, current := none })))
      ∧ (s.blc.run = true → goes → (j.lane = .announce ∨ c.announce = []) →
        exec .unitWritten s = .next (t { d with phase := .requesting }))
      ∧ (s.blc.run = true → ¬ goes → exec .unitWritten s = .next (choose n (t d)))

/-! ## Panel ports -/

/-- FRAME_START (R116, R156, R157, R158, R162): pending values come into force, a new geometry muting and either reported; a LIVE port
that is not held and takes no new value swaps its grids where the build is READY, in one event with the CMP's part and its COPY, which is
issued as JOB_ISSUE issues it (JobIssueFollowsPrecedence); then a port that is not DARK begins a frame with the next number, blank where
it is not LIVE or muted. Nothing is swapped while a geometry or presence report of the port is on its way to the CMP (R116, R158), nor
while a purge report is whose showing has a line in the build that was looked up before the purge (R125), nor while a roster change is of
a pane with rows issued before it and rows issued after it (R107). The windows opened are those of the TRAILER panes with a cell after
clipping (R101, R116). A frame on the panel link: its header, then its cells in row order, of the active grid or blank (R156, R199).
Frames start while RESET_N is low too (R156). The model's own choices here: log 13, 19, 29. -/
def Obligations.FrameStarts : Prop :=
  (∀ (p : Fin 8) (s : State),
      let x := s.ports.get p
      let c := s.cmp.panels.get p
      let g := x.geometryPending.getD (x.columns, x.rows)
      let r := x.ratePending.getD x.rate
      let changed := g ≠ (x.columns, x.rows) ∨ r ≠ x.rate
      let y : Port := { x with
        columns := g.1, rows := g.2, rate := r, mute := x.mute || decide (g ≠ (x.columns, x.rows))
        geometryPending := none, ratePending := none }
      let begins := fun (z : Port) =>
        let f : Frame := ⟨(z.frameNumber + 1) % 65536, z.columns, z.rows, z.rate, z.mode != .live || z.mute, false⟩
        if z.mode = .dark then z
        else if z.phase = .segment then { z with frameNumber := f.number, frameWaiting := some f }
        else { z with frameNumber := f.number, frame := some f, phase := .grid }
      let reads := ¬ changed ∧ x.mode = .live ∧ x.swapHold = false
      let reported := (∃ columns rows rate, FromPort.geometry columns rows rate ∈ s.links.pnlCmp.get p)
        ∨ ∃ mode, FromPort.presence mode ∈ s.links.pnlCmp.get p
      let fresh := fun epoch => s.taken.get (blockIx .cmp) ≤ epoch
      let somewhere := fun (cond : Pane → PaneState → Prop) => ∃ j : Fin 8, ∃ z ∈ (viewLayout s p).panes[j.val]?,
        hasCells c z = true ∧ cond z (c.panes.get j)
      let condemned := ∃ m ∈ s.links.tstCmp, fresh m.epoch ∧ ∃ slot, m.body = .purged slot ∧ somewhere fun z y =>
        isListing z = true ∧ ∃ r ∈ y.issued, ∃ t ∈ r.tile, t.1 = slot ∧ t.2 < s.tst.purged.get slot
      let mixed := ∃ m ∈ s.links.schCmp, fresh m.epoch ∧ somewhere fun z y =>
        namesFilter m.body z = true ∧ ∃ a ∈ y.issued, ∃ b ∈ y.issued, a.roster ≠ b.roster
      (s.inReset = false → reads → ¬ reported → ¬ condemned → ¬ mixed → c.build = .ready →
        let t := issueOne p { s with
          ports := s.ports.set p { y with activeOne := !x.activeOne, mute := false }
          cmp := { s.cmp with
            panels := s.cmp.panels.set p { c with shown := some c.layout, build := .syncing, copyDue := true } }
          links := { s.links with
            cmpPnl := s.links.cmpPnl.modify p fun l =>
              l ++ [.windows (s.taken.get (blockIx .pnl)) (trailerWindows c (viewLayout s p))] } }
        exec (.frameStart p) s = .next { t with ports := t.ports.modify p begins })
      ∧ ((¬ reads ∨ reported ∨ condemned ∨ mixed ∨ c.build ≠ .ready) → exec (.frameStart p) s = .next { s with
        ports := s.ports.set p (begins y)
        links := { s.links with
          pnlCmp := s.links.pnlCmp.modify p fun l => l ++ if changed then [.geometry g.1 g.2 r] else [] } }))
  ∧ (∀ (c : CmpPanel) (l : Layout) (w : Fin 2), (trailerWindows c l).getLsbD w.val = true
      ↔ ∃ x ∈ l.panes, x.kind = .trailer w ∧ x.top < c.rows ∧ 0 < x.height ∧ x.left < c.columns ∧ 0 < x.width)
  ∧ ∀ (x : Port) (f : Frame) (sent : Nat), x.phase = .grid → x.frame = some f →
      ∃ cells : List Cell,
        x.sending sent = .sof :: (put2 f.number ++ put1 f.columns ++ put1 f.rows ++ put1 f.rate
          ++ (cells.map fun c => put2 c.glyph ++ put1 (c.ink * 16 + c.paper) ++ put1 ((if c.transparent then 1 else 0)
            + (if c.blink then 2 else 0) + (if c.underline then 4 else 0))).flatten).map .data
        ∧ cells.length = f.columns * f.rows
        ∧ ∀ row < f.rows, ∀ column < f.columns,
          let i := row * f.columns + column
          cells[i]? = some (if f.blank = true ∨ (f.blanked = true ∧ sent ≤ i) then Cell.blank
            else (if x.activeOne then x.grid1 else x.grid0).read (row * 64 + column))

/-- LINK_PHASE_IDLE (R157, R163, R165): a frame that waited behind the segment follows at once; else the buffer's segments whose gate is
closed are counted as gated, and the first whose gate is open is sent; so also while RESET_N is low. It does not come to that while the
window report that follows a swap is on its way to the port (R166), which is the model's choice (log 42). A segment on the panel link:
window, tag, number and data as received; between frames and segments IDLE groups, and nothing from a DARK port (R165, R199). PICTURE
(R163, R164, R165, R175): refused where it names no port or window; gated where the gate is closed; dropped, with the TIF's flag and
count, at a full buffer; sent at once on an idle link; else it waits in the buffer. The model's own choices here: log 13, 19, 21, 42. -/
def Obligations.SegmentsPassTheGate : Prop :=
  (∀ (p : Fin 8) (s : State),
      let x := s.ports.get p
      let shut := fun (g : Segment) => !(x.mode == .live && !x.mute && x.windows.getLsbD g.window.val)
      let z : Port := if x.phase = .grid then { x with frame := none } else { x with segment := none }
      let count := min 65535 (x.gated + (x.buffer.takeWhile shut).length)
      let looks := x.phase = .grid ∨ (x.phase = .segment ∧ x.frameWaiting = none)
      let waits := ∃ epoch w, ToPort.windows epoch w ∈ s.links.cmpPnl.get p ∧ s.taken.get (blockIx .pnl) ≤ epoch
      (x.phase = .idle → exec (.linkPhaseIdle p) s = .next s)
      ∧ (∀ f, x.phase = .segment → x.frameWaiting = some f → exec (.linkPhaseIdle p) s = .next { s with
        ports := s.ports.set p { x with segment := none, frame := some f, frameWaiting := none, phase := .grid } })
      ∧ (looks → waits → exec (.linkPhaseIdle p) s = .next s)
      ∧ (looks → ¬ waits → x.gated ≤ 65535 →
        (x.buffer.dropWhile shut = [] → exec (.linkPhaseIdle p) s
          = .next { s with ports := s.ports.set p { z with buffer := [], phase := .idle, gated := count } })
        ∧ ∀ g rest, x.buffer.dropWhile shut = g :: rest → exec (.linkPhaseIdle p) s = .next { s with
          ports := s.ports.set p { z with buffer := rest, segment := some g, phase := .segment, gated := count } }))
  ∧ (∀ (x : Port) (sent : Nat), (x.phase = .idle → x.sending sent = if x.mode = .dark then [] else [.idle])
      ∧ ∀ g, x.phase = .segment → x.segment = some g → x.sending sent
        = .sos :: (put1 g.window.val ++ put2 g.tag ++ put1 g.number ++ put2 g.data.length ++ g.data).map .data)
  ∧ (∀ (f : Picture) (clock : Nat) (rest : List TakenPicture) (s : State), s.inReset = false → s.tif.pictures = ⟨f, clock⟩ :: rest →
      let s' : State := { s with tif := { s.tif with pictures := rest } }
      (8 ≤ f.panel ∨ 2 ≤ f.window → exec .picture s = .next (refuse .tif 1 .badField f.panel s'))
      ∧ ∀ (p : Fin 8) (w : Fin 2), p.val = f.panel → w.val = f.window →
        let x := s.ports.get p
        let g : Segment := ⟨w, f.tag, f.segment, f.data⟩
        let open' := x.mode = .live ∧ x.mute = false ∧ x.windows.getLsbD w.val = true
        (¬ open' → exec .picture s = .next { s' with ports := s.ports.set p { x with gated := more x.gated } })
        ∧ (open' → 2 ≤ x.buffer.length → exec .picture s = .next { s' with
            ports := s.ports.set p { x with dropped := more x.dropped }
            tif := { s'.tif with
              flags := { s.tif.flags with pictureDrop := true }
              counts := { s.tif.counts with pictureDrops := more s.tif.counts.pictureDrops } } })
        ∧ (open' → x.buffer = [] → x.phase = .idle → exec .picture s
          = .next { s' with ports := s.ports.set p { x with segment := some g, phase := .segment } })
        ∧ (open' → x.buffer.length < 2 → x.phase ≠ .idle → exec .picture s
          = .next { s' with ports := s.ports.set p { x with buffer := x.buffer ++ [g] } }))

/-- PRESENCE_FALL and PRESENCE_RISE (R150 to R155): a fall of a LIVE panel mutes it, makes it WAITING, cuts its segments, blanks its
frame, posts PANEL_LOST and is reported; of a WAITING one clears its count; of a DARK one only moves the level. A rise only moves the
level. PANEL_BACK (R152, R155): on a seconds pulse a WAITING port with its line low counts 0, with its line high 1, and then becomes
LIVE, posting PANEL_BACK and reporting it; a port that is not WAITING ignores the pulse. OPEN_WINDOWS_REPORT and GRID_CLEARED_ANSWER at a
port: the windows are replaced and the swap hold ends, unless the port has taken a RESET since (R116, R166, R169). What becomes of a
frame behind a cut segment is log 19, when a port takes a pulse log 4, a report that crosses a RESET log 35. The model's own choices
here: log 4, 8, 19, 35. -/
def Obligations.PresenceAndAnswersAtAPort : Prop :=
  (∀ (p : Fin 8) (s : State),
      let x := s.ports.get p
      exec (.presenceRise p) s = .next { s with ports := s.ports.set p { x with level := true } }
      ∧ (s.inReset = false →
        (x.level = false → exec (.presenceFall p) s = .next s)
        ∧ (x.level = true → x.mode = .waiting → exec (.presenceFall p) s
          = .next { s with ports := s.ports.set p { x with level := false, presence := 0 } })
        ∧ (x.level = true → x.mode = .dark → exec (.presenceFall p) s
          = .next { s with ports := s.ports.set p { x with level := false } })
        ∧ (x.level = true → x.mode = .live →
          let held := x.buffer.length + if x.segment = none then 0 else 1
          let frame := (x.frame.or x.frameWaiting).map fun f => { f with blanked := true }
          exec (.presenceFall p) s = .next { s with
            ports := s.ports.set p { x with
              level := false, mode := .waiting, presence := 0, mute := true, buffer := [], segment := none
              gated := min 65535 (x.gated + held), frame := frame, frameWaiting := none
              phase := if frame = none then .idle else .grid }
            links := { s.links.posting .pnl [⟨.panelLost, p.val, [held, if x.mute then 1 else 0], s.lck.clock⟩] with
              pnlCmp := s.links.pnlCmp.modify p fun l => l ++ [.presence .waiting]
              pnlNtc := s.links.pnlNtc.modify p fun l => l ++ [.waiting] } })))
  ∧ (∀ (p : Fin 8) (s : State), s.inReset = false → 0 < s.links.pulsePnl.get p →
      let x := s.ports.get p
      let k : Links := { s.links with pulsePnl := s.links.pulsePnl.set p (s.links.pulsePnl.get p - 1) }
      (x.mode ≠ .waiting → exec (.panelBack p) s = .next { s with links := k })
      ∧ (x.mode = .waiting → x.level = false → exec (.panelBack p) s
        = .next { s with ports := s.ports.set p { x with presence := 0 }, links := k })
      ∧ (x.mode = .waiting → x.level = true → x.presence = 0 → exec (.panelBack p) s
        = .next { s with ports := s.ports.set p { x with presence := 1 }, links := k })
      ∧ (x.mode = .waiting → x.level = true → 1 ≤ x.presence → exec (.panelBack p) s = .next { s with
        ports := s.ports.set p { x with mode := .live, presence := 2 }
        links := { k.posting .pnl [⟨.panelBack, p.val, [x.columns, x.rows], s.lck.clock⟩] with
          pnlCmp := s.links.pnlCmp.modify p fun l => l ++ [.presence .live]
          pnlNtc := s.links.pnlNtc.modify p fun l => l ++ [.live] } }))
  ∧ (∀ (p : Fin 8) (epoch : Nat) (rest : List ToPort) (s : State), s.inReset = false →
      let k : Links := { s.links with cmpPnl := s.links.cmpPnl.set p rest }
      let old := epoch < s.taken.get (blockIx .pnl)
      (∀ w, s.links.cmpPnl.get p = .windows epoch w :: rest →
        (¬ old → exec (.openWindowsReport p) s
          = .next { s with ports := s.ports.set p { s.ports.get p with windows := w }, links := k })
        ∧ (old → exec (.openWindowsReport p) s = .next { s with links := k }))
      ∧ (s.links.cmpPnl.get p = .cleared epoch :: rest →
        (¬ old → exec (.gridClearedAnswer p) s
          = .next { s with ports := s.ports.set p { s.ports.get p with swapHold := false }, links := k })
        ∧ (old → exec (.gridClearedAnswer p) s = .next { s with links := k })))

/-! ## Settings, tables, queries -/

/-- SET of list_lead, countdown_window, board_lead and late_window (R21, R181): the value, clamped to its range, is stored; the entries
of the showings in LISTED to ENDED are computed anew; every showing in OPEN or BOARDING is purged in slot order; and a firing run begins.
SET of clock_format, arbitration and channels_run (R60, R105, R142, R143, R181): each takes 0 or 1 and is refused otherwise; the clock
format purges every showing and marks the CLOCK panes of form FOLLOW; channels_run off stops every channel not in writing, and on resumes
the STOPPED ones. The model's own choices here: log 7. -/
def Obligations.ScheduleAndChannelSettings : Prop :=
  (∀ (item key clock : Nat) (bytes : List Byte) (rest : List Taken) (s : State),
      Delivers .sch (.set item key bytes) clock rest s →
      let v := numAll bytes
      let stored := fun (c : Instr) (d : Sch) => ∃ list, Rescheduled d s.lck.clock list
        ∧ exec c s = .next (({ s.withFifo rest with
          sch := { d with list := list }
          links := { s.links with schTst := s.links.schTst ++ (onSaleSlots s).map (mail .sch s) } } : State).noting 14)
      (item = 1 → stored .setListLead { s.sch with listLead := max 600 (min 43200 v) })
      ∧ (item = 2 → stored .setCountdownWindow { s.sch with countdownWindow := max 60 (min 5940 v) })
      ∧ (item = 3 → stored .setBoardLead { s.sch with boardLead := min 3600 v })
      ∧ (item = 4 → stored .setLateWindow { s.sch with lateWindow := min 3600 v }))
  ∧ (∀ (item key clock : Nat) (bytes : List Byte) (rest : List Taken) (s : State),
      let v := numAll bytes
      let s' := s.withFifo rest
      (Delivers .cmp (.set item key bytes) clock rest s → item = 13 →
        (v ≤ 1 → exec .setClockFormat s = .next (({ s' with
          cmp := { s.cmp with twelveHour := v == 1 }
          links := { s.links with cmpTst := s.links.cmpTst ++ (filledSlots s).map (mail .cmp s) } } : State).marked
            fun _ _ x => isFollowClock x))
        ∧ (2 ≤ v → exec .setClockFormat s = .next (refuse .cmp 14 .badField 13 s')))
      ∧ (Delivers .blc (.set item key bytes) clock rest s →
        (item = 14 → v ≤ 1 → exec .setArbitration s = .next { s' with blc := { s.blc with rotating := v == 1 } })
        ∧ (item = 14 → 2 ≤ v → exec .setArbitration s = .next (refuse .blc 14 .badField 14 s'))
        ∧ (item = 15 → 2 ≤ v → exec .setChannelsRun s = .next (refuse .blc 14 .badField 15 s'))
        ∧ (item = 15 → v ≤ 1 → s.blc.run = (v == 1) → exec .setChannelsRun s = .next s')
        ∧ (item = 15 → v = 0 → s.blc.run = true → exec .setChannelsRun s = .next { s' with blc := { s.blc with
            run := false
            channels := Tab.make 4 fun n =>
              let c := s.blc.channels.get n
              if c.state = .active ∧ c.phase ≠ .writing then { c with state := .stopped, phase := .none } else c } })
        ∧ (item = 15 → v = 1 → s.blc.run = false → exec .setChannelsRun s = .next ((fins 4).foldl (fun t n =>
            let c := t.blc.channels.get n
            if c.state = .stopped then
              if c.current = none then choose n (t.channelled n { c with state := .active } [] [])
              else t.channelled n { c with state := .active, phase := .requesting } [] []
            else t) { s' with blc := { s.blc with run := true } }))))

/-- SET of the SLG's settings (R33, R35, R51, R60, R181): each is clamped to its range and stored; stale_limit is applied at once to
every showing in slot order; the settings of the figure recompute every showing; a step other than 5, 10, 25 or 50 is refused. -/
def Obligations.LedgerSettings : Prop :=
  ∀ (item key clock : Nat) (bytes : List Byte) (rest : List Taken) (s : State),
    Delivers .slg (.set item key bytes) clock rest s →
    let v := numAll bytes
    let s' := s.withFifo rest
    let store := fun g => ({ s' with slg := g } : State)
    let slots := (fins 96).filter fun i => inLedger s i
    (item = 5 → exec .setHoldPeriod s = .next (store { s.slg with holdPeriod := max 30 (min 1800 v) }))
    ∧ (item = 6 → exec .setSilenceLimit s = .next (store { s.slg with silenceLimit := max 5 (min 250 v) }))
    ∧ (item = 12 → exec .setSoldoutLifetime s = .next (store { s.slg with soldoutLifetime := max 5 (min 600 v) }))
    ∧ (item = 8 → exec .setExactLimit s
      = .next ((store { s.slg with exactLimit := max 1 (min 99 v) }).refiguredEach slots 14))
    ∧ (item = 10 → exec .setPlentyLimit s
      = .next ((store { s.slg with plentyLimit := max 1 (min 999 v) }).refiguredEach slots 14))
    ∧ (item = 11 → exec .setFastPct s
      = .next ((store { s.slg with fastPct := max 50 (min 100 v) }).refiguredEach slots 14))
    ∧ (item = 9 → (v = 5 ∨ v = 10 ∨ v = 25 ∨ v = 50) →
      exec .setStep s = .next ((store { s.slg with step := v }).refiguredEach slots 14))
    ∧ (item = 9 → v ≠ 5 → v ≠ 10 → v ≠ 25 → v ≠ 50 → exec .setStep s = .next (refuse .slg 14 .badField 9 s'))
    ∧ (item = 7 →
      let limit := max 10 (min 4000 v)
      exec .setStaleLimit s = .next (slots.foldl (fun t i =>
        let l := s.slg.ledger.get i
        let st := (s.sch.showings.get i).state
        if l.stale = false ∧ limit ≤ l.A ∧ onSale st = true then
          ({ t with
            slg := { t.slg with ledger := t.slg.ledger.modify i fun l => { l with stale := true } }
            links := t.links.posting .slg [⟨.stale, i.val, [showingId s i, l.A], s.lck.clock⟩] }
            : State).refigured st i 14
        else if l.stale = true ∧ l.A < limit then
          ({ t with slg := { t.slg with ledger := t.slg.ledger.modify i fun l => { l with stale := false } } }
            : State).refigured st i 14
        else t) (store { s.slg with staleLimit := limit })))

/-- The per-panel SETs of the NTC and the CMP (R85, R86, R105): ENABLE_MASK, CLOSED_MASK, NOTICE_HOLD, NOTICE_LAYOUT and BASE_LAYOUT; a
panel above 7 is BAD_ITEM, another field out of range BAD_FIELD, key the item. The per-panel SETs of the ports (R151, R160): enable off
makes a port DARK at once, its link silent, with its segments cut and a report if it was LIVE; enable on makes a DARK port WAITING; a
geometry or rate in range becomes pending; other values are refused. CHANNEL_CLEAR (R146): a channel above 3 is BAD_ITEM; one not in
FAULT is left alone; in FAULT the faulted job is reported cleared, every other job of its panel is ended as a cancel ends it, the record
is marked, and the channel chooses, or with channels_run off is STOPPED or IDLE. The model's own choices here: log 10, 17, 36. -/
def Obligations.PanelSettings : Prop :=
  (∀ (item key clock : Nat) (bytes : List Byte) (rest : List Taken) (s : State),
      let v := numAll bytes
      let s' := s.withFifo rest
      (Delivers .ntc (.set item key bytes) clock rest s →
        let refused := fun c r => exec c s = .next (refuse .ntc 14 r item s')
        (8 ≤ key → (item = 16 → refused .setEnableMask .badItem) ∧ (item = 17 → refused .setClosedMask .badItem)
          ∧ (item = 18 → refused .setNoticeHold .badItem))
        ∧ (2048 ≤ key → item = 19 → refused .setNoticeLayout .badItem)
        ∧ ∀ p : Fin 8,
          let x := s.ntc.panels.get p
          let store := fun y => ({ s' with ntc := { s.ntc with panels := s.ntc.panels.set p y } } : State)
          (p.val = key →
            (item = 16 → (v < 4096 → exec .setEnableMask s = .next (evalTakes p (store { x with enableMask := BitVec.ofNat 12 v })))
              ∧ (4096 ≤ v → refused .setEnableMask .badField))
            ∧ (item = 17 → (v < 4096 → exec .setClosedMask s = .next (evalTakes p (store { x with closedMask := BitVec.ofNat 12 v })))
              ∧ (4096 ≤ v → refused .setClosedMask .badField))
            ∧ (item = 18 → (v ≤ 1 → exec .setNoticeHold s = .next (evalTakes p (store { x with hold := v == 1 })))
              ∧ (2 ≤ v → refused .setNoticeHold .badField)))
          ∧ (p.val = key / 256 → item = 19 →
            (12 ≤ key % 256 ∨ 16 ≤ v → refused .setNoticeLayout .badField)
            ∧ ∀ (c : Fin 12) (l : Fin 16), c.val = key % 256 → l.val = v →
              let y := { x with map := x.map.set c l }
              (∀ e n, x.view = some e → s.ntc.entries.get e = some n → n.cls = c → exec .setNoticeLayout s = .next { store y with
                links := { s.links with ntcCmp := s.links.ntcCmp
                  ++ [mail .ntc s (.view ⟨p, some e, some c, some l, Tab.fill 8 0⟩)] } })
              ∧ ((∀ e n, x.view = some e → s.ntc.entries.get e = some n → n.cls ≠ c) →
                exec .setNoticeLayout s = .next (store y))))
      ∧ (Delivers .cmp (.set item key bytes) clock rest s → item = 20 →
        (8 ≤ key → exec .setBaseLayout s = .next (refuse .cmp 14 .badItem 20 s'))
        ∧ ∀ p : Fin 8, p.val = key →
          (16 ≤ v → exec .setBaseLayout s = .next (refuse .cmp 14 .badField 20 s'))
          ∧ ∀ l : Fin 16, l.val = v →
            let t : State := { s' with cmp := { s.cmp with
              panels := s.cmp.panels.set p { s.cmp.panels.get p with baseLayout := l } } }
            exec .setBaseLayout s = .next
              (if (s.cmp.panels.get p).view = none then applyView ⟨p, none, none, none, Tab.fill 8 0⟩ t else t)))
  ∧ (∀ (item key clock : Nat) (bytes : List Byte) (rest : List Taken) (s : State),
      Delivers .pnl (.set item key bytes) clock rest s →
      let v := numAll bytes
      let s' := s.withFifo rest
      let refused := fun c r => exec c s = .next (refuse .pnl 14 r item s')
      (8 ≤ key → (item = 21 → refused .setPanelEnable .badItem) ∧ (item = 22 → refused .setPanelGeometry .badItem)
        ∧ (item = 23 → refused .setPanelRate .badItem))
      ∧ ∀ p : Fin 8, p.val = key →
        let x := s.ports.get p
        let store := fun y => ({ s' with ports := s.ports.set p y } : State)
        (item = 21 →
          (2 ≤ v → refused .setPanelEnable .badField)
          ∧ (v = 1 → exec .setPanelEnable s = .next (store (if x.mode = .dark
            then { x with enable := true, mode := .waiting, presence := 0 } else { x with enable := true })))
          ∧ (v = 0 → x.mode = .dark → exec .setPanelEnable s = .next (store { x with enable := false }))
          ∧ (v = 0 → x.mode = .waiting → exec .setPanelEnable s = .next (store { x with
            enable := false, mode := .dark, presence := 0, frame := none, frameWaiting := none, phase := .idle }))
          ∧ (v = 0 → x.mode = .live → exec .setPanelEnable s = .next { store { x with
              enable := false, mode := .dark, presence := 0, mute := true, buffer := [], segment := none
              gated := min 65535 (x.gated + (x.buffer.length + if x.segment = none then 0 else 1))
              frame := none, frameWaiting := none, phase := .idle } with
            links := { s.links with
              pnlCmp := s.links.pnlCmp.modify p fun l => l ++ [.presence .dark]
              pnlNtc := s.links.pnlNtc.modify p fun l => l ++ [.dark] } }))
        ∧ (item = 22 →
          let ok := 16 ≤ v / 256 ∧ v / 256 ≤ 64 ∧ 9 ≤ v % 256 ∧ v % 256 ≤ 36
          (ok → exec .setPanelGeometry s = .next (store { x with geometryPending := some (v / 256, v % 256) }))
          ∧ (¬ ok → refused .setPanelGeometry .badField))
        ∧ (item = 23 →
          (v = 50 ∨ v = 60 → exec .setPanelRate s = .next (store { x with ratePending := some v }))
          ∧ (v ≠ 50 → v ≠ 60 → refused .setPanelRate .badField)))
  ∧ (∀ (key clock : Nat) (bytes : List Byte) (rest : List Taken) (s : State), Delivers .blc (.set 24 key bytes) clock rest s →
      let s' := s.withFifo rest
      (4 ≤ key → exec .setChannelClear s = .next (refuse .blc 14 .badItem 24 s'))
      ∧ ∀ n : Fin 4, n.val = key →
        let c := s.blc.channels.get n
        (c.state ≠ .fault → exec .setChannelClear s = .next s')
        ∧ ∀ j, c.state = .fault → c.current = some j →
          let its := fun (k : Job) => k.panel == j.panel
          let aside := (c.aside.filter its).toList
          let gone := c.announce.filter its ++ c.normal.filter its
          let d : Channel := { c with
            announce := c.announce.filter fun k => !its k
            normal := c.normal.filter fun k => !its k
            aside := c.aside.filter fun k => !its k
            current := none
            fault := c.fault.map fun f => { f with cleared := true }
            counts := { c.counts with
              cleared := more c.counts.cleared
              abandoned := aside.foldl (fun k _ => more k) c.counts.abandoned } }
          let t := fun d => s'.channelled n d
            ([.cleared j.panel j.number] ++ discards .announce (c.announce.filter its)
              ++ discards .normal (c.normal.filter its) ++ aside.map fun j => .abandoned j.panel j.number)
            ((j :: gone ++ aside).flatMap unpinsOf)
          (s.blc.run = true → exec .setChannelClear s = .next (choose n (t { d with state := .active })))
          ∧ (s.blc.run = false → exec .setChannelClear s
            = .next (t { d with state := if hasWork d then .stopped else .idle, phase := .none })))

/-- Which bodies of a TABLE packet are in range (R8, R64, R66, R67, R100, R104, R198), and the entry that each becomes: the values sent,
the page dwell of a LISTING pane clamped to 4 to 60, a hint of 255 none, and weight 1 of a style field's flags ignored (R100, R198, 10.4,
10.5). TABLE loads (R8, R25, R60, R64, R66, R67, R69, R100, R104, R106): an index out of range is BAD_ITEM, a body out of range
BAD_FIELD, a layout, filter, style or phrase in use on a LIVE panel while a channel is ACTIVE is IN_USE; else the entry is stored, with
the purges, marks and repaints of its item. Which panes use a phrase (R106). The option bytes that a pane's kind does not use are
ignored, which is the model's reading (log 24). A loaded layout's panels are repainted in panel order, the model's choice (log 43). The
model's own choices here: log 24, 43. -/
def Obligations.TablesAreLoaded : Prop :=
  ((∀ (long short : List Nat) (hint : Nat), (titleOf long short hint).isSome = true
        ↔ long.length ≤ 40 ∧ short.length ≤ 16 ∧ (∀ g ∈ long ++ short, g ≤ 1023) ∧ (hint < 2 ∨ hint = 255))
      ∧ (∀ (long short : List Nat) (hint : Nat) (t : Title), titleOf long short hint = some t →
        t.long = long ∧ t.short = short ∧ (hint = 255 → t.hint = none) ∧ (hint < 2 → t.hint.map Fin.val = some hint))
      ∧ (∀ (b : RawCell) (panes : List RawPane), (layoutOf b panes).isSome = true
        ↔ b.glyph ≤ 1023 ∧ b.flags < 8 ∧ panes.length ≤ 8 ∧ ∀ x ∈ panes, x.top ≤ 35 ∧ x.left ≤ 63 ∧ 1 ≤ x.height ∧ x.height ≤ 36
          ∧ 1 ≤ x.width ∧ x.width ≤ 64
          ∧ ((x.kind = 0 ∧ x.o0 < 8 ∧ x.o1 < 4) ∨ (x.kind = 1 ∧ x.o0 < 2) ∨ (x.kind = 2 ∧ x.o0 < 16 ∧ x.o1 < 16)
            ∨ (x.kind = 3 ∧ x.o0 < 3 ∧ x.o1 < 16 ∧ x.o2 < 16) ∨ (x.kind = 4 ∧ x.o0 < 16 ∧ x.o1 < 16)
            ∨ (x.kind = 5 ∧ x.o0 < 48 ∧ x.o1 < 16 ∧ x.o2 < 16)))
      ∧ (∀ (b : RawCell) (panes : List RawPane) (l : Layout), layoutOf b panes = some l →
        l.background = ⟨b.glyph, b.inkPaper / 16, b.inkPaper % 16, b.flags.testBit 0, b.flags.testBit 1, b.flags.testBit 2⟩
        ∧ l.panes.length = panes.length
        ∧ ∀ (i : Nat) (x : RawPane) (y : Pane), panes[i]? = some x → l.panes[i]? = some y →
          y.top = x.top ∧ y.left = x.left ∧ y.height = x.height ∧ y.width = x.width
          ∧ match y.kind with
            | .listing f st dwell => x.kind = 0 ∧ f.val = x.o0 ∧ st.val = x.o1 ∧ dwell = max 4 (min 60 x.o2)
            | .trailer w => x.kind = 1 ∧ w.val = x.o0
            | .deskStrip ink paper => x.kind = 2 ∧ ink = x.o0 ∧ paper = x.o1
            | .clock form ink paper => x.kind = 3 ∧ form.code = x.o0 ∧ ink = x.o1 ∧ paper = x.o2
            | .noticeText ink paper => x.kind = 4 ∧ ink = x.o0 ∧ paper = x.o1
            | .text p ink paper => x.kind = 5 ∧ p.val = x.o0 ∧ ink = x.o1 ∧ paper = x.o2)
      ∧ (∀ states auditoriums lines, (filterOf states auditoriums lines).isSome = true
        ↔ states < 16 ∧ auditoriums % 2 = 0 ∧ auditoriums < 2 ^ 25 ∧ 1 ≤ lines ∧ lines ≤ 96)
      ∧ (∀ states auditoriums lines f, filterOf states auditoriums lines = some f →
        f.states.toNat = states ∧ f.auditoriums.toNat = auditoriums ∧ f.maxLines = lines)
      ∧ (∀ (ink paper : Nat) (fields : List RawField), (styleOf ink paper fields).isSome = true
        ↔ ink < 16 ∧ paper < 16 ∧ fields.length ≤ 10 ∧ ∀ f ∈ fields, f.kind < 10 ∧ f.start ≤ 63 ∧ 1 ≤ f.width ∧ f.width ≤ 64
          ∧ f.ink < 16 ∧ f.paper < 16 ∧ f.alignment < 3 ∧ f.flags < 8)
      ∧ (∀ (ink paper : Nat) (fields : List RawField) (st : Style), styleOf ink paper fields = some st →
        st.baseInk = ink ∧ st.basePaper = paper ∧ st.fields.length = fields.length
        ∧ ∀ (i : Nat) (x : RawField) (y : StyleField), fields[i]? = some x → st.fields[i]? = some y →
          y.kind.code = x.kind ∧ y.start = x.start ∧ y.width = x.width ∧ y.ink = x.ink ∧ y.paper = x.paper
          ∧ y.alignment.code = x.alignment ∧ y.blink = x.flags.testBit 1 ∧ y.underline = x.flags.testBit 2)
      ∧ (∀ lines : List (List (Nat × Nat)), (templateOf lines).isSome = true
        ↔ lines.length ≤ 3 ∧ ∀ l ∈ lines, l.length ≤ 6 ∧ ∀ x ∈ l, (x.1 = 1 ∧ x.2 < 48) ∨ (x.1 = 2 ∧ x.2 < 10))
      ∧ ∀ (lines : List (List (Nat × Nat))) (ls : List (List TemplateItem)), templateOf lines = some ls →
        ls.map (fun l => l.map fun x => match x with
          | .phrase p => (1, p.val)
          | .field k => (2, k.code)) = lines)
  ∧ (∀ (item index clock : Nat) (bytes : List Byte) (rest : List Taken) (s : State),
      let s' := s.withFifo rest
      let used := fun (cond : Fin 8 → Prop) => (∃ n, (s.blc.channels.get n).state = .active)
        ∧ ∃ p, (s.ports.get p).mode = .live ∧ cond p
      let store := fun (d : Cmp) => ({ s' with cmp := d } : State)
      let purged := fun (d : Cmp) => ({ s' with
        cmp := d, links := { s.links with cmpTst := s.links.cmpTst ++ (filledSlots s).map (mail .cmp s) } } : State)
      (Delivers .sch (.table item index bytes) clock rest s → ∀ long short hint, item = 32 →
        readBody 32 bytes = some (.title long short hint) →
        let refused := fun r => exec .tableTitle s = .next (refuse .sch 15 r index s')
        (64 ≤ index → refused .badItem)
        ∧ ∀ i : Fin 64, i.val = index →
          (titleOf long short hint = none → refused .badField)
          ∧ ∀ t, titleOf long short hint = some t → exec .tableTitle s = .next { s' with
            sch := { s.sch with titles := s.sch.titles.set i t }
            links := { s.links with schTst := s.links.schTst
              ++ ((filledSlots s).filter fun j => (s.sch.showings.get j).title == some i).map (mail .sch s) } })
      ∧ (Delivers .cmp (.table item index bytes) clock rest s →
        let refused := fun c r => exec c s = .next (refuse .cmp 15 r index s')
        (∀ b panes, item = 33 → readBody 33 bytes = some (.layout b panes) →
          (16 ≤ index → refused .tableLayout .badItem)
          ∧ ∀ i : Fin 16, i.val = index →
            (layoutOf b panes = none → refused .tableLayout .badField)
            ∧ ∀ l, layoutOf b panes = some l →
              let busy := used fun p => (s.cmp.panels.get p).layout = i
              (busy → refused .tableLayout .inUse)
              ∧ (¬ busy → exec .tableLayout s = .next ((fins 8).foldl
                (fun t p => if (s.cmp.panels.get p).layout = i then repaintAt p (Tab.fill 8 0) t else t)
                (store { s.cmp with layouts := s.cmp.layouts.set i l }))))
        ∧ (∀ a b m, item = 34 → readBody 34 bytes = some (.filter a b m) →
          (8 ≤ index → refused .tableFilter .badItem)
          ∧ ∀ i : Fin 8, i.val = index →
            (filterOf a b m = none → refused .tableFilter .badField)
            ∧ ∀ f, filterOf a b m = some f →
              let busy := used fun p => ∃ x ∈ (viewLayout s p).panes, namesFilter i x = true
              (busy → refused .tableFilter .inUse)
              ∧ (¬ busy → exec .tableFilter s = .next (({ s' with
                cmp := { s.cmp with filters := s.cmp.filters.set i f }
                links := { s.links with cmpSch := s.links.cmpSch ++ [i] } } : State).marked fun _ _ x => namesFilter i x)))
        ∧ (∀ ink paper fields, item = 35 → readBody 35 bytes = some (.style ink paper fields) →
          (4 ≤ index → refused .tableStyle .badItem)
          ∧ ∀ i : Fin 4, i.val = index →
            (styleOf ink paper fields = none → refused .tableStyle .badField)
            ∧ ∀ st, styleOf ink paper fields = some st →
              let busy := used fun p => ∃ x ∈ (viewLayout s p).panes, namesStyle i x = true
              (busy → refused .tableStyle .inUse)
              ∧ (¬ busy → exec .tableStyle s
                = .next ((purged { s.cmp with styles := s.cmp.styles.set i st }).marked fun _ _ x => namesStyle i x)))
        ∧ (∀ glyphs, item = 36 → readBody 36 bytes = some (.phrase glyphs) →
          (48 ≤ index → refused .tablePhrase .badItem)
          ∧ ∀ i : Fin 48, i.val = index →
            let ok := glyphs.length ≤ 24 ∧ ∀ g ∈ glyphs, g ≤ 1023
            let busy := used fun p => ∃ x ∈ (viewLayout s p).panes, usesPhrase i s p x = true
            (¬ ok → refused .tablePhrase .badField)
            ∧ (ok → busy → refused .tablePhrase .inUse)
            ∧ (ok → ¬ busy → exec .tablePhrase s
              = .next ((purged { s.cmp with phrases := s.cmp.phrases.set i glyphs }).marked fun p _ x => usesPhrase i s p x)))
        ∧ (∀ lines, item = 37 → readBody 37 bytes = some (.template lines) →
          (8 ≤ index → refused .tableTemplate .badItem)
          ∧ ∀ i : Fin 8, i.val = index →
            (templateOf lines = none → refused .tableTemplate .badField)
            ∧ ∀ ls, templateOf lines = some ls → exec .tableTemplate s
              = .next ((store { s.cmp with templates := s.cmp.templates.set i ls }).marked
                fun p _ x => isNoticeText x && viewTemplate i s p))
        ∧ ∀ b o, item = 38 → readBody 38 bytes = some (.classMap b o) →
          (12 ≤ index → refused .tableClassMap .badItem)
          ∧ ∀ i : Fin 12, i.val = index →
            ((8 ≤ b ∧ b ≠ 255) ∨ (8 ≤ o ∧ o ≠ 255) → refused .tableClassMap .badField)
            ∧ ((b < 8 ∨ b = 255) → (o < 8 ∨ o = 255) → exec .tableClassMap s
              = .next (store { s.cmp with classMap := s.cmp.classMap.set i ⟨asFin 8 b, asFin 8 o⟩ }))))
  ∧ ∀ (i : Fin 48) (p : Fin 8) (x : Pane) (s : State), usesPhrase i s p x = true
      ↔ (∃ f st dwell, x.kind = .listing f st dwell) ∨ (∃ ink paper, x.kind = .deskStrip ink paper)
        ∨ (∃ form ink paper, x.kind = .clock form ink paper) ∨ (∃ ink paper, x.kind = .text i ink paper)
        ∨ (∃ ink paper, x.kind = .noticeText ink paper) ∧ ∃ e : Fin 24, (s.cmp.panels.get p).view = some e ∧ 18 ≤ e.val

/-- Every QUERY row of the table (R184): once the TIF has answered a read of its own items, a QUERY finds the reply slot EMPTY, which is
then RESERVED with the read gone to the item's owner, or is refused BUSY, key 65,535; a QUERY of no item is refused BAD_ITEM, key its
code. QUERY_READ_ANSWER (R184, R195): when the owner is ready its values make the slot FULL; its refusal empties the slot and posts an
event; an answer to an emptied slot is discarded; until the owner is ready nothing happens. What every item answers, field by field (R52,
R98, R117, R128, R147, R168, R185, R199); an id that no slot holds; an index out of range. The forms of a reply that R199 leaves open are
the model's (log 15, 23), and so are the class of a SETTING (log 17), the options of a pane (log 24) and the id of a hold's emptied slot
(log 31); the key of a refused SETTING is a free value (log 16). The model's own choices here: log 15, 16, 17, 23, 24, 31. -/
def Obligations.QueriesAreAnswered : Prop :=
  ((∀ q ∈ queryRows, ∀ (key : List Byte) (clock : Nat) (rest : List Taken) (s : State), Delivers .tif (.query q.2 key) clock rest s →
        (s.tif.slot = .empty → exec q.1 s
          = .next { s with tif := { s.tif with fifo := rest, slot := .reserved, read := some ⟨q.2, key⟩ } })
        ∧ (s.tif.slot ≠ .empty → exec q.1 s = .next (refuse .tif 16 .busy 65535 (s.withFifo rest))))
      ∧ (∀ (item : Nat) (key : List Byte) (clock : Nat) (rest : List Taken) (s : State), Delivers .tif (.query item key) clock rest s →
        (∀ q ∈ queryRows, item ≠ q.2) →
        (s.tif.slot = .empty → exec .queryUnknownItem s = .next (refuse .tif 16 .badItem item (s.withFifo rest)))
        ∧ (s.tif.slot ≠ .empty → exec .queryUnknownItem s = .next (refuse .tif 16 .busy 65535 (s.withFifo rest))))
      ∧ ∀ s : State, ready .tif s = true ↔ ∀ r, s.tif.read = some r → readOwner r ≠ .tif)
  ∧ (∀ (r : Read) (s : State), s.inReset = false → s.tif.read = some r →
      let answered := fun slot => ({ s with tif := { s.tif with read := none, slot := slot } } : State)
      (blockReady (readOwner r) s = false → exec .queryReadAnswer s = .next s)
      ∧ (blockReady (readOwner r) s = true →
        (s.tif.slot = .empty → exec .queryReadAnswer s = .next (answered .empty))
        ∧ (s.tif.slot ≠ .empty →
          (∀ body, answerOf s r = .values body → exec .queryReadAnswer s = .next (answered (.full ⟨r.item, r.key, body⟩)))
          ∧ ∀ why, answerOf s r = .refused why → exec .queryReadAnswer s
            = .next (refuse .tif 16 why (refusalKey r) (answered .empty)))))
  ∧ (∀ s : State,
      let tells := fun item key body => answerOf s ⟨item, key⟩ = .values body
      let flag := fun (b : Bool) => put1 (if b then 1 else 0)
      let opt := fun (n : Option Nat) => put2 (n.getD 65535)
      let id := fun slot => put2 ((s.sch.showings.get slot).id.getD 0)
      let number := fun (ok : Tile → Bool) => put2 ((fins 96).filter fun i => ok (s.tst.slots.get i)).length
      let t := s.tif
      tells 48 [] (put2 77 ++ put2 816 ++ put2 1 ++ put2 t.position)
      ∧ tells 49 [] (flag t.flags.checkFail ++ flag t.flags.formatFail ++ flag t.flags.badKind ++ flag t.flags.ingressOverrun
          ++ flag t.flags.pictureDrop ++ flag t.flags.reportDrop ++ put2 t.counts.received ++ put2 t.counts.taken
          ++ put2 t.counts.forwarded ++ put2 t.counts.checkFailures ++ put2 t.counts.formatFailures ++ put2 t.counts.badKinds
          ++ put2 t.counts.overruns ++ put2 t.counts.pictureDrops ++ put2 t.dropped ++ put2 t.events.length
          ++ put1 (match t.slot with | .empty => 0 | .reserved => 1 | .full _ => 2) ++ put2 t.fifo.length ++ put2 t.position)
      ∧ tells 50 [] (put3 s.lck.clock ++ flag s.lck.held)
      ∧ (∀ k slot, k < 65536 → slotOf s k = some slot →
          let sh := s.sch.showings.get slot
          tells 51 (put2 k) (put2 slot.val ++ put1 sh.state.code ++ opt sh.id ++ opt sh.auditorium ++ opt (sh.title.map Fin.val)
            ++ put3 sh.start ++ put2 sh.runtime ++ put1 sh.format.code ++ put2 sh.rating.val ++ flag sh.subtitled
            ++ put2 sh.boardLead ++ opt (sh.boardingClass.map Fin.val) ++ opt (sh.soldoutClass.map Fin.val)
            ++ put1 sh.noticePanels.toNat ++ opt (sh.autoEntry.map Fin.val)
            ++ ((s.sch.list.find? fun e => e.slot == slot).map fun e => put1 e.kind.code ++ put3 e.due).getD (put1 255 ++ put3 0))
          ∧ answerOf s ⟨53, put2 k⟩ = answerLedger s slot)
      ∧ (∀ k, k < 65536 → slotOf s k = none →
          answerOf s ⟨51, put2 k⟩ = .refused .unknownShowing ∧ answerOf s ⟨53, put2 k⟩ = .refused .unknownShowing)
      ∧ (∀ slot, let l := s.slg.ledger.get slot
          (awaitsTally s slot = true → answerLedger s slot = .refused .unknownShowing)
          ∧ (awaitsTally s slot = false → ∀ f, l.key = some f → answerLedger s slot = .values
            (put2 l.C ++ put2 l.S ++ put2 l.B ++ put2 l.P ++ put2 l.H ++ put2 l.A ++ put3 l.stamp ++ flag l.stale ++ flag l.oversold
              ++ flag l.soldout ++ put1 f.figure.code ++ put2 f.shown ++ flag f.badge)))
      ∧ (∀ i : Fin 64, let x := s.sch.titles.get i
          tells 32 (put2 i.val) (putRun x.long ++ putRun x.short ++ opt (x.hint.map Fin.val)))
      ∧ (∀ i : Fin 8, let l := s.sch.rosters.get i
          tells 52 (put2 i.val) (put1 l.length ++ (l.map id).flatten))
      ∧ (∀ (d : Fin 16) (tag : Nat), tag < 256 →
          (findHold s.slg d tag = none → tells 54 (put1 d.val ++ put1 tag) (put1 0))
          ∧ ∀ i h, findHold s.slg d tag = some i → s.slg.holds.get i = some h →
            tells 54 (put1 d.val ++ put1 tag) (put1 1 ++ put2 (showingId s h.slot) ++ put2 h.seats ++ put2 h.remaining))
      ∧ (∀ d : Fin 16, let k := s.slg.desks.get d
          tells 55 (put2 d.val) (put1 k.state.code ++ put2 k.gap ++ put2 k.lastGap ++ flag k.measuring ++ put2 k.lateReleases ++ put2 k.owned))
      ∧ (∀ e : Fin 24, (s.ntc.entries.get e = none → tells 56 (put2 e.val) (put1 0))
          ∧ ∀ n, s.ntc.entries.get e = some n → tells 56 (put2 e.val) (put1 1 ++ put2 n.cls.val ++ opt (n.origin.map Fin.val)
            ++ put1 n.panels.toNat ++ put2 n.lifetime ++ opt (n.linked.map Fin.val) ++ put2 (s.ntc.sequence.idxOf e + 1)
            ++ (match n.content with | .lines l => put2 l.length | .template i => opt (i.map Fin.val))))
      ∧ (∀ p : Fin 8, let x := s.ntc.panels.get p
          tells 57 (put2 p.val) (opt (x.view.map Fin.val)
            ++ (put1 x.stack.length ++ (x.stack.map fun c => opt (c.view.map Fin.val)).flatten)
            ++ (put1 x.waiting.length ++ (x.waiting.map fun w => put2 w.entry.val ++ flag w.forced).flatten)
            ++ put2 x.enableMask.toNat ++ put2 x.closedMask.toNat ++ flag x.hold ++ flag s.ntc.lobbyOpen)
          ∧ tells 58 (put2 p.val) (((fins 12).map fun c => put2 (x.map.get c).val).flatten))
      ∧ (∀ i : Fin 16, let l := s.cmp.layouts.get i
          tells 33 (put2 i.val) (putCell l.background ++ (put1 l.panes.length ++ (l.panes.map fun x => (match x.kind with
              | .listing _ _ _ => put1 0 | .trailer _ => put1 1 | .deskStrip _ _ => put1 2 | .clock _ _ _ => put1 3
              | .noticeText _ _ => put1 4 | .text _ _ _ => put1 5)
            ++ put2 x.top ++ put2 x.left ++ put2 x.height ++ put2 x.width ++ (match x.kind with
              | .listing f st d => put2 f.val ++ put2 st.val ++ put2 d
              | .trailer w => put2 w.val
              | .deskStrip a b | .noticeText a b => put2 a ++ put2 b
              | .clock f a b => put1 f.code ++ put2 a ++ put2 b
              | .text p a b => put2 p.val ++ put2 a ++ put2 b)).flatten)))
      ∧ (∀ i : Fin 8, let f := s.cmp.filters.get i
          tells 34 (put2 i.val) (put1 f.states.toNat ++ put2 (f.auditoriums.toNat / 65536) ++ put2 f.auditoriums.toNat ++ put2 f.maxLines)
          ∧ tells 20 (put2 i.val) (put2 (s.cmp.panels.get i).baseLayout.val))
      ∧ (∀ i : Fin 4, let x := s.cmp.styles.get i
          tells 35 (put2 i.val) (put2 x.baseInk ++ put2 x.basePaper ++ (put1 x.fields.length ++ (x.fields.map fun f => put1 f.kind.code
            ++ put2 f.start ++ put2 f.width ++ put2 f.ink ++ put2 f.paper ++ put1 f.alignment.code ++ flag f.blink
            ++ flag f.underline).flatten)))
      ∧ (∀ i : Fin 48, tells 36 (put2 i.val) (putRun (s.cmp.phrases.get i)))
      ∧ (∀ i : Fin 8, let l := s.cmp.templates.get i
          tells 37 (put2 i.val) (put1 l.length ++ (l.map fun line => put1 line.length ++ (line.map fun x => match x with
            | .phrase p => put1 1 ++ put2 p.val
            | .field k => put1 2 ++ put1 k.code).flatten).flatten))
      ∧ (∀ i : Fin 12, let x := s.cmp.classMap.get i
          tells 38 (put2 i.val) (opt (x.boarding.map Fin.val) ++ opt (x.soldout.map Fin.val)))
      ∧ (∀ p : Fin 8, let c := s.cmp.panels.get p
          let panes := (viewLayout s p).panes.zip c.panes.list
          tells 59 (put2 p.val) (put1 c.build.code ++ opt (c.view.map Fin.val) ++ opt (c.cls.map Fin.val) ++ put2 c.layout.val
            ++ put1 c.lane.code ++ flag c.backgroundDue ++ (put1 panes.length ++ (panes.map fun x => flag x.2.dirty ++ put2 x.2.issueRow
              ++ put2 x.2.cursor ++ put2 (pagesOf s c x.1) ++ put2 x.2.dwell).flatten) ++ put2 c.outstanding.length
            ++ put1 (match c.stall with | none => 0 | some (.queueFull _) => 1 | some .noTile => 2) ++ opt (c.shown.map Fin.val)))
      ∧ (∀ i : Fin 96, let x := s.tst.slots.get i
          (x.state = .free → tells 60 (put2 i.val) (put1 0))
          ∧ ∀ k, x.key = some k →
            let body := id k.1 ++ put2 k.2.val ++ put2 x.pins ++ put2 x.fmt
            (x.state = .valid → tells 60 (put2 i.val) (put1 1 ++ body ++ put2 (s.tst.useList.idxOf i + 1)))
            ∧ (x.state = .purging → tells 60 (put2 i.val) (put1 2 ++ body)))
      ∧ tells 61 [] (number (fun x => x.state == .free) ++ number (fun x => x.state == .valid) ++ number (fun x => x.state == .purging)
            ++ number (fun x => x.pins != 0) ++ put2 s.tst.hits ++ put2 s.tst.formats ++ put2 s.tst.replacements ++ put2 s.tst.noTile
            ++ put2 s.tst.purges)
      ∧ tells 62 [] (put1 (if s.blc.run then 0 else if ((fins 4).any fun n => (s.blc.channels.get n).state == .active) then 1 else 2)
          ++ flag s.blc.run ++ flag s.blc.rotating ++ put2 s.blc.lastGranted.val
          ++ ((fins 4).map fun n => put1 (s.blc.channels.get n).state.code).flatten)
      ∧ (∀ n : Fin 4, let c := s.blc.channels.get n
          let queue := fun (l : List Job) =>
            put1 l.length ++ (l.map fun j => put2 j.panel.val ++ put2 j.number ++ put1 j.source.code).flatten
          let started := fun (o : Option Job) => (o.map fun j => put1 1 ++ put2 j.panel.val ++ put2 j.number ++ put1 j.lane.code
            ++ put1 j.source.code ++ put2 j.count ++ put2 j.done).getD (put1 0)
          tells 63 (put2 n.val) (put1 c.state.code ++ put1 c.phase.code ++ put1 c.cancelPending.toNat ++ queue c.normal ++ queue c.announce
            ++ started c.current ++ started c.aside
            ++ (c.fault.map fun f => put1 1 ++ put1 (match f.reason with | .outOfGrid => 0 | .noSource => 1) ++ put2 f.panel.val
              ++ put2 f.number ++ flag f.cleared).getD (put1 0)
            ++ put2 c.counts.units ++ put2 c.counts.completed ++ put2 c.counts.discarded ++ put2 c.counts.abandoned
            ++ put2 c.counts.cleared ++ put2 c.counts.faults))
      ∧ (∀ p : Fin 8, let x := s.ports.get p
          tells 64 (put2 p.val) (flag x.enable ++ put1 x.mode.code ++ put1 (if x.level then 0 else 1) ++ put2 x.presence ++ put2 x.columns
            ++ put2 x.rows ++ opt (x.geometryPending.map Prod.fst) ++ opt (x.geometryPending.map Prod.snd) ++ put2 x.rate
            ++ opt x.ratePending ++ flag x.activeOne ++ flag x.mute ++ flag x.swapHold ++ put1 x.windows.toNat ++ put2 x.buffer.length
            ++ put1 x.phase.code ++ put2 x.frameNumber ++ put2 x.dropped ++ put2 x.gated))
      ∧ (∀ panel cls : Nat, panel < 256 → cls < 256 →
          let reads := fun (item : Nat) body => answerOf s ⟨65, put2 item ++ put1 panel ++ put1 cls⟩ = .values body
          let none' := fun (item : Nat) => answerOf s ⟨65, put2 item ++ put1 panel ++ put1 cls⟩ = .refused .badItem
          (∀ x ∈ [(1, s.sch.listLead), (2, s.sch.countdownWindow), (3, s.sch.boardLead), (4, s.sch.lateWindow), (5, s.slg.holdPeriod),
              (6, s.slg.silenceLimit), (7, s.slg.staleLimit), (8, s.slg.exactLimit), (9, s.slg.step), (10, s.slg.plentyLimit),
              (11, s.slg.fastPct), (12, s.slg.soldoutLifetime)], reads x.1 (put2 x.2))
          ∧ reads 13 (flag s.cmp.twelveHour) ∧ reads 14 (flag s.blc.rotating) ∧ reads 15 (flag s.blc.run)
          ∧ (∀ p : Fin 8, p.val = panel →
            let n := s.ntc.panels.get p
            let x := s.ports.get p
            reads 16 (put2 n.enableMask.toNat) ∧ reads 17 (put2 n.closedMask.toNat) ∧ reads 18 (flag n.hold)
            ∧ (∀ c : Fin 12, c.val = cls → reads 19 (put2 (n.map.get c).val)) ∧ (12 ≤ cls → none' 19)
            ∧ reads 20 (put2 (s.cmp.panels.get p).baseLayout.val) ∧ reads 21 (flag x.enable)
            ∧ (∀ g, x.geometryPending = some g → reads 22 (put2 g.1 ++ put2 g.2))
            ∧ (x.geometryPending = none → reads 22 (put2 x.columns ++ put2 x.rows))
            ∧ (∀ g, x.ratePending = some g → reads 23 (put2 g)) ∧ (x.ratePending = none → reads 23 (put2 x.rate)))
          ∧ (8 ≤ panel → ∀ item, 16 ≤ item → item ≤ 23 → none' item)
          ∧ ∀ item, item < 65536 → (item = 0 ∨ 24 ≤ item) → none' item)
      ∧ ∀ k, k < 65536 → ∀ x ∈ [(20, 8), (32, 64), (33, 16), (34, 8), (35, 4), (36, 48), (37, 8), (38, 12), (52, 8), (55, 16), (56, 24),
            (57, 8), (58, 8), (59, 8), (60, 96), (63, 4), (64, 8)],
          x.2 ≤ k → answerOf s ⟨x.1, put2 k⟩ = .refused .badItem)
  ∧ (∀ (desk tag : Nat) (s : State), 16 ≤ desk → desk < 256 → tag < 256 →
      answerOf s ⟨54, put1 desk ++ put1 tag⟩ = .refused .badItem)
  ∧ ([ShowState.empty, .listed, .opened, .boarding, .running, .ended, .cancelled].map ShowState.code = List.range 7
      ∧ [Format.twoD, .threeD, .large, .large3D].map Format.code = List.range 4
      ∧ [EntryKind.openAt, .windowAt, .minuteAt, .boardAt, .startAt, .endAt, .reapAt].map EntryKind.code = List.range 7
      ∧ [FigureCase.stateShown, .askAtDesk, .soldOut, .fullCheckBack, .goodAvailability, .exact, .rounded].map FigureCase.code = List.range 7
      ∧ [DeskState.closed, .opened, .silent].map DeskState.code = List.range 3
      ∧ [ClockForm.h24, .h12, .follow].map ClockForm.code = List.range 3
      ∧ [FieldKind.time, .titleLong, .titleShort, .auditorium, .format, .rating, .subtitle, .seats, .badge, .state].map FieldKind.code
        = List.range 10
      ∧ [Machine.Alignment.left, .right, .natural].map Machine.Alignment.code = List.range 3
      ∧ [BuildState.clean, .dirty, .building, .ready, .syncing].map BuildState.code = List.range 5
      ∧ [Lane.normal, .announce].map Lane.code = List.range 2
      ∧ [ChanState.idle, .active, .stopped, .fault].map ChanState.code = List.range 4
      ∧ [PortPhase.none, .requesting, .writing].map PortPhase.code = List.range 3
      ∧ [Mode.dark, .waiting, .live].map Mode.code = List.range 3
      ∧ [LinkPhase.idle, .grid, .segment].map LinkPhase.code = List.range 3
      ∧ ∀ x : Source, x.code = match x with
        | .fill _ => 0 | .tile _ => 1 | .text _ _ _ => 2 | .notice _ _ _ _ => 3 | .desk _ _ => 4 | .clock _ _ _ => 5 | .copy => 6)

/-! ## Resets and the trunk -/

/-- RESET_ALL, RESET_OPS and BAD_RESET_TYPE at the TIF (R178, R195): the TIF empties its slot, its event queue and the events on their
way, OWN is next, an outstanding read of another block stays, and the RESET is in delivery to the eight others; RESET ALL also clears
flags, counts and the dropped count. RESET_TAKE (R6, R26, R53, R99, R118, R129, R149, R169, R178): a ready block that the RESET still
waits for acts on its own state, and the last one lets it leave the FIFO; a block that is not ready, or not waited for, takes nothing;
the NTC tells the Blit Channels of every entry that becomes FREE (R132). A request sent before its sender took a RESET that its receiver
has taken leaves its link with no other effect (R178). PIN_RESET (R6, R26, R53, R99, R118, R129, R149, R169, R194): every block is as
after reset, the presence levels are those of the lines, and until RESET_N rises only what NothingRunsInReset names goes on. The ports
act together, which is log 18; what the NTC then holds of their modes is log 37, the count of purges that the TST keeps log 19. The
model's own choices here: log 8, 11, 12, 13, 14, 18, 19, 37. -/
def Obligations.ResetsAreTaken : Prop :=
  (∀ (type clock : Nat) (rest : List Taken) (s : State), AtHead (.reset type) clock rest s →
      let ops : Tif := { s.tif with
        slot := .empty, read := s.tif.read.filter fun r => readOwner r != .tif, events := [], lastOwn := false
        resetting := some ⟨false, [.lck, .sch, .slg, .ntc, .cmp, .tst, .blc, .pnl]⟩ }
      let s' : State := { s with
        links := { s.links with posted := Tab.fill 9 [] }, taken := s.taken.modify (blockIx .tif) fun k => k + 1 }
      (type = 1 → s.tif.resetting = none → exec .resetOps s = .next { s' with tif := ops })
      ∧ (type = 2 → s.tif.resetting = none → exec .resetAll s = .next { s' with tif := { ops with
          resetting := some ⟨true, [.lck, .sch, .slg, .ntc, .cmp, .tst, .blc, .pnl]⟩
          flags := ⟨false, false, false, false, false, false⟩, counts := ⟨0, 0, 0, 0, 0, 0, 0, 0⟩, dropped := 0 } })
      ∧ (type ≠ 1 → type ≠ 2 → ready .tif s = true → exec .badResetType s = .next (refuse .tif 18 .badField 0 (s.withFifo rest))))
  ∧ (∀ (b : Block) (r : Resetting) (s : State), s.inReset = false → s.tif.resetting = some r →
      let left := r.waiting.filter fun c => c != b
      let s' : State := { s with
        taken := s.taken.modify (blockIx b) fun k => k + 1
        tif := if left = [] then { s.tif with resetting := none, fifo := s.tif.fifo.drop 1 }
          else { s.tif with resetting := some ⟨r.all, left⟩ } }
      let cleared := fun (p : Fin 8) => (s.cmp.layouts.get (s.cmp.panels.get p).baseLayout).background
      (b ∉ r.waiting ∨ ready b s = false → exec (.resetTake b) s = .next s)
      ∧ (b ∈ r.waiting → ready b s = true →
        (b = .lck → exec (.resetTake b) s = .next { s' with lck := if r.all then ⟨0, false, false⟩ else s.lck })
        ∧ (b = .sch → exec (.resetTake b) s = .next { s' with sch := if r.all then Sch.reset else { s.sch with
            showings := Tab.fill 96 Showing.empty, list := [], rosters := Tab.fill 8 [], causes := [] } })
        ∧ (b = .slg → exec (.resetTake b) s = .next { s' with slg := if r.all then Slg.reset else { s.slg with
            ledger := Tab.fill 96 Ledger.empty, holds := Tab.fill 64 none, desks := Tab.fill 16 Desk.closed
            stage := .idle, touched := Tab.fill 96 false } })
        ∧ (b = .ntc → exec (.resetTake b) s = .next { s' with
            ntc := if r.all then Ntc.reset else { s.ntc with
              entries := Tab.fill 24 none, sequence := []
              panels := Tab.make 8 fun p => { s.ntc.panels.get p with waiting := [], view := none, stack := [] } }
            links := { s.links with ntcBlc := s.links.ntcBlc ++ (fins 24).filter fun e => (s.ntc.entries.get e).isSome } })
        ∧ (b = .tst → exec (.resetTake b) s = .next { s' with tst :=
            ⟨Tab.make 96 fun i => ⟨.free, none, [], 0, (s.tst.slots.get i).fmt⟩, [], 0, 0, 0, 0, 0, s.tst.purged⟩ })
        ∧ (b = .blc → exec (.resetTake b) s = .next { s' with blc := if r.all then { Blc.reset with unit := s.blc.unit }
            else { s.blc with
              lastGranted := 3
              channels := Tab.make 4 fun n => ⟨.idle, [], [], none, none, .none, 0#8, none, (s.blc.channels.get n).counts⟩ } })
        ∧ (b = .cmp → r.all = true → exec (.resetTake b) s = .next { s' with cmp := { Cmp.reset with
            panels := Tab.make 8 fun p => { CmpPanel.reset with jobNumber := (s.cmp.panels.get p).jobNumber } } })
        ∧ (b = .cmp → r.all = false → exec (.resetTake b) s = .next
            (((fins 8).filter fun p => decide ((s.ports.get p).mode = .live)).foldl (fun t p => repaint p t)
              { s' with cmp := { s.cmp with panels := Tab.make 8 fun p =>
                let c := s.cmp.panels.get p
                ⟨c.baseLayout, c.columns, c.rows, c.rate, c.live, none, none, c.baseLayout, .normal, false,
                  Tab.fill 8 PaneState.clean, [], none, .clean, false, none, c.jobNumber⟩ } }))
        ∧ (b = .pnl → r.all = true → exec (.resetTake b) s
            = .next { s' with ports := Tab.make 8 fun p => Port.reset (s.ports.get p).level })
        ∧ (b = .pnl → r.all = false → exec (.resetTake b) s = .next { s' with
            ports := Tab.make 8 fun p =>
              let x := s.ports.get p
              { x with
                grid0 := Grid.filled (cleared p), grid1 := Grid.filled (cleared p), mute := true, windows := 0#2
                swapHold := decide (x.mode = .live), buffer := [], phase := .idle, frame := none, frameWaiting := none, segment := none }
            links := { s.links with pnlCmp := Tab.make 8 fun p => s.links.pnlCmp.get p
              ++ if (s.ports.get p).mode = .live then [.gridCleared (s.taken.get (blockIx .pnl) + 1)] else [] } })))
  ∧ (∀ s : State, ∃ t, exec .pinReset s = .next t ∧ t.inReset = true ∧ t.pending = s.pending
      ∧ t.lck = State.reset.lck ∧ t.sch = State.reset.sch ∧ t.slg = State.reset.slg ∧ t.ntc = State.reset.ntc
      ∧ t.cmp = State.reset.cmp ∧ t.tst = State.reset.tst ∧ t.blc = State.reset.blc ∧ t.tif = State.reset.tif
      ∧ t.links = State.reset.links ∧ t.taken = State.reset.taken
      ∧ ∀ p, t.ports.get p = { State.reset.ports.get p with level := (s.ports.get p).level })
  ∧ ∀ (ep : Nat) (s : State), s.inReset = false →
      let left := fun c k => exec c s = .next { s with links := k }
      let k := s.links
      let old := fun b => ep < s.taken.get (blockIx b)
      (old .slg → s.slg.stage = .idle →
        (∀ slot capacity sold blocked stamp fresh rest, k.schSlg = ⟨ep, .listingTally slot capacity sold blocked stamp fresh⟩ :: rest →
          left .listingTally { k with schSlg := rest })
        ∧ ∀ slot st cause rest, k.schSlg = ⟨ep, .stateChange slot st cause⟩ :: rest → left .stateChange { k with schSlg := rest })
      ∧ (old .ntc →
        (∀ r rest, k.schNtc = ⟨ep, .autoRaise r⟩ :: rest → left (.autoRaise .sch) { k with schNtc := rest })
        ∧ (∀ slot rest, k.schNtc = ⟨ep, .saleEnd slot⟩ :: rest → left .saleEnd { k with schNtc := rest })
        ∧ ∀ r rest, k.slgNtc = ⟨ep, r⟩ :: rest → left (.autoRaise .slg) { k with slgNtc := rest })
      ∧ (old .sch →
        (∀ slot id entry rest, k.ntcSch = ⟨ep, .raiseReport slot id entry⟩ :: rest → left .raiseReport { k with ntcSch := rest })
        ∧ ∀ entry slot rest, k.ntcSch = ⟨ep, .autoFree entry slot⟩ :: rest → left .autoFreeReport { k with ntcSch := rest })
      ∧ (old .cmp →
        (∀ v rest, k.ntcCmp = ⟨ep, .view v⟩ :: rest → left .viewChange { k with ntcCmp := rest })
        ∧ (∀ p rest, k.ntcCmp = ⟨ep, .content p⟩ :: rest → left .noticeContentChange { k with ntcCmp := rest })
        ∧ (∀ f rest, k.schCmp = ⟨ep, f⟩ :: rest → left .rosterChange { k with schCmp := rest })
        ∧ (∀ rest, k.slgCmp = ⟨ep, ()⟩ :: rest → left .deskChange { k with slgCmp := rest })
        ∧ ∀ slot rest, k.tstCmp = ⟨ep, .purged slot⟩ :: rest → left .purgeReport { k with tstCmp := rest })
      ∧ (old .tst → ∀ sender slot rest, purgeLink sender k = ⟨ep, slot⟩ :: rest → left (.purge sender) (k.withPurges sender rest))

/-- PACKET_RECEIVE (R170 to R176, R192, R193): every framed packet is counted; a bad one sets one flag and one count; a good one is
forwarded, taken or both by its destination; a taken one of unknown kind or length sets BAD_KIND; others join the FIFO with the present
clock, or are lost to a full one; a PICTURE goes to its port's way and an ENUMERATE to the forward path. An ENUMERATE still there is
handled first (log 20). ENUMERATE (R172, R173): one addressed to this part alone is consumed; on an unassigned part a position field of 1
to 15 becomes the position and leaves as one more, with a new check; in any other case the packet leaves as it came. The model's own
choices here: log 20, 21, 28. -/
def Obligations.PacketsAreReceived : Prop :=
  ((∀ (frame : TrunkFrame) (s : State), s.inReset = false →
        exec (.packetReceive frame) s = exec (.packetReceive frame) { s with tif := enumerate s.tif })
      ∧ ∀ (frame : TrunkFrame) (s : State), s.inReset = false → s.tif.enumerating = none →
        let t := s.tif
        let counts := { t.counts with received := more t.counts.received }
        let gives := fun t' => exec (.packetReceive frame) s = .next { s with tif := t' }
        let formatFails := gives { t with
          flags := { t.flags with formatFail := true }
          counts := { counts with formatFailures := more t.counts.formatFailures } }
        (frame = .unclosed ∨ frame = .strayEnd ∨ frame = .broken → formatFails)
        ∧ ∀ bytes, frame = .whole bytes →
          (testFrame bytes = .formatFailure → formatFails)
          ∧ (testFrame bytes = .checkFailure → gives { t with
            flags := { t.flags with checkFail := true }
            counts := { counts with checkFailures := more t.counts.checkFailures } })
          ∧ ∀ kind dest payload, testFrame bytes = .good kind dest payload →
            (dest ≠ 0 → (t.position = 0 ∨ dest ≠ t.position) → gives { t with
              counts := { counts with forwarded := more t.counts.forwarded }, trunkOut := some bytes })
            ∧ (dest = 0 ∨ (t.position ≠ 0 ∧ dest = t.position) →
              let passed := if dest = 0 then some bytes else t.trunkOut
              let kept := { counts with
                taken := more t.counts.taken
                forwarded := if dest = 0 then more t.counts.forwarded else t.counts.forwarded }
              (decodePayload kind payload = none → gives { t with
                trunkOut := passed, flags := { t.flags with badKind := true }
                counts := { kept with badKinds := more t.counts.badKinds } })
              ∧ (∀ p, decodePayload kind payload = some (.fifo p) →
                (t.fifo.length < 4 → gives { t with
                  trunkOut := passed, counts := kept, fifo := t.fifo ++ [⟨p, s.lck.clock⟩] })
                ∧ (4 ≤ t.fifo.length → gives { t with
                  trunkOut := passed, flags := { t.flags with ingressOverrun := true }
                  counts := { kept with overruns := more t.counts.overruns } }))
              ∧ (∀ f, decodePayload kind payload = some (.picture f) → gives { t with
                trunkOut := passed, counts := kept, pictures := t.pictures ++ [⟨f, s.lck.clock⟩] })
              ∧ ∀ field, decodePayload kind payload = some (.enumerate field) → gives { t with
                counts := { counts with taken := more t.counts.taken }, enumerating := some ⟨dest, field, bytes⟩ }))
  ∧ (∀ (e : Enumerating) (s : State), s.inReset = false → s.tif.enumerating = some e →
      let t : Tif := { s.tif with enumerating := none }
      let sends := fun (u : Tif) bytes => exec .enumerate s = .next { s with tif := { u with
        counts := { u.counts with forwarded := more u.counts.forwarded }, trunkOut := some bytes } }
      let assigns := t.position = 0 ∧ 1 ≤ e.field ∧ e.field ≤ 15
      (e.destination ≠ 0 → exec .enumerate s = .next { s with tif := t })
      ∧ (e.destination = 0 → assigns → sends { t with position := e.field } (packetBytes 17 0 [BitVec.ofNat 8 (e.field + 1)]))
      ∧ (e.destination = 0 → ¬ assigns → sends t e.bytes))
  ∧ ∀ s : State, s.inReset = false → exec .enumerate s = .next { s with tif := enumerate s.tif }
      ∧ (s.tif.enumerating = none → enumerate s.tif = s.tif)

/-- A refusal posts one REFUSED event of the refusing block, with the key as subject index, the packet kind and the reason as detail
numbers and the present clock as stamp, and changes nothing else (R183). SET_UNKNOWN_ITEM, TABLE_UNKNOWN_ITEM and LINK_CLEAR at the TIF
(R179, R193), which answers a read of its own first (R184). EVENT_OFFER (R187): the oldest event a block has posted joins the event
queue; a full queue drops it, with the flag and a dropped count of 255 at most. -/
def Obligations.RefusalsAndEvents : Prop :=
  (∀ (b : Block) (kind key : Nat) (r : Reason) (s : State),
      refuse b kind r key s
        = { s with links := s.links.posting b [⟨.refused, key, [kind, r.code], s.lck.clock⟩] })
  ∧ (∀ (item key clock : Nat) (bytes : List Byte) (rest : List Taken) (s : State),
      (Delivers .tif (.set item key bytes) clock rest s →
        ((item = 0 ∨ 26 ≤ item) → exec .setUnknownItem s = .next (refuse .tif 14 .badItem item (s.withFifo rest)))
        ∧ (item = 25 → exec .setLinkClear s = .next { s with tif := { s.tif with
            fifo := rest, flags := ⟨false, false, false, false, false, false⟩
            counts := ⟨0, 0, 0, 0, 0, 0, 0, 0⟩, dropped := 0 } }))
      ∧ (Delivers .tif (.table item key bytes) clock rest s → (item < 32 ∨ 38 < item) →
        exec .tableUnknownItem s = .next (refuse .tif 15 .badItem item (s.withFifo rest))))
  ∧ (∀ (b : Block) (e : Event) (rest : List Event) (s : State), s.inReset = false → s.links.posted.get (blockIx b) = e :: rest →
      let k : Links := { s.links with posted := s.links.posted.set (blockIx b) rest }
      (s.tif.events.length < 16 → exec (.eventOffer b) s
        = .next { s with tif := { s.tif with events := s.tif.events ++ [e] }, links := k })
      ∧ (16 ≤ s.tif.events.length → exec (.eventOffer b) s = .next { s with
        tif := { s.tif with flags := { s.tif.flags with reportDrop := true }, dropped := min 255 (s.tif.dropped + 1) }
        links := k }))

/-- The return lane (R188 to R191, R196, R199): a REPORT from below fills the empty pass buffer; the ready state follows the idle groups;
a free lane is granted to the source that waits, alternating where both do; OWN sends the reply before events; what is granted leaves its
store, and the lane is free when it is sent. Out of reset the part sends IDLE_GO below while its pass buffer is empty and IDLE_WAIT while
it is not; in pin reset it sends neither, and the part below sees no ready (R188, R194, R196). On RET_OUT a REPORT goes out between SOP
and EOP, and FILL between REPORTs; nothing in pin reset (R194, R196). The model's own choices here: log 26, 29. -/
def Obligations.ReturnLaneAlternates : Prop :=
  (∀ s : State, (s.inReset = true → trunkIdle s = none ∧ signalsReady s = false)
      ∧ (s.inReset = false → s.tif.passBuffer = none → trunkIdle s = some .idleGo ∧ signalsReady s = true)
      ∧ (s.inReset = false → s.tif.passBuffer ≠ none → trunkIdle s = some .idleWait ∧ signalsReady s = false)
      ∧ (s.tif.retOut = none → returnSends s = if s.inReset then [] else [.fill])
      ∧ ∀ bytes, s.tif.retOut = some bytes → returnSends s = [.sop] ++ bytes.map .data ++ [.eop])
  ∧ ∀ s : State, s.inReset = false →
    let t := s.tif
    let gives := fun c t' => exec c s = .next { s with tif := t' }
    let own := (∃ r, t.slot = .full r) ∨ t.events ≠ []
    let pass := t.passBuffer ≠ none
    (∀ packet, gives (.passBufferReceive packet) (if t.passBuffer = none then { t with passBuffer := some packet } else t))
    ∧ (∀ go, gives (.returnReadyChange go) { t with upstreamReady := go })
    ∧ gives .reportSent { t with retOut := none }
    ∧ (t.retOut ≠ none ∨ t.upstreamReady = false ∨ (¬ own ∧ ¬ pass) → exec .returnLaneGrant s = .next s)
    ∧ (t.retOut = none → t.upstreamReady = true →
      (pass → (¬ own ∨ t.lastOwn = true) →
        gives .returnLaneGrant { t with retOut := t.passBuffer, passBuffer := none, lastOwn := false })
      ∧ (own → (¬ pass ∨ t.lastOwn = false) →
        (∀ r, t.slot = .full r → gives .returnLaneGrant { t with
          retOut := some (packetBytes 128 t.position (put1 1 ++ put2 r.item ++ r.key ++ r.body)), slot := .empty, lastOwn := true })
        ∧ ∀ e rest, (∀ r, t.slot ≠ .full r) → t.events = e :: rest → gives .returnLaneGrant { t with
          retOut := some (packetBytes 128 t.position (put1 2 ++ put1 e.kind.code ++ put1 e.detail.length ++ put2 e.subject
            ++ put2 (e.detail.getD 0 0) ++ put2 (e.detail.getD 1 0) ++ put3 e.stamp))
          events := rest, lastOwn := true }))
end

