-- ==== Sys2Proof/Laws/Grid.lean ====
section
/-! SUPPORT. The grids: a write keeps the canonical form, is read back, and leaves every other place alone; equal grids are
equal lists. -/

namespace Sys2Proof.Machine

theorem Grid.wfFrom_cons {low a : Nat} {c : Cell} {g : Grid} :
    Grid.wfFrom low ((a, c) :: g) = true ↔ low ≤ a ∧ a < 2304 ∧ c ≠ Cell.blank ∧ Grid.wfFrom (a + 1) g = true := by
  simp only [Grid.wfFrom, Bool.and_eq_true, decide_eq_true_eq, and_assoc]
  exact Iff.rfl

/-- A list whose addresses rise from above a bound also rises from above every lower one. -/
theorem Grid.wfFrom_mono {low low' : Nat} {g : Grid} (h : Grid.wfFrom low g = true) (hl : low' ≤ low) :
    Grid.wfFrom low' g = true := by
  cases g with
  | nil => rfl
  | cons x g =>
    obtain ⟨a, c⟩ := x
    rw [Grid.wfFrom_cons] at h ⊢
    exact ⟨by omega, h.2⟩

/-- An address below every listed one reads as the blank cell. -/
theorem Grid.read_below {low a : Nat} {g : Grid} (h : Grid.wfFrom low g = true) (ha : a < low) : g.read a = Cell.blank := by
  induction g generalizing low with
  | nil => rfl
  | cons x g ih =>
    obtain ⟨b, c⟩ := x
    rw [Grid.wfFrom_cons] at h
    have : b ≠ a := by omega
    simp only [Grid.read, this, if_false]
    exact ih h.2.2.2 (by omega)

/-- A write on the grid keeps the form, from every bound that its address respects. -/
theorem Grid.wfFrom_write {low a : Nat} {c : Cell} {g : Grid} (h : Grid.wfFrom low g = true) (hl : low ≤ a) (ha : a < 2304) :
    Grid.wfFrom low (g.write a c) = true := by
  induction g generalizing low with
  | nil =>
    by_cases hc : c = Cell.blank
    · simp [Grid.write, hc, Grid.wfFrom]
    · simp only [Grid.write, hc, if_false, Grid.wfFrom_cons]
      exact ⟨hl, ha, hc, rfl⟩
  | cons x g ih =>
    obtain ⟨b, d⟩ := x
    have h' := h
    rw [Grid.wfFrom_cons] at h'
    obtain ⟨h1, h2, h3, h4⟩ := h'
    simp only [Grid.write]
    by_cases hab : a < b
    · by_cases hc : c = Cell.blank
      · simpa [hab, hc] using h
      · simp only [hab, hc, if_true, if_false, Grid.wfFrom_cons]
        exact ⟨hl, ha, hc, by omega, h2, h3, h4⟩
    · by_cases he : a = b
      · by_cases hc : c = Cell.blank
        · simpa [he, hc] using Grid.wfFrom_mono h4 (by omega)
        · subst he
          simp only [Nat.lt_irrefl, hc, if_true, if_false, Grid.wfFrom_cons]
          exact ⟨hl, ha, hc, h4⟩
      · simp only [hab, he, if_false, Grid.wfFrom_cons]
        exact ⟨h1, h2, h3, ih h4 (by omega)⟩

/-- A write on the grid keeps the canonical form. -/
theorem Grid.wf_write {a : Nat} {c : Cell} {g : Grid} (h : g.wf = true) (ha : a < 2304) : (g.write a c).wf = true :=
  Grid.wfFrom_write h (Nat.zero_le a) ha

/-- What a grid in canonical form reads after a write: the cell at its address, and everywhere else what it read before. -/
theorem Grid.read_write {low a : Nat} {c : Cell} {g : Grid} (h : Grid.wfFrom low g = true) (b : Nat) :
    (g.write a c).read b = if a = b then c else g.read b := by
  induction g generalizing low with
  | nil => by_cases hc : c = Cell.blank <;> by_cases hb : a = b <;> simp [Grid.write, Grid.read, hc, hb]
  | cons x g ih =>
    obtain ⟨k, d⟩ := x
    rw [Grid.wfFrom_cons] at h
    have ih := ih h.2.2.2
    simp only [Grid.write]
    by_cases hak : a < k
    · have ne : k ≠ a := by omega
      have below : Grid.read g a = Cell.blank := Grid.read_below h.2.2.2 (by omega)
      by_cases hc : c = Cell.blank <;> by_cases hb : a = b
      · subst hb; simp only [if_pos hak, if_pos hc, Grid.read, if_neg ne, below]; simp [hc]
      · simp only [if_pos hak, if_pos hc, if_neg hb]
      · subst hb; simp only [if_pos hak, if_neg hc, Grid.read, if_true]
      · simp only [if_pos hak, if_neg hc, Grid.read, if_neg hb]
    · by_cases he : a = k
      · subst he
        by_cases hc : c = Cell.blank <;> by_cases hb : a = b
        · subst hb; simp [hc, Grid.read_below h.2.2.2 (Nat.lt_succ_self a)]
        · simp [hc, hb, Grid.read]
        · subst hb; simp [hc, Grid.read]
        · simp [hc, hb, Grid.read]
      · simp only [hak, he, if_false, Grid.read, ih]
        by_cases hb : a = b
        · subst hb; simp [Ne.symm he]
        · simp [hb]

/-- Every place but those of a run of cells reads after the run as it did before. -/
theorem Grid.read_writeAll_other {g : Grid} {cells : List (Nat × Cell)} (h : g.wf = true) (hc : ∀ x ∈ cells, x.1 < 2304)
    {b : Nat} (hb : ∀ x ∈ cells, x.1 ≠ b) : (g.writeAll cells).read b = g.read b := by
  induction cells generalizing g with
  | nil => rfl
  | cons x cells ih =>
    have hx := hc x (List.mem_cons_self ..)
    refine (ih (g := g.write x.1 x.2) (Grid.wf_write h hx) (fun y hy => hc y (List.mem_cons_of_mem _ hy))
      (fun y hy => hb y (List.mem_cons_of_mem _ hy))).trans ?_
    rw [Grid.read_write h, if_neg (hb x (List.mem_cons_self ..))]

/-- A run of cells on the grid keeps the canonical form. -/
theorem Grid.wf_writeAll {g : Grid} {cells : List (Nat × Cell)} (h : g.wf = true) (hc : ∀ x ∈ cells, x.1 < 2304) :
    (g.writeAll cells).wf = true := by
  induction cells generalizing g with
  | nil => exact h
  | cons x cells ih =>
    exact ih (g := g.write x.1 x.2) (Grid.wf_write h (hc x (List.mem_cons_self ..)))
      (fun y hy => hc y (List.mem_cons_of_mem _ hy))

/-- Grids in canonical form that read alike are one list. -/
theorem Grid.eq_of_read {low : Nat} {g k : Grid} (hg : Grid.wfFrom low g = true) (hk : Grid.wfFrom low k = true)
    (h : ∀ a, g.read a = k.read a) : g = k := by
  induction g generalizing low k with
  | nil =>
    cases k with
    | nil => rfl
    | cons x k =>
      rw [Grid.wfFrom_cons] at hk
      have := h x.1
      simp [Grid.read] at this
      exact absurd this.symm hk.2.2.1
  | cons x g ih =>
    obtain ⟨a, c⟩ := x
    have hg' := Grid.wfFrom_cons.mp hg
    cases k with
    | nil =>
      have := h a
      simp [Grid.read] at this
      exact absurd this hg'.2.2.1
    | cons y k =>
      obtain ⟨b, d⟩ := y
      have hk' := Grid.wfFrom_cons.mp hk
      have hab : a = b := by
        rcases Nat.lt_trichotomy a b with l | l | l
        · have := h a
          have e : b ≠ a := by omega
          simp only [Grid.read, e, if_true, if_false, Grid.read_below hk'.2.2.2 (show a < b + 1 by omega)] at this
          exact absurd this hg'.2.2.1
        · exact l
        · have := h b
          have e : a ≠ b := by omega
          simp only [Grid.read, e, if_true, if_false, Grid.read_below hg'.2.2.2 (show b < a + 1 by omega)] at this
          exact absurd this.symm hk'.2.2.1
      subst hab
      have hcd : c = d := by simpa [Grid.read] using h a
      subst hcd
      have hr : g = k := ih hg'.2.2.2 hk'.2.2.2 fun e => by
        by_cases he : a = e
        · subst he
          rw [Grid.read_below hg'.2.2.2 (Nat.lt_succ_self a), Grid.read_below hk'.2.2.2 (Nat.lt_succ_self a)]
        · simpa [Grid.read, he] using h e
      rw [hr]

/-- A filled grid is in canonical form. -/
theorem Grid.wf_filled (c : Cell) : (Grid.filled c).wf = true := by
  have run : ∀ k low, low + k ≤ 2304 → c ≠ Cell.blank →
      Grid.wfFrom low ((List.range' low k).map fun a => (a, c)) = true := by
    intro k
    induction k with
    | zero => intros; rfl
    | succ k ih =>
      intro low hl hc
      rw [List.range'_succ, List.map_cons, Grid.wfFrom_cons]
      exact ⟨Nat.le_refl _, by omega, hc, ih (low + 1) (by omega) hc⟩
  unfold Grid.filled
  split
  · rfl
  · rename_i hc
    rw [List.range_eq_range']
    exact run 2304 0 (Nat.le_refl _) hc

end Sys2Proof.Machine
end

