-- ==== Sys2Proof/Laws/State.lean ====
section
/-! SUPPORT. One lemma for each part of State under each replacement of a part, true by definition. -/

namespace Sys2Proof.Machine

@[simp] theorem State.withLck_lck (s : State) (x : Lck) : (s.withLck x).lck = x := rfl
@[simp] theorem State.withLck_sch (s : State) (x : Lck) : (s.withLck x).sch = s.sch := rfl
@[simp] theorem State.withLck_slg (s : State) (x : Lck) : (s.withLck x).slg = s.slg := rfl
@[simp] theorem State.withLck_ntc (s : State) (x : Lck) : (s.withLck x).ntc = s.ntc := rfl
@[simp] theorem State.withLck_cmp (s : State) (x : Lck) : (s.withLck x).cmp = s.cmp := rfl
@[simp] theorem State.withLck_tst (s : State) (x : Lck) : (s.withLck x).tst = s.tst := rfl
@[simp] theorem State.withLck_blc (s : State) (x : Lck) : (s.withLck x).blc = s.blc := rfl
@[simp] theorem State.withLck_ports (s : State) (x : Lck) : (s.withLck x).ports = s.ports := rfl
@[simp] theorem State.withLck_tif (s : State) (x : Lck) : (s.withLck x).tif = s.tif := rfl
@[simp] theorem State.withLck_links (s : State) (x : Lck) : (s.withLck x).links = s.links := rfl
@[simp] theorem State.withLck_taken (s : State) (x : Lck) : (s.withLck x).taken = s.taken := rfl
@[simp] theorem State.withLck_inReset (s : State) (x : Lck) : (s.withLck x).inReset = s.inReset := rfl
@[simp] theorem State.withLck_pending (s : State) (x : Lck) : (s.withLck x).pending = s.pending := rfl
@[simp] theorem State.withSch_lck (s : State) (x : Sch) : (s.withSch x).lck = s.lck := rfl
@[simp] theorem State.withSch_sch (s : State) (x : Sch) : (s.withSch x).sch = x := rfl
@[simp] theorem State.withSch_slg (s : State) (x : Sch) : (s.withSch x).slg = s.slg := rfl
@[simp] theorem State.withSch_ntc (s : State) (x : Sch) : (s.withSch x).ntc = s.ntc := rfl
@[simp] theorem State.withSch_cmp (s : State) (x : Sch) : (s.withSch x).cmp = s.cmp := rfl
@[simp] theorem State.withSch_tst (s : State) (x : Sch) : (s.withSch x).tst = s.tst := rfl
@[simp] theorem State.withSch_blc (s : State) (x : Sch) : (s.withSch x).blc = s.blc := rfl
@[simp] theorem State.withSch_ports (s : State) (x : Sch) : (s.withSch x).ports = s.ports := rfl
@[simp] theorem State.withSch_tif (s : State) (x : Sch) : (s.withSch x).tif = s.tif := rfl
@[simp] theorem State.withSch_links (s : State) (x : Sch) : (s.withSch x).links = s.links := rfl
@[simp] theorem State.withSch_taken (s : State) (x : Sch) : (s.withSch x).taken = s.taken := rfl
@[simp] theorem State.withSch_inReset (s : State) (x : Sch) : (s.withSch x).inReset = s.inReset := rfl
@[simp] theorem State.withSch_pending (s : State) (x : Sch) : (s.withSch x).pending = s.pending := rfl
@[simp] theorem State.withSlg_lck (s : State) (x : Slg) : (s.withSlg x).lck = s.lck := rfl
@[simp] theorem State.withSlg_sch (s : State) (x : Slg) : (s.withSlg x).sch = s.sch := rfl
@[simp] theorem State.withSlg_slg (s : State) (x : Slg) : (s.withSlg x).slg = x := rfl
@[simp] theorem State.withSlg_ntc (s : State) (x : Slg) : (s.withSlg x).ntc = s.ntc := rfl
@[simp] theorem State.withSlg_cmp (s : State) (x : Slg) : (s.withSlg x).cmp = s.cmp := rfl
@[simp] theorem State.withSlg_tst (s : State) (x : Slg) : (s.withSlg x).tst = s.tst := rfl
@[simp] theorem State.withSlg_blc (s : State) (x : Slg) : (s.withSlg x).blc = s.blc := rfl
@[simp] theorem State.withSlg_ports (s : State) (x : Slg) : (s.withSlg x).ports = s.ports := rfl
@[simp] theorem State.withSlg_tif (s : State) (x : Slg) : (s.withSlg x).tif = s.tif := rfl
@[simp] theorem State.withSlg_links (s : State) (x : Slg) : (s.withSlg x).links = s.links := rfl
@[simp] theorem State.withSlg_taken (s : State) (x : Slg) : (s.withSlg x).taken = s.taken := rfl
@[simp] theorem State.withSlg_inReset (s : State) (x : Slg) : (s.withSlg x).inReset = s.inReset := rfl
@[simp] theorem State.withSlg_pending (s : State) (x : Slg) : (s.withSlg x).pending = s.pending := rfl
@[simp] theorem State.withNtc_lck (s : State) (x : Ntc) : (s.withNtc x).lck = s.lck := rfl
@[simp] theorem State.withNtc_sch (s : State) (x : Ntc) : (s.withNtc x).sch = s.sch := rfl
@[simp] theorem State.withNtc_slg (s : State) (x : Ntc) : (s.withNtc x).slg = s.slg := rfl
@[simp] theorem State.withNtc_ntc (s : State) (x : Ntc) : (s.withNtc x).ntc = x := rfl
@[simp] theorem State.withNtc_cmp (s : State) (x : Ntc) : (s.withNtc x).cmp = s.cmp := rfl
@[simp] theorem State.withNtc_tst (s : State) (x : Ntc) : (s.withNtc x).tst = s.tst := rfl
@[simp] theorem State.withNtc_blc (s : State) (x : Ntc) : (s.withNtc x).blc = s.blc := rfl
@[simp] theorem State.withNtc_ports (s : State) (x : Ntc) : (s.withNtc x).ports = s.ports := rfl
@[simp] theorem State.withNtc_tif (s : State) (x : Ntc) : (s.withNtc x).tif = s.tif := rfl
@[simp] theorem State.withNtc_links (s : State) (x : Ntc) : (s.withNtc x).links = s.links := rfl
@[simp] theorem State.withNtc_taken (s : State) (x : Ntc) : (s.withNtc x).taken = s.taken := rfl
@[simp] theorem State.withNtc_inReset (s : State) (x : Ntc) : (s.withNtc x).inReset = s.inReset := rfl
@[simp] theorem State.withNtc_pending (s : State) (x : Ntc) : (s.withNtc x).pending = s.pending := rfl
@[simp] theorem State.withCmp_lck (s : State) (x : Cmp) : (s.withCmp x).lck = s.lck := rfl
@[simp] theorem State.withCmp_sch (s : State) (x : Cmp) : (s.withCmp x).sch = s.sch := rfl
@[simp] theorem State.withCmp_slg (s : State) (x : Cmp) : (s.withCmp x).slg = s.slg := rfl
@[simp] theorem State.withCmp_ntc (s : State) (x : Cmp) : (s.withCmp x).ntc = s.ntc := rfl
@[simp] theorem State.withCmp_cmp (s : State) (x : Cmp) : (s.withCmp x).cmp = x := rfl
@[simp] theorem State.withCmp_tst (s : State) (x : Cmp) : (s.withCmp x).tst = s.tst := rfl
@[simp] theorem State.withCmp_blc (s : State) (x : Cmp) : (s.withCmp x).blc = s.blc := rfl
@[simp] theorem State.withCmp_ports (s : State) (x : Cmp) : (s.withCmp x).ports = s.ports := rfl
@[simp] theorem State.withCmp_tif (s : State) (x : Cmp) : (s.withCmp x).tif = s.tif := rfl
@[simp] theorem State.withCmp_links (s : State) (x : Cmp) : (s.withCmp x).links = s.links := rfl
@[simp] theorem State.withCmp_taken (s : State) (x : Cmp) : (s.withCmp x).taken = s.taken := rfl
@[simp] theorem State.withCmp_inReset (s : State) (x : Cmp) : (s.withCmp x).inReset = s.inReset := rfl
@[simp] theorem State.withCmp_pending (s : State) (x : Cmp) : (s.withCmp x).pending = s.pending := rfl
@[simp] theorem State.withTst_lck (s : State) (x : Tst) : (s.withTst x).lck = s.lck := rfl
@[simp] theorem State.withTst_sch (s : State) (x : Tst) : (s.withTst x).sch = s.sch := rfl
@[simp] theorem State.withTst_slg (s : State) (x : Tst) : (s.withTst x).slg = s.slg := rfl
@[simp] theorem State.withTst_ntc (s : State) (x : Tst) : (s.withTst x).ntc = s.ntc := rfl
@[simp] theorem State.withTst_cmp (s : State) (x : Tst) : (s.withTst x).cmp = s.cmp := rfl
@[simp] theorem State.withTst_tst (s : State) (x : Tst) : (s.withTst x).tst = x := rfl
@[simp] theorem State.withTst_blc (s : State) (x : Tst) : (s.withTst x).blc = s.blc := rfl
@[simp] theorem State.withTst_ports (s : State) (x : Tst) : (s.withTst x).ports = s.ports := rfl
@[simp] theorem State.withTst_tif (s : State) (x : Tst) : (s.withTst x).tif = s.tif := rfl
@[simp] theorem State.withTst_links (s : State) (x : Tst) : (s.withTst x).links = s.links := rfl
@[simp] theorem State.withTst_taken (s : State) (x : Tst) : (s.withTst x).taken = s.taken := rfl
@[simp] theorem State.withTst_inReset (s : State) (x : Tst) : (s.withTst x).inReset = s.inReset := rfl
@[simp] theorem State.withTst_pending (s : State) (x : Tst) : (s.withTst x).pending = s.pending := rfl
@[simp] theorem State.withBlc_lck (s : State) (x : Blc) : (s.withBlc x).lck = s.lck := rfl
@[simp] theorem State.withBlc_sch (s : State) (x : Blc) : (s.withBlc x).sch = s.sch := rfl
@[simp] theorem State.withBlc_slg (s : State) (x : Blc) : (s.withBlc x).slg = s.slg := rfl
@[simp] theorem State.withBlc_ntc (s : State) (x : Blc) : (s.withBlc x).ntc = s.ntc := rfl
@[simp] theorem State.withBlc_cmp (s : State) (x : Blc) : (s.withBlc x).cmp = s.cmp := rfl
@[simp] theorem State.withBlc_tst (s : State) (x : Blc) : (s.withBlc x).tst = s.tst := rfl
@[simp] theorem State.withBlc_blc (s : State) (x : Blc) : (s.withBlc x).blc = x := rfl
@[simp] theorem State.withBlc_ports (s : State) (x : Blc) : (s.withBlc x).ports = s.ports := rfl
@[simp] theorem State.withBlc_tif (s : State) (x : Blc) : (s.withBlc x).tif = s.tif := rfl
@[simp] theorem State.withBlc_links (s : State) (x : Blc) : (s.withBlc x).links = s.links := rfl
@[simp] theorem State.withBlc_taken (s : State) (x : Blc) : (s.withBlc x).taken = s.taken := rfl
@[simp] theorem State.withBlc_inReset (s : State) (x : Blc) : (s.withBlc x).inReset = s.inReset := rfl
@[simp] theorem State.withBlc_pending (s : State) (x : Blc) : (s.withBlc x).pending = s.pending := rfl
@[simp] theorem State.withPorts_lck (s : State) (x : Tab 8 Port) : (s.withPorts x).lck = s.lck := rfl
@[simp] theorem State.withPorts_sch (s : State) (x : Tab 8 Port) : (s.withPorts x).sch = s.sch := rfl
@[simp] theorem State.withPorts_slg (s : State) (x : Tab 8 Port) : (s.withPorts x).slg = s.slg := rfl
@[simp] theorem State.withPorts_ntc (s : State) (x : Tab 8 Port) : (s.withPorts x).ntc = s.ntc := rfl
@[simp] theorem State.withPorts_cmp (s : State) (x : Tab 8 Port) : (s.withPorts x).cmp = s.cmp := rfl
@[simp] theorem State.withPorts_tst (s : State) (x : Tab 8 Port) : (s.withPorts x).tst = s.tst := rfl
@[simp] theorem State.withPorts_blc (s : State) (x : Tab 8 Port) : (s.withPorts x).blc = s.blc := rfl
@[simp] theorem State.withPorts_ports (s : State) (x : Tab 8 Port) : (s.withPorts x).ports = x := rfl
@[simp] theorem State.withPorts_tif (s : State) (x : Tab 8 Port) : (s.withPorts x).tif = s.tif := rfl
@[simp] theorem State.withPorts_links (s : State) (x : Tab 8 Port) : (s.withPorts x).links = s.links := rfl
@[simp] theorem State.withPorts_taken (s : State) (x : Tab 8 Port) : (s.withPorts x).taken = s.taken := rfl
@[simp] theorem State.withPorts_inReset (s : State) (x : Tab 8 Port) : (s.withPorts x).inReset = s.inReset := rfl
@[simp] theorem State.withPorts_pending (s : State) (x : Tab 8 Port) : (s.withPorts x).pending = s.pending := rfl
@[simp] theorem State.withTif_lck (s : State) (x : Tif) : (s.withTif x).lck = s.lck := rfl
@[simp] theorem State.withTif_sch (s : State) (x : Tif) : (s.withTif x).sch = s.sch := rfl
@[simp] theorem State.withTif_slg (s : State) (x : Tif) : (s.withTif x).slg = s.slg := rfl
@[simp] theorem State.withTif_ntc (s : State) (x : Tif) : (s.withTif x).ntc = s.ntc := rfl
@[simp] theorem State.withTif_cmp (s : State) (x : Tif) : (s.withTif x).cmp = s.cmp := rfl
@[simp] theorem State.withTif_tst (s : State) (x : Tif) : (s.withTif x).tst = s.tst := rfl
@[simp] theorem State.withTif_blc (s : State) (x : Tif) : (s.withTif x).blc = s.blc := rfl
@[simp] theorem State.withTif_ports (s : State) (x : Tif) : (s.withTif x).ports = s.ports := rfl
@[simp] theorem State.withTif_tif (s : State) (x : Tif) : (s.withTif x).tif = x := rfl
@[simp] theorem State.withTif_links (s : State) (x : Tif) : (s.withTif x).links = s.links := rfl
@[simp] theorem State.withTif_taken (s : State) (x : Tif) : (s.withTif x).taken = s.taken := rfl
@[simp] theorem State.withTif_inReset (s : State) (x : Tif) : (s.withTif x).inReset = s.inReset := rfl
@[simp] theorem State.withTif_pending (s : State) (x : Tif) : (s.withTif x).pending = s.pending := rfl
@[simp] theorem State.withLinks_lck (s : State) (x : Links) : (s.withLinks x).lck = s.lck := rfl
@[simp] theorem State.withLinks_sch (s : State) (x : Links) : (s.withLinks x).sch = s.sch := rfl
@[simp] theorem State.withLinks_slg (s : State) (x : Links) : (s.withLinks x).slg = s.slg := rfl
@[simp] theorem State.withLinks_ntc (s : State) (x : Links) : (s.withLinks x).ntc = s.ntc := rfl
@[simp] theorem State.withLinks_cmp (s : State) (x : Links) : (s.withLinks x).cmp = s.cmp := rfl
@[simp] theorem State.withLinks_tst (s : State) (x : Links) : (s.withLinks x).tst = s.tst := rfl
@[simp] theorem State.withLinks_blc (s : State) (x : Links) : (s.withLinks x).blc = s.blc := rfl
@[simp] theorem State.withLinks_ports (s : State) (x : Links) : (s.withLinks x).ports = s.ports := rfl
@[simp] theorem State.withLinks_tif (s : State) (x : Links) : (s.withLinks x).tif = s.tif := rfl
@[simp] theorem State.withLinks_links (s : State) (x : Links) : (s.withLinks x).links = x := rfl
@[simp] theorem State.withLinks_taken (s : State) (x : Links) : (s.withLinks x).taken = s.taken := rfl
@[simp] theorem State.withLinks_inReset (s : State) (x : Links) : (s.withLinks x).inReset = s.inReset := rfl
@[simp] theorem State.withLinks_pending (s : State) (x : Links) : (s.withLinks x).pending = s.pending := rfl
@[simp] theorem State.withTaken_lck (s : State) (x : Tab 9 Nat) : (s.withTaken x).lck = s.lck := rfl
@[simp] theorem State.withTaken_sch (s : State) (x : Tab 9 Nat) : (s.withTaken x).sch = s.sch := rfl
@[simp] theorem State.withTaken_slg (s : State) (x : Tab 9 Nat) : (s.withTaken x).slg = s.slg := rfl
@[simp] theorem State.withTaken_ntc (s : State) (x : Tab 9 Nat) : (s.withTaken x).ntc = s.ntc := rfl
@[simp] theorem State.withTaken_cmp (s : State) (x : Tab 9 Nat) : (s.withTaken x).cmp = s.cmp := rfl
@[simp] theorem State.withTaken_tst (s : State) (x : Tab 9 Nat) : (s.withTaken x).tst = s.tst := rfl
@[simp] theorem State.withTaken_blc (s : State) (x : Tab 9 Nat) : (s.withTaken x).blc = s.blc := rfl
@[simp] theorem State.withTaken_ports (s : State) (x : Tab 9 Nat) : (s.withTaken x).ports = s.ports := rfl
@[simp] theorem State.withTaken_tif (s : State) (x : Tab 9 Nat) : (s.withTaken x).tif = s.tif := rfl
@[simp] theorem State.withTaken_links (s : State) (x : Tab 9 Nat) : (s.withTaken x).links = s.links := rfl
@[simp] theorem State.withTaken_taken (s : State) (x : Tab 9 Nat) : (s.withTaken x).taken = x := rfl
@[simp] theorem State.withTaken_inReset (s : State) (x : Tab 9 Nat) : (s.withTaken x).inReset = s.inReset := rfl
@[simp] theorem State.withTaken_pending (s : State) (x : Tab 9 Nat) : (s.withTaken x).pending = s.pending := rfl
@[simp] theorem State.withInReset_lck (s : State) (x : Bool) : (s.withInReset x).lck = s.lck := rfl
@[simp] theorem State.withInReset_sch (s : State) (x : Bool) : (s.withInReset x).sch = s.sch := rfl
@[simp] theorem State.withInReset_slg (s : State) (x : Bool) : (s.withInReset x).slg = s.slg := rfl
@[simp] theorem State.withInReset_ntc (s : State) (x : Bool) : (s.withInReset x).ntc = s.ntc := rfl
@[simp] theorem State.withInReset_cmp (s : State) (x : Bool) : (s.withInReset x).cmp = s.cmp := rfl
@[simp] theorem State.withInReset_tst (s : State) (x : Bool) : (s.withInReset x).tst = s.tst := rfl
@[simp] theorem State.withInReset_blc (s : State) (x : Bool) : (s.withInReset x).blc = s.blc := rfl
@[simp] theorem State.withInReset_ports (s : State) (x : Bool) : (s.withInReset x).ports = s.ports := rfl
@[simp] theorem State.withInReset_tif (s : State) (x : Bool) : (s.withInReset x).tif = s.tif := rfl
@[simp] theorem State.withInReset_links (s : State) (x : Bool) : (s.withInReset x).links = s.links := rfl
@[simp] theorem State.withInReset_taken (s : State) (x : Bool) : (s.withInReset x).taken = s.taken := rfl
@[simp] theorem State.withInReset_inReset (s : State) (x : Bool) : (s.withInReset x).inReset = x := rfl
@[simp] theorem State.withInReset_pending (s : State) (x : Bool) : (s.withInReset x).pending = s.pending := rfl
@[simp] theorem State.withPending_lck (s : State) (x : List Instr) : (s.withPending x).lck = s.lck := rfl
@[simp] theorem State.withPending_sch (s : State) (x : List Instr) : (s.withPending x).sch = s.sch := rfl
@[simp] theorem State.withPending_slg (s : State) (x : List Instr) : (s.withPending x).slg = s.slg := rfl
@[simp] theorem State.withPending_ntc (s : State) (x : List Instr) : (s.withPending x).ntc = s.ntc := rfl
@[simp] theorem State.withPending_cmp (s : State) (x : List Instr) : (s.withPending x).cmp = s.cmp := rfl
@[simp] theorem State.withPending_tst (s : State) (x : List Instr) : (s.withPending x).tst = s.tst := rfl
@[simp] theorem State.withPending_blc (s : State) (x : List Instr) : (s.withPending x).blc = s.blc := rfl
@[simp] theorem State.withPending_ports (s : State) (x : List Instr) : (s.withPending x).ports = s.ports := rfl
@[simp] theorem State.withPending_tif (s : State) (x : List Instr) : (s.withPending x).tif = s.tif := rfl
@[simp] theorem State.withPending_links (s : State) (x : List Instr) : (s.withPending x).links = s.links := rfl
@[simp] theorem State.withPending_taken (s : State) (x : List Instr) : (s.withPending x).taken = s.taken := rfl
@[simp] theorem State.withPending_inReset (s : State) (x : List Instr) : (s.withPending x).inReset = s.inReset := rfl
@[simp] theorem State.withPending_pending (s : State) (x : List Instr) : (s.withPending x).pending = x := rfl

end Sys2Proof.Machine
end

