-- ==== Sys2Proof/Laws/Shared.lean ====
section
/-! SUPPORT. What each shared operation can do, said once: tables, delivery from the parse FIFO, the requests in the links, the
rosters, the records of the ledger, and the rows issued of a pane. -/

namespace Sys2Proof

theorem Tab.modify_eq_set {n : Nat} {α : Type} (t : Tab n α) (i : Fin n) (f : α → α) : t.modify i f = t.set i (f (t.get i)) := rfl

/-- Writing back what a table holds changes nothing. -/
theorem Tab.set_get {n : Nat} {α : Type} (t : Tab n α) (i : Fin n) : t.set i (t.get i) = t := by
  apply Tab.ext_get; intro j; rw [Tab.get_set]; split <;> simp_all

/-- The later of two writes to one entry stands. -/
theorem Tab.set_set {n : Nat} {α : Type} (t : Tab n α) (i : Fin n) (a b : α) : (t.set i a).set i b = t.set i b := by
  apply Tab.ext_get; intro j; simp only [Tab.get_set]; split <;> simp_all

theorem Tab.modify_id {n : Nat} {α : Type} (t : Tab n α) (i : Fin n) : t.modify i (fun x => x) = t := Tab.set_get t i

/-- Sending nothing leaves a table of queues as it is. -/
theorem Tab.modify_append_nil {n : Nat} {α : Type} (t : Tab n (List α)) (i : Fin n) : t.modify i (fun x => x ++ []) = t := by
  simp [Tab.modify_eq_set, Tab.set_get]

theorem Tab.map_eq_make {n : Nat} {α β : Type} (t : Tab n α) (f : α → β) : t.map f = Tab.make n fun i => f (t.get i) := by
  apply Tab.ext_get; intro j; simp

/-- A table is that of its entries. -/
theorem Tab.make_get {n : Nat} {α : Type} (t : Tab n α) : (Tab.make n fun i => t.get i) = t := Tab.ext_get fun i => by simp

end Sys2Proof

namespace Sys2Proof.Machine

/-! ## Delivery -/

/-- Out of reset a block's step runs. -/
theorem running_next {s : State} (f : State → State) (h : s.inReset = false) : running s f = .next (f s) := by
  simp [running, h]

/-- While RESET_N is low it does not. -/
theorem running_inReset {s : State} (f : State → State) (h : s.inReset = true) : running s f = .next s := by
  simp [running, h]

/-- A packet that its owner is ready for leaves the FIFO, and the owner handles it. -/
theorem deliver_next {b : Block} {p : Packet} {clock : Nat} {rest : List Taken} {s : State}
    {pick : Packet → Option (Nat → State → State)} {act : Nat → State → State} (h : Delivers b p clock rest s)
    (hp : pick p = some act) : running s (deliver b pick) = .next (act clock (s.withFifo rest)) := by
  obtain ⟨⟨h1, h2⟩, h3⟩ := h
  simp [running, h1, deliver, h2, hp, h3]

/-- A packet whose owner is not ready stays. -/
theorem deliver_waits {b : Block} {s : State} (pick : Packet → Option (Nat → State → State)) (h : ready b s = false) :
    deliver b pick s = s := by
  unfold deliver
  split
  · rfl
  · split
    · rfl
    · simp [h]

/-- A packet for the TIF itself leaves the FIFO, and the TIF handles it. -/
theorem deliverTif_next {p : Packet} {clock : Nat} {rest : List Taken} {s : State} {pick : Packet → Option (State → State)}
    {act : State → State} (h : Delivers .tif p clock rest s) (hp : pick p = some act) :
    running s (deliverTif pick) = .next (act (s.withFifo rest)) := by
  obtain ⟨⟨h1, h2⟩, h3⟩ := h
  simp [running, h1, deliverTif, h2, hp, h3]

/-- A packet for the TIF stays while it has a read of its own to answer. -/
theorem deliverTif_waits {s : State} (pick : Packet → Option (State → State)) (h : ready .tif s = false) : deliverTif pick s = s := by
  unfold deliverTif
  split
  · rfl
  · split
    · rfl
    · simp [h]

theorem State.withFifo_eq (s : State) (l : List Taken) : s.withFifo l = { s with tif := { s.tif with fifo := l } } := rfl
@[simp] theorem State.withFifo_lck (s : State) (l : List Taken) : (s.withFifo l).lck = s.lck := rfl
@[simp] theorem State.withFifo_sch (s : State) (l : List Taken) : (s.withFifo l).sch = s.sch := rfl
@[simp] theorem State.withFifo_slg (s : State) (l : List Taken) : (s.withFifo l).slg = s.slg := rfl
@[simp] theorem State.withFifo_ntc (s : State) (l : List Taken) : (s.withFifo l).ntc = s.ntc := rfl
@[simp] theorem State.withFifo_cmp (s : State) (l : List Taken) : (s.withFifo l).cmp = s.cmp := rfl
@[simp] theorem State.withFifo_tst (s : State) (l : List Taken) : (s.withFifo l).tst = s.tst := rfl
@[simp] theorem State.withFifo_blc (s : State) (l : List Taken) : (s.withFifo l).blc = s.blc := rfl
@[simp] theorem State.withFifo_ports (s : State) (l : List Taken) : (s.withFifo l).ports = s.ports := rfl
@[simp] theorem State.withFifo_links (s : State) (l : List Taken) : (s.withFifo l).links = s.links := rfl
@[simp] theorem State.withFifo_taken (s : State) (l : List Taken) : (s.withFifo l).taken = s.taken := rfl
@[simp] theorem State.withFifo_inReset (s : State) (l : List Taken) : (s.withFifo l).inReset = s.inReset := rfl
@[simp] theorem State.withFifo_pending (s : State) (l : List Taken) : (s.withFifo l).pending = s.pending := rfl

/-! ## Requests and rosters -/

/-- Purges of the SCH for some slots join its link, in order. -/
theorem foldl_purge_sch (l : List (Fin 96)) (s : State) : l.foldl (fun s i => sendPurge .sch i s) s
    = { s with links := { s.links with schTst := s.links.schTst ++ l.map (mail .sch s) } } := by
  induction l generalizing s with
  | nil => simp
  | cons a l ih => simp only [List.foldl_cons, ih]; simp [sendPurge, State.withLinks, mail]

/-- Purges of the CMP for some slots join its link, in order. -/
theorem foldl_purge_cmp (l : List (Fin 96)) (s : State) : l.foldl (fun s i => sendPurge .cmp i s) s
    = { s with links := { s.links with cmpTst := s.links.cmpTst ++ l.map (mail .cmp s) } } := by
  induction l generalizing s with
  | nil => simp
  | cons a l ih => simp only [List.foldl_cons, ih]; simp [sendPurge, State.withLinks, mail]

/-- A roster built anew is stored, and a change of it is told to the CMP (R25). -/
theorem evalRoster_eq (f : Fin 8) (s : State) : evalRoster f s = { s with
    sch := { s.sch with rosters := s.sch.rosters.set f (rosterOf s.sch (s.cmp.filters.get f)) }
    links := { s.links with schCmp := s.links.schCmp ++ if rosterOf s.sch (s.cmp.filters.get f) = s.sch.rosters.get f then [] else [mail .sch s f] } } := by
  unfold evalRoster
  split
  · rename_i h; simp [h, Tab.set_get]
  · rename_i h; simp [h, sendRosterChange, State.withSch, State.withLinks, mail]

/-- Several rosters built anew, of one schedule. -/
theorem foldl_evalRoster (n : Fin 8 → List (Fin 96)) (k : Nat) (l : List (Fin 8)) (hl : l.Nodup) (s : State)
    (hn : ∀ f, rosterOf s.sch (s.cmp.filters.get f) = n f) (hk : s.taken.get (blockIx .sch) = k) :
    l.foldl (fun s f => evalRoster f s) s = { s with
      sch := { s.sch with rosters := Tab.make 8 fun f => if f ∈ l then n f else s.sch.rosters.get f }
      links := { s.links with schCmp := s.links.schCmp ++ (l.filter fun f => decide (n f ≠ s.sch.rosters.get f)).map fun f => ⟨k, f⟩ } } := by
  induction l generalizing s with
  | nil =>
    have : (Tab.make 8 fun f => s.sch.rosters.get f) = s.sch.rosters := Tab.ext_get fun i => by simp
    simp [this]
  | cons a l ih =>
    rw [List.nodup_cons] at hl
    rw [List.foldl_cons, evalRoster_eq, hn a]
    refine (ih hl.2 _ (by exact fun f => hn f) (by exact hk)).trans ?_
    have e1 : (Tab.make 8 fun f => if f ∈ l then n f else (s.sch.rosters.set a (n a)).get f)
        = Tab.make 8 fun f => if f ∈ a :: l then n f else s.sch.rosters.get f := by
      apply Tab.ext_get; intro i; simp only [Tab.get_make, Tab.get_set, List.mem_cons]
      by_cases h1 : i ∈ l
      · simp [h1]
      · by_cases h2 : a = i
        · subst h2; simp
        · simp [h1, h2, Ne.symm h2]
    have e2 : (l.filter fun f => decide (n f ≠ (s.sch.rosters.set a (n a)).get f))
        = l.filter fun f => decide (n f ≠ s.sch.rosters.get f) := by
      apply List.filter_congr; intro f hf
      have : a ≠ f := fun e => hl.1 (e ▸ hf)
      simp [this]
    simp only [e1]
    rw [e2]
    by_cases h : n a = s.sch.rosters.get a <;> simp [h, mail, hk]

/-- Every roster built anew (R25). -/
theorem evalRosters_eq (s : State) : evalRosters s = { s with
    sch := { s.sch with rosters := Tab.make 8 fun f => rosterOf s.sch (s.cmp.filters.get f) }
    links := { s.links with schCmp := s.links.schCmp ++ ((fins 8).filter fun f => decide (rosterOf s.sch (s.cmp.filters.get f) ≠ s.sch.rosters.get f)).map (mail .sch s) } } := by
  unfold evalRosters
  rw [foldl_evalRoster (fun f => rosterOf s.sch (s.cmp.filters.get f)) _ (fins 8) (List.nodup_finRange 8) s (fun _ => rfl) rfl]
  have : ∀ f, f ∈ fins 8 := fun f => List.mem_finRange f
  simp [this]; exact fun _ _ => rfl

/-! ## The ledger -/

theorem setLedger_eq (slot : Fin 96) (f : Ledger → Ledger) (s : State) : setLedger slot f s
    = { s with slg := { s.slg with ledger := s.slg.ledger.set slot (f (s.slg.ledger.get slot)) } } := rfl

/-- Two writes to one record are one. -/
theorem setLedger_setLedger (slot : Fin 96) (f g : Ledger → Ledger) (s : State) :
    setLedger slot g (setLedger slot f s) = setLedger slot (fun l => g (f l)) s := by
  simp [setLedger_eq, Tab.set_set]

/-- A record written and its oversold field brought up to date, without an event (R31, R42). -/
theorem markOversold_setLedger (slot : Fin 96) (f : Ledger → Ledger) (s : State) :
    markOversold slot (setLedger slot f s) = s.recorded slot f := by
  simp only [markOversold, setLedger_setLedger]
  rfl

/-- A record written and its oversold condition evaluated (R31). -/
theorem evalOversold_setLedger (slot : Fin 96) (f : Ledger → Ledger) (s : State) :
    evalOversold slot (setLedger slot f s) = s.tallied slot f := by
  simp only [evalOversold, markOversold_setLedger]
  simp [State.tallied, State.recorded, setLedger_eq, isOversold, post, postRecord, State.withLinks, showingId]

/-- The showing id that the SLG gives is that of the showing in the slot (log 31 where there is none). -/
@[simp] theorem showingId_some {s : State} {slot : Fin 96} {id : Nat} (h : (s.sch.showings.get slot).id = some id) :
    showingId s slot = id := by
  simp [showingId, h]

/-! ## Rows issued and purges (log 19) -/

@[simp] theorem PaneState.mark_dirty (x : PaneState) : x.mark.dirty = true := rfl
@[simp] theorem PaneState.mark_issueRow (x : PaneState) : x.mark.issueRow = 0 := rfl
@[simp] theorem PaneState.mark_cursor (x : PaneState) : x.mark.cursor = x.cursor := rfl
@[simp] theorem PaneState.mark_dwell (x : PaneState) : x.mark.dwell = x.dwell := rfl
@[simp] theorem PaneState.mark_issued (x : PaneState) : x.mark.issued = [] := rfl

/-- What a miss takes leaves the count of purges alone. -/
theorem missSlot_purged {t u : Tst} {i : Fin 96} (h : missSlot t = some (i, u)) : u.purged = t.purged := by
  unfold missSlot at h
  split at h
  · simp_all
  · cases hr : replaceable t with
    | none => simp [hr] at h
    | some j => simp only [hr, Option.map_some, Option.some.injEq, Prod.mk.injEq] at h; rw [← h.2]

/-- A lookup leaves the count of purges alone. -/
@[simp] theorem lookup_purged (key : Fin 96 × Fin 4) (cells : List Cell) (t : Tst) : (lookup key cells t).1.purged = t.purged := by
  have m : (missTile key cells t).1.purged = t.purged := by
    unfold missTile
    split
    · rfl
    · rename_i i u hu
      rw [← missSlot_purged hu]
      cases validSlot t key <;> rfl
  unfold lookup
  split
  · split
    · rfl
    · exact m
  · exact m

/-- A pane holds a condemned line exactly where some row of it was looked up before the last purge of the slot (R125). -/
theorem condemnedLine_iff (slot : Fin 96) (t : Tst) (x : PaneState) : condemnedLine slot t x = true
    ↔ ∃ r ∈ x.issued, ∃ k, r.tile = some (slot, k) ∧ k < t.purged.get slot := by
  unfold condemnedLine
  rw [List.any_eq_true]
  refine exists_congr fun r => and_congr_right fun _ => ?_
  unfold IssuedRow.condemned
  split
  · rename_i i k h
    simp only [h, Bool.and_eq_true, beq_iff_eq, decide_eq_true_eq, Option.some.injEq, Prod.mk.injEq]
    exact ⟨fun ⟨a, b⟩ => ⟨k, ⟨a, rfl⟩, b⟩, fun ⟨_, ⟨a, b⟩, c⟩ => ⟨a, b ▸ c⟩⟩
  · rename_i h; simp [h]

/-- Some pane with cells of a panel's current view meets a condition (R101). -/
theorem somePane_iff (s : State) (p : Fin 8) (cond : Pane → PaneState → Bool) : somePane s p cond = true
    ↔ ∃ j : Fin 8, ∃ x, (viewLayout s p).panes[j.val]? = some x ∧ hasCells (cmpPanel s p) x = true
      ∧ cond x ((cmpPanel s p).panes.get j) = true := by
  simp only [somePane, List.any_eq_true, Bool.and_eq_true, List.mem_iff_getElem?, Prod.exists]
  constructor
  · rintro ⟨x, y, ⟨i, hi⟩, h⟩
    rw [List.getElem?_zip_eq_some] at hi
    obtain ⟨hx, hy⟩ := hi
    obtain ⟨hlt, hy⟩ := List.getElem?_eq_some_iff.1 hy
    exact ⟨⟨i, by rw [(cmpPanel s p).panes.len] at hlt; exact hlt⟩, x, hx, h.1, by simpa [Tab.get, hy] using h.2⟩
  · rintro ⟨j, x, hx, h⟩
    refine ⟨x, _, ⟨j.val, List.getElem?_zip_eq_some.2 ⟨hx, ?_⟩⟩, h⟩
    exact List.getElem?_eq_getElem (by rw [(cmpPanel s p).panes.len]; exact j.isLt)

/-! ## Reports -/

/-- The reports and unpins of a channel, sent one after the other, are those of the channel sent together. -/
theorem State.channelled_channelled (s : State) (n : Fin 4) (c d : Channel) (r q : List FromChannel) (u v : List TileRef) :
    (s.channelled n c r u).channelled n d q v = s.channelled n d (r ++ q) (u ++ v) := by
  simp [State.channelled, Tab.modify_eq_set, Tab.set_set]

end Sys2Proof.Machine
end

