-- ==== Sys2Proof/Tests/Slice0.lean ====
section
/-! SUPPORT. The model's own tests: terms that the checks refuse; packets as bytes and figures as chapter 11 and the examples of the
chapters give them; and, for every statement with hypotheses, a named theorem with a state and operands that meet them. Expected
values stand in the spec's text. -/

namespace Sys2Proof.Machine.Tests

-- One theorem after the other: every one of them keeps the kernel busy on its own.
set_option Elab.async false

/-! ## Small states -/

/-- The state that a command leaves. -/
def after (c : Instr) (s : State) : State :=
  match exec c s with
  | .next t => t
  | .fault _ => s
  | .refused _ => s

/-- The machine with one packet in the parse FIFO, taken at clock 7. -/
def fed (p : Packet) (s : State) : State := s.withFifo [⟨p, 7⟩]

/-- The subject and details of the events a block has posted. -/
def posts (b : Block) (s : State) : List (Nat × List Nat) :=
  (s.links.posted.get (blockIx b)).map fun e => (e.subject, e.detail)

/-- The machine at another clock value. -/
def at' (clock : Nat) (s : State) : State := { s with lck := ⟨clock, decide (clock = 129599), false⟩ }

/-- The machine with a showing, a desk, a hold entry, a record, a panel of the NTC or the CMP, a port or a channel replaced. -/
def withShowing (i : Fin 96) (f : Showing → Showing) (s : State) : State :=
  { s with sch := { s.sch with showings := s.sch.showings.modify i f } }
def withDesk (d : Fin 16) (k : Desk) (s : State) : State := { s with slg := { s.slg with desks := s.slg.desks.set d k } }
def withRecord (i : Fin 96) (f : Ledger → Ledger) (s : State) : State :=
  { s with slg := { s.slg with ledger := s.slg.ledger.modify i f } }
def withNtc (p : Fin 8) (f : NtcPanel → NtcPanel) (s : State) : State :=
  { s with ntc := { s.ntc with panels := s.ntc.panels.modify p f } }
def withCmp (p : Fin 8) (f : CmpPanel → CmpPanel) (s : State) : State :=
  { s with cmp := { s.cmp with panels := s.cmp.panels.modify p f } }
def withPort (p : Fin 8) (f : Port → Port) (s : State) : State := { s with ports := s.ports.modify p f }
def withChannel (n : Fin 4) (f : Channel → Channel) (s : State) : State :=
  { s with blc := { s.blc with channels := s.blc.channels.modify n f } }
def withTile (i : Fin 96) (x : Tile) (s : State) : State := { s with tst := { s.tst with slots := s.tst.slots.set i x } }

/-- The state of a showing, and a ledger record, after a command. -/
def stateAfter (c : Instr) (s : State) (i : Fin 96) : ShowState := ((after c s).sch.showings.get i).state
def recordAfter (c : Instr) (s : State) (i : Fin 96) : Ledger := (after c s).slg.ledger.get i

/-- Layout 1 of the test lobby: one pane of each kind. -/
def panes : List Pane :=
  [⟨.listing 0 0 4, 0, 0, 2, 48⟩, ⟨.clock .follow 1 0, 2, 0, 1, 20⟩, ⟨.noticeText 1 0, 3, 0, 2, 48⟩,
    ⟨.deskStrip 1 0, 5, 0, 1, 48⟩, ⟨.trailer 0, 6, 0, 4, 16⟩, ⟨.text 0 1 0, 6, 16, 1, 8⟩]

/-- A lobby on sale: showing 100 OPEN in slot 0 with one hold, of desk 2; notices 3 and 18, the second shown on panel 0, which is LIVE
on layout 1 with a build under way. -/
def lobby : State :=
  let s := State.reset
  { s with
    lck := ⟨40000, false, false⟩
    sch := { s.sch with
      showings := s.sch.showings.set 0
        ⟨.opened, some 100, some 3, some 5, 43200, 120, .threeD, 4, true, 0, some 1, some 2, 1#8, none⟩
      list := [⟨0, 41400, .windowAt⟩]
      rosters := s.sch.rosters.set 0 [0] }
    slg := { s.slg with
      ledger := s.slg.ledger.set 0 ⟨120, 100, 6, 2, 4, 119, 39000, false, false, false, some ⟨.exact, 8, true⟩⟩
      holds := s.slg.holds.set 0 (some ⟨2, 9, 0, 4, 1⟩)
      desks := s.slg.desks.set 2 ⟨.opened, 29, 3, true, 254, 1⟩ }
    ntc := { s.ntc with
      entries := (s.ntc.entries.set 3 (some ⟨5, none, 1#8, 1, none, .lines [[72]]⟩)).set 18
        (some ⟨2, some 0, 1#8, 60, some 0, .template (some 0)⟩)
      sequence := [3, 18]
      panels := s.ntc.panels.set 0
        ⟨[⟨3, false⟩], some 18, [⟨none, 0, Tab.fill 8 0⟩], 0xFFF#12, 1#12, false, Tab.fill 12 1, true⟩
      lobbyOpen := true }
    cmp := { s.cmp with
      layouts := s.cmp.layouts.set 1 ⟨Cell.blank, panes⟩
      filters := s.cmp.filters.set 0 ⟨15#4, 8#32, 96⟩
      styles := s.cmp.styles.set 0 ⟨1, 0, [⟨.time, 0, 5, 1, 0, .left, false, false⟩]⟩
      templates := s.cmp.templates.set 0 [[.phrase 0]]
      panels := s.cmp.panels.set 0
        ⟨0, 48, 27, 60, true, some 18, some 2, 1, .normal, false, (Tab.fill 8 PaneState.clean).set 1 ⟨true, 0, 0, 0, []⟩, [5], none,
          .dirty, false, none, 5⟩ }
    tst := { s.tst with slots := s.tst.slots.set 0 ⟨.valid, some (0, 0), List.replicate 48 Cell.blank, 0, 7⟩, useList := [0] }
    ports := s.ports.set 0 { Port.reset true with mode := .live, presence := 2, mute := false, windows := 1#2 }
    pending := [.secondsPulse] }

/-- The lobby meets every invariant, and its step goes on. -/
theorem witness_invariants : (ClockOk lobby ∧ QueuesOk lobby ∧ JobsFit lobby ∧ ChannelsOk lobby ∧ GridsOk lobby ∧ ScheduleOk lobby
    ∧ HoldsOk lobby ∧ OpeningsOk lobby ∧ ResetsOk lobby ∧ NoticesOk lobby ∧ TilesOk lobby ∧ PortsOk lobby)
    ∧ ∃ t, step lobby = .next t := by
  refine ⟨⟨?_, ?_, ?_, ?_, ?_, ?_, ?_, ?_, ?_, ?_, ?_, ?_⟩, ⟨_, rfl⟩⟩ <;> decide +kernel

/-! ## Terms that the checks refuse (10.2, 10.3) -/

/-- A LISTING in range, for showing 501 of the example of 1.6. -/
def listing501 : ListingFields := ⟨3, 501, 4, 9, 68400, 110, 0, 0, 0, 0, 4, 255, 3, 180, 150, 4⟩

/-- A RAISE in range. -/
def raise7 : RaiseFields := ⟨7, 8, 1, 0, [[72, 73]]⟩

theorem test_number_fits : fits1 255 = true ∧ fits2 65535 = true ∧ fits3 16777215 = true := by decide +kernel
theorem test_number_refused : fits1 256 = false ∧ fits2 65536 = false ∧ fits3 16777216 = false := by decide +kernel
theorem test_listing_accepted : listing501.wf = true := by decide +kernel

/-- One LISTING for each field, that field one above what its bytes hold. -/
theorem test_listing_refused : ∀ f ∈
    [{ listing501 with slot := 256 }, { listing501 with id := 65536 }, { listing501 with auditorium := 256 },
      { listing501 with title := 256 }, { listing501 with start := 16777216 }, { listing501 with runtime := 65536 },
      { listing501 with format := 256 }, { listing501 with rating := 256 }, { listing501 with subtitled := 256 },
      { listing501 with boardLead := 65536 }, { listing501 with boardingClass := 256 }, { listing501 with soldoutClass := 256 },
      { listing501 with noticePanels := 256 }, { listing501 with capacity := 65536 }, { listing501 with sold := 65536 },
      { listing501 with blocked := 65536 }], f.wf = false ∧ (Packet.listing f).wf = false := by decide +kernel

theorem test_raise_refused : raise7.wf = true ∧ ∀ f ∈
    [{ raise7 with entry := 256 }, { raise7 with cls := 256 }, { raise7 with panels := 65536 }, { raise7 with lifetime := 65536 },
      { raise7 with lines := List.replicate 256 [] }, { raise7 with lines := [List.replicate 256 72] },
      { raise7 with lines := [[65536]] }], f.wf = false ∧ (Packet.raise f).wf = false := by decide +kernel

theorem test_picture_refused : (⟨7, 1, 0, 0, [0#8]⟩ : Picture).wf = true ∧ ∀ f ∈
    ([⟨256, 1, 0, 0, [0#8]⟩, ⟨7, 256, 0, 0, [0#8]⟩, ⟨7, 1, 65536, 0, [0#8]⟩, ⟨7, 1, 0, 256, [0#8]⟩, ⟨7, 1, 0, 0, []⟩,
      ⟨7, 1, 0, 0, List.replicate 1020 0#8⟩] : List Picture), f.wf = false := by decide +kernel

theorem test_packet_refused : ∀ p ∈
    [Packet.cancel 65536, .remove 65536, .tally 65536 0 0, .tally 1 65536 0, .tally 1 0 65536, .hold 256 0 1 1 0, .hold 0 256 1 1 0,
      .hold 0 0 65536 1 0, .hold 0 0 1 256 0, .hold 0 0 1 1 65536, .release 256 0 1 1 0, .release 0 256 1 1 0, .release 0 0 65536 1 0,
      .release 0 0 1 256 0, .release 0 0 1 1 256, .desk 256 1, .desk 0 256, .withdraw 256, .force 256 0, .force 0 256, .lobby 256,
      .time 16777216, .set 65536 0 [], .set 1 65536 [], .table 65536 0 [], .table 32 65536 [], .query 65536 [], .reset 256],
    p.wf = false := by decide +kernel

/-- A REPORT of 6 to 1,030 bytes whose kind is 128; and the command that stands for its arrival. -/
theorem test_report_refused : reportWf (packetBytes 128 3 [2#8]) = true
    ∧ ∀ b ∈ [packetBytes 127 3 [2#8], [], List.replicate 5 128#8, List.replicate 1031 128#8],
      reportWf b = false ∧ (Instr.passBufferReceive b).wf = false := by decide +kernel

/-! ## Packets as bytes (chapter 10) -/

/-- The bytes of chapter 10's tables, written out: LISTING, HOLD, RELEASE, RAISE, PICTURE, SET, QUERY, TIME. -/
theorem test_payloads_read :
    decodePayload 2 [3#8, 0x01#8, 0xF5#8, 4#8, 9#8, 0x01#8, 0x0B#8, 0x30#8, 0#8, 110#8, 0#8, 0#8, 0#8, 0#8, 0#8, 4#8, 255#8, 3#8, 0#8, 180#8,
      0#8, 150#8, 0#8, 4#8] = some (.fifo (.listing listing501))
    ∧ decodePayload 6 [1#8, 5#8, 0x1B#8, 0x59#8, 6#8, 0x01#8, 0xE0#8] = some (.fifo (.hold 1 5 7001 6 480))
    ∧ decodePayload 7 [1#8, 5#8, 0x1B#8, 0x59#8, 6#8, 1#8] = some (.fifo (.release 1 5 7001 6 1))
    ∧ decodePayload 9 [7#8, 8#8, 0#8, 1#8, 0#8, 0#8, 1#8, 2#8, 0#8, 72#8, 0#8, 73#8] = some (.fifo (.raise raise7))
    ∧ decodePayload 1 [7#8, 1#8, 0x12#8, 0x34#8, 5#8, 0xAB#8] = some (.picture ⟨7, 1, 0x1234, 5, [0xAB#8]⟩)
    ∧ decodePayload 14 [0#8, 11#8, 0#8, 0#8, 0#8, 120#8] = some (.fifo (.set 11 0 [0#8, 120#8]))
    ∧ decodePayload 16 [0#8, 54#8, 1#8, 5#8] = some (.fifo (.query 54 [1#8, 5#8]))
    ∧ decodePayload 13 [0x01#8, 0x0B#8, 0x94#8] = some (.fifo (.time 68500)) := by decide +kernel

/-- The length test of R197: 9 panes are walked as 9 panes; an item that is none passes at any length from 4 bytes; a byte too few or too
many fails. -/
theorem test_length_test :
    (decodePayload 15 ([0#8, 33#8, 0#8, 0#8, 0#8, 32#8, 0#8, 0#8, 9#8] ++ List.replicate 90 0#8)).isSome = true
    ∧ decodePayload 15 ([0#8, 33#8, 0#8, 0#8, 0#8, 32#8, 0#8, 0#8, 9#8] ++ List.replicate 80 0#8) = none
    ∧ (decodePayload 15 [0#8, 39#8, 0#8, 0#8]).isSome = true ∧ decodePayload 15 [0#8, 39#8, 0#8] = none
    ∧ decodePayload 14 [0#8, 11#8, 0#8, 0#8, 0#8] = none ∧ decodePayload 3 [0#8, 1#8, 0#8] = none
    ∧ decodePayload 0 [] = none ∧ decodePayload 128 [2#8] = none := by decide +kernel

/-- Packets of several kinds, at the bounds of their fields, whose payloads read back. -/
theorem witness_PacketsReadBack :
    (∀ p ∈ [Packet.time 16777215, .hold 255 255 65535 255 65535, .set 65535 65535 [], .set 18 7 [1#8], .reset 255, .listing listing501],
      p.wf = true) ∧ Reads (.set 18 7 [1#8]) ∧ Reads (.set 65535 0 []) ∧ Reads (.table 36 0 [1#8, 0#8, 72#8]) ∧ Reads (.table 39 0 [])
    ∧ Reads (.query 48 []) ∧ Reads (.query 65 [0#8, 1#8, 0#8, 0#8]) ∧ (⟨255, 255, 65535, 255, List.replicate 1019 255#8⟩ : Picture).wf = true := by
  refine ⟨by decide +kernel, ?_, ?_, ?_, ?_, ?_, ?_, by decide +kernel⟩
  · intro n h; cases h; rfl
  · intro n h; cases h
  · intro _; rfl
  · intro h; cases h
  · intro n h; cases h; rfl
  · intro n h; cases h; rfl

/-- Frames for each outcome of the test, at its bounds; and the check of R196's digits. -/
theorem witness_FramesAreTested :
    testFrame (packetBytes 255 255 []) = .good 255 255 []
    ∧ (List.replicate 1024 7#8 : List Byte).length ≤ 1024
    ∧ [0#8, 0#8] ≠ checkBytes [3#8, 0#8, 0#8, 0#8]
    ∧ testFrame ([3#8, 0#8, 0#8, 0#8] ++ [0#8, 0#8]) = .checkFailure
    ∧ testFrame [3#8, 0#8, 0#8, 0#8, 0#8] = .formatFailure
    ∧ 1024 < num2 4#8 1#8 ∧ testFrame [3#8, 0#8, 4#8, 1#8, 0#8] = .formatFailure
    ∧ check ([1#8] ++ 2#8 :: [3#8]) = check ([1#8] ++ 2#8 :: [3#8]) := by decide +kernel

/-! ## Seat figures, line texts and page counts (chapters 3, 5 and 11) -/

/-- A fresh record of the showing of 11.5 with its seats. -/
def rush (S P H : Nat) : Ledger := ⟨180, S, 4, P, H, 0, 0, false, false, false, none⟩

/-- The figure keys down the table of 11.5. -/
theorem test_opening_night_keys :
    [rush 150 0 0, rush 150 0 6, rush 150 0 14, rush 150 0 18, rush 150 0 27, rush 150 0 19, rush 150 6 13, rush 150 14 13, rush 150 23 0,
      rush 176 0 0].map (figureKey (figureSettings Slg.reset) .opened)
    = [⟨.rounded, 20, true⟩, ⟨.exact, 20, true⟩, ⟨.exact, 12, true⟩, ⟨.exact, 8, true⟩, ⟨.fullCheckBack, 0, false⟩, ⟨.exact, 7, true⟩,
      ⟨.exact, 7, true⟩, ⟨.fullCheckBack, 0, false⟩, ⟨.exact, 3, true⟩, ⟨.soldOut, 0, false⟩] := by decide +kernel

/-- The seats used, left and the fill of 2.8's and 3.1's examples. -/
theorem test_seat_examples :
    [(⟨200, 150, 6, 2, 7, 0, 0, false, false, false, none⟩ : Ledger), ⟨120, 100, 0, 0, 6, 0, 0, false, false, false, none⟩,
      ⟨999, 849, 0, 0, 0, 0, 0, false, false, false, none⟩, ⟨312, 999, 4, 0, 0, 0, 0, false, false, false, none⟩].map
      (fun l => (seatsUsed l, seatsLeft l, seatFill l))
    = [(165, 35, 82), (106, 14, 88), (849, 150, 84), (1003, 0, 100)] := by decide +kernel

/-- Figure cases at the bounds between them: plenty_limit, exact_limit and a step above the seats left (R56, R57). -/
theorem witness_FigureCases :
    let l := fun left => (⟨999, 999 - left, 0, 0, 0, 0, 0, false, false, false, none⟩ : Ledger)
    [0, 1, 20, 21, 99, 100].map (fun k => figureOf ⟨20, 10, 100, 80⟩ .listed (l k))
      = [(.soldOut, 0), (.exact, 1), (.exact, 20), (.rounded, 20), (.rounded, 90), (.goodAvailability, 0)]
    ∧ figureOf ⟨5, 50, 100, 80⟩ .opened (l 30) = (.exact, 30)
    ∧ figureOf ⟨5, 50, 100, 80⟩ .running (l 30) = (.stateShown, 0)
    ∧ figureOf ⟨5, 50, 100, 80⟩ .opened { l 30 with stale := true } = (.askAtDesk, 0)
    ∧ badgeOf ⟨20, 10, 100, 80⟩ .boarding (l 199) = true ∧ badgeOf ⟨20, 10, 100, 80⟩ .boarding (l 200) = false := by decide +kernel

/-- A state with the phrases that time texts use. -/
def phrased : State :=
  let s := State.reset
  { s with cmp := { s.cmp with phrases := ((s.cmp.phrases.set 29 [97, 109]).set 30 [112, 109]) } }

/-- 91,800 s reads "01:30" and "1:30am", and the clock's hold "11:59" (3.6). -/
theorem test_time_texts : timeText phrased false 91800 = [48, 49, 58, 51, 48] ∧ timeText phrased true 91800 = [49, 58, 51, 48, 97, 109]
    ∧ timeText phrased false 129599 = [49, 49, 58, 53, 57] ∧ timeText phrased true 43200 = [49, 50, 58, 48, 48, 112, 109] := by decide +kernel

/-- Texts at their bounds: the countdown from its first to its last minute, and before it; a slot without a showing; the lines of a notice;
a line of one field; and a phrase with spaces behind it (R62 to R65, R68, R132). -/
theorem witness_TextCases :
    let sh := lobby.sch.showings.get 0
    sh.state = .opened ∧ (lobby.sch.showings.get 1).state = .empty ∧ sh.title = some 5 ∧ sh.auditorium = some 3
    ∧ ([41399, 41400, 43141, 43199].map fun t => fieldText (at' t lobby) 0 .time) = [[49, 50, 58, 48, 48], [51, 48], [49], [49]]
    ∧ fieldText lobby 1 .time = [] ∧ fieldText lobby 0 .auditorium = [51]
    ∧ lineCount lobby 3 = 1 ∧ noticeLine lobby 3 1 = [72] ∧ lineCount lobby 4 = 0 ∧ lineCount lobby 18 = 1
    ∧ ((formatLine lobby 0 ⟨1, 0, [⟨.auditorium, 62, 2, 5, 4, .natural, false, true⟩]⟩).drop 61)
      = [⟨32, 1, 0, false, false, false⟩, ⟨32, 5, 4, false, false, true⟩, ⟨51, 5, 4, false, false, true⟩]
    ∧ sourceLine phrased 3 (.text 29 1 0)
      = some [⟨97, 1, 0, false, false, false⟩, ⟨109, 1, 0, false, false, false⟩, ⟨32, 1, 0, false, false, false⟩]
    ∧ showingId lobby 0 = 100 := by decide +kernel

/-- The CMP issues nothing while a block that it waits for has still to take a RESET that it has taken (R118, log 44). -/
theorem test_issueAwaitsTheReset :
    let during := fun waiting => { lobby with tif := { lobby.tif with resetting := some ⟨false, waiting⟩ } }
    ([[.blc], [.tst], [.sch], [.slg, .pnl]].map fun l => cmpWaits (during l)) = [true, true, true, true]
    ∧ ([[.pnl, .lck, .ntc], [.cmp, .sch]].map fun l => cmpWaits (during l)) = [false, false]
    ∧ after (.jobIssue 0) (during [.sch]) = during [.sch] := by decide +kernel

/-- SEATS shows the stored key where a pulse has moved H and the recomputation has not come yet (3.3, R63). -/
theorem test_seatsOfTheStoredKey :
    fieldText (withRecord 0 (fun l => { l with key := some ⟨.exact, 12, false⟩, H := l.C }) lobby) 0 .seats = [49, 50] := by
  decide +kernel

/-- A pane of 8 rows over 19 showings has 3 pages (5.3). -/
theorem test_page_count : pageCount 19 8 = 3 ∧ pageCount 0 8 = 1 := by decide +kernel

/-! ## The step -/

/-- The state that a step leaves. -/
def stepped (s : State) : State :=
  match step s with
  | .next t => t
  | .fault _ => s
  | .refused _ => s

theorem witness_StepTakesTheFront :
    ({ lobby with pending := [.secondsPulse, .time] } : State).pending = .secondsPulse :: [.time]
    ∧ (stepped { lobby with pending := [.secondsPulse, .time] }).lck.clock = 40001
    ∧ (stepped { lobby with pending := [.secondsPulse, .time] }).pending = [.time]
    ∧ State.reset.pending = [] ∧ (stepped State.reset).lck = State.reset.lck := by decide +kernel

/-- While RESET_N is low a pulse counts nothing, and a presence line still falls. -/
theorem witness_NothingRunsInReset :
    let s := { lobby with inReset := true }
    s.inReset = true ∧ (after .secondsPulse s).lck = s.lck ∧ ((after (.presenceFall 0) s).ports.get 0).level = false
    ∧ (after .resetNRises s).inReset = false := by decide +kernel

/-! ## The clock and the showings -/

/-- Held; a plain second; the second that raises a minute boundary; the second that reaches 129,599; and the hold's event. -/
theorem witness_SecondsMoveTheClock :
    (at' 129599 lobby).inReset = false ∧ (at' 129599 lobby).lck.held = true
    ∧ (after .secondsPulse (at' 129599 lobby)).lck.clock = 129599
    ∧ (at' 59 lobby).lck.held = false ∧ (after .secondsPulse (at' 59 lobby)).links.minutes = 1
    ∧ (after .secondsPulse (at' 60 lobby)).links.minutes = 0
    ∧ (after .secondsPulse (at' 129598 lobby)).lck = ⟨129599, true, true⟩
    ∧ ({ lobby with lck := ⟨129599, true, true⟩ } : State).lck.holdDue = true
    ∧ ((after .clockHold { lobby with lck := ⟨129599, true, true⟩ }).links.posted.get 1).map Event.kind = [.clockHeld]
    ∧ (after .clockHold (at' 5 lobby)).lck = (at' 5 lobby).lck := by decide +kernel

/-- A later, an equal and an earlier value; the top of the range; and one above it. The jump of 1.6 crosses one minute boundary. -/
theorem witness_TimeSetsTheClock :
    (∀ v ∈ [0, 40000, 68500, 129599, 16777215], Delivers .lck (.time v) 7 [] (fed (.time v) lobby))
    ∧ (after .time (fed (.time 68500) (at' 65000 lobby))).lck.clock = 68500
    ∧ (after .time (fed (.time 68500) (at' 65000 lobby))).links.minutes = 1
    ∧ (after .time (fed (.time 16777215) lobby)).lck = ⟨129599, true, true⟩
    ∧ (after .time (fed (.time 0) lobby)).links.schTst = [⟨0, 0⟩] := by decide +kernel

/-- Slot 7 of the example of 1.6. -/
def showing502 : Showing := ⟨.opened, some 502, some 2, some 0, 69300, 95, .twoD, 0, false, 600, none, none, 0#8, none⟩

/-- The entries of that example: WINDOW_AT before the countdown; MINUTE_AT 68,520 at clock 68,500, then 68,580; BOARD_AT once no minute
comes before it; and none after the start. -/
theorem witness_NextEntryOfAShowing :
    let c := Sch.reset
    nextDue c 65000 showing502 = some (67500, .windowAt) ∧ nextDue c 67499 showing502 = some (67500, .windowAt)
    ∧ nextDue c 68500 showing502 = some (68520, .minuteAt) ∧ nextDue c 68520 showing502 = some (68580, .minuteAt)
    ∧ nextDue c 68640 showing502 = some (68700, .boardAt)
    ∧ countdownEntry c 67500 showing502 = some (67560, .minuteAt) ∧ countdownEntry c 69299 showing502 = some (69300, .minuteAt)
    ∧ countdownEntry c 69300 showing502 = none
    ∧ nextDue c 69300 { showing502 with state := .boarding } = some (69300, .startAt)
    ∧ nextDue c 1 { showing502 with state := .listed } = some (54900, .openAt)
    ∧ nextDue c 1 { showing502 with state := .running } = some (70200, .endAt)
    ∧ nextDue c 1 { showing502 with state := .ended } = some (75000, .reapAt)
    ∧ nextDue c 1 Showing.empty = none := by decide +kernel

/-- The showings of the example of 1.7. -/
def rosterSch : Sch :=
  let at' := fun id (hall start : Nat) st => ({ Showing.empty with state := st, id := some id, auditorium := some hall, start := start } : Showing)
  { Sch.reset with showings := ((((Sch.reset.showings.set 10 (at' 610 2 70200 .opened)).set 11 (at' 611 1 70200 .opened)).set 12
    (at' 612 4 69600 .boarding)).set 13 (at' 613 3 71400 .opened)).set 14 (at' 614 9 69000 .opened) }

theorem witness_RosterIsInOrder : rosterOf rosterSch ⟨0b1011#4, 0b11110#32, 3⟩ = [12, 11, 10]
    ∧ (∀ i ∈ [(10 : Fin 96), 11], let x := rosterSch.showings.get i
      x.auditorium.getD 0 < 32 ∧ x.id.getD 0 < 65536) := by decide +kernel

/-- The lobby with the showing in a state and one due entry of a kind for it. -/
def due (st : ShowState) (k : EntryKind) : State :=
  withShowing 0 (fun x => { x with state := st }) { lobby with sch := { lobby.sch with list := [⟨0, 40000, k⟩] } }

/-- Each threshold and each countdown entry, due at the present clock; and a list whose head is a second away. -/
theorem witness_ScheduleFires :
    (∀ k ∈ [EntryKind.openAt, .windowAt, .minuteAt, .boardAt, .startAt, .endAt, .reapAt],
      (due .listed k).inReset = false ∧ (due .listed k).sch.list = [⟨0, 40000, k⟩] ∧ 40000 ≤ (due .listed k).lck.clock)
    ∧ (∀ st ∈ [ShowState.listed, .opened, .boarding, .running, .ended, .cancelled],
      ((due st .reapAt).sch.showings.get 0).state = st)
    ∧ (due .running .endAt).sch.lateWindow < ((due .running .endAt).sch.showings.get 0).runtime * 60
    ∧ 15 * 60 ≤ (due .running .endAt).sch.lateWindow
    ∧ (after .windowAt (due .opened .windowAt)).links.schTst = [⟨0, 0⟩]
    ∧ (after .minuteAt (due .opened .minuteAt)).sch.list = [⟨0, 41400, .windowAt⟩]
    ∧ (∀ e ∈ (at' 41399 lobby).sch.list.head?, (at' 41399 lobby).lck.clock < e.due)
    ∧ (after .windowAt (at' 41399 lobby)).sch.list = [⟨0, 41400, .windowAt⟩] := by decide +kernel

/-- BOARD_AT: the showing is BOARDING, and its boarding raise goes to the NTC (R18, R22). -/
theorem test_board_at : let t := after .boardAt (due .opened .boardAt)
    (t.sch.showings.get 0).state = .boarding ∧ t.links.schNtc = [⟨0, .autoRaise ⟨1, 0, some 100, 1#8, 0, none, 0, true⟩⟩] := by decide +kernel

/-- A LISTING of the empty slot 3, at its last second; and an update of showing 100. -/
theorem witness_ListingIsTaken :
    let f := listing501
    let g := { listing501 with slot := 0, id := 100 }
    Delivers .sch (.listing f) 7 [] (fed (.listing f) (at' 69299 { lobby with sch := { lobby.sch with list := [] } }))
    ∧ (listingShowing f).map Prod.fst = some 3 ∧ (lobby.sch.showings.get 3).state = .empty ∧ slotOf lobby 501 = none
    ∧ 69299 < f.start + lobby.sch.lateWindow
    ∧ Delivers .sch (.listing g) 7 [] (fed (.listing g) lobby) ∧ (listingShowing g).map Prod.fst = some 0
    ∧ (lobby.sch.showings.get 0).state = .opened ∧ (lobby.sch.showings.get 0).id = some g.id := by decide +kernel

/-- A LISTING refused for each reason, with its id as key. -/
theorem witness_ListingIsChecked :
    ListingInRange listing501 ∧ ¬ ListingInRange { listing501 with runtime := 401 }
    ∧ (∀ f ∈ [{ listing501 with runtime := 401 }, { listing501 with id := 100 }, { listing501 with start := 39100 }, { listing501 with slot := 0 }],
      Delivers .sch (.listing f) 7 [] (fed (.listing f) lobby))
    ∧ posts .sch (after .listing (fed (.listing { listing501 with runtime := 401 }) lobby)) = [(501, [2, 1])]
    ∧ posts .sch (after .listing (fed (.listing { listing501 with id := 100 }) lobby)) = [(100, [2, 4])]
    ∧ posts .sch (after .listing (fed (.listing { listing501 with start := 39100 }) lobby)) = [(501, [2, 6])]
    ∧ posts .sch (after .listing (fed (.listing { listing501 with slot := 0 }) lobby)) = [(501, [2, 5])]
    ∧ posts .sch (after .listing (fed (.listing { listing501 with slot := 0, id := 100 })
      (withShowing 0 (fun x => { x with state := .ended }) lobby))) = [(100, [2, 6])] := by decide +kernel

/-- CANCEL and REMOVE of a showing on sale, of one past its end, and of an id that no slot holds. -/
theorem witness_CancelAndRemove :
    Delivers .sch (.cancel 100) 7 [] (fed (.cancel 100) lobby) ∧ Delivers .sch (.remove 100) 7 [] (fed (.remove 100) lobby)
    ∧ slotOf lobby 100 = some 0 ∧ slotOf lobby 7 = none
    ∧ posts .sch (after .cancel (fed (.cancel 7) lobby)) = [(7, [3, 3])]
    ∧ posts .sch (after .remove (fed (.remove 7) lobby)) = [(7, [4, 3])]
    ∧ posts .sch (after .cancel (fed (.cancel 100) (withShowing 0 (fun x => { x with state := .ended }) lobby))) = [(100, [3, 6])]
    ∧ posts .sch (after .cancel (fed (.cancel 100) (withShowing 0 (fun x => { x with state := .cancelled }) lobby))) = [] := by decide +kernel

/-! ## The ledger -/

/-- Seats above, at and below the capacity; and a record with a key. -/
theorem witness_SeatsUsedLeftAndFill :
    let l := lobby.slg.ledger.get 0
    l.B + l.S + l.P + l.H < l.C ∧ 0 < l.C ∧ l.B ≤ 999 ∧ l.S ≤ 999 ∧ l.P ≤ 999 ∧ l.H ≤ 960
    ∧ awaitsTally lobby 0 = false ∧ l.key = some ⟨.exact, 8, true⟩ ∧ (rush 176 0 0).C ≤ seatsUsed (rush 176 0 0) := by decide +kernel

/-- A TALLY for a showing on sale, for one past its end, and for an id that no showing has. The excess of R31's example is 687. -/
theorem witness_TallyIsTaken :
    let p := Packet.tally 100 65535 0
    Delivers .slg p 7 [] (fed p lobby) ∧ ledgerSlot lobby 100 = some 0 ∧ ledgerSlot lobby 501 = none
    ∧ (recordAfter .tally (fed p lobby) 0).S = 999 ∧ (recordAfter .tally (fed p lobby) 0).stamp = 7
    ∧ posts .slg (after .tally (fed p (withRecord 0 (fun l => { l with C := 312 }) lobby))) = [(0, [687, 100])]
    ∧ posts .slg (after .tally (fed (.tally 501 1 1) lobby)) = [(501, [5, 3])]
    ∧ posts .slg (after .tally (fed p (withShowing 0 (fun x => { x with state := .ended }) lobby))) = [(100, [5, 7])] := by decide +kernel

/-- The lobby with one request of the SCH on its way to the SLG. -/
def slgMail (x : ToSlg) : State := { lobby with links := { lobby.links with schSlg := [⟨0, x⟩] } }

/-- A listing tally of a new listing and of an update; the state changes that keep, drop and empty. -/
theorem witness_ScheduleReachesTheLedger :
    (∀ x ∈ [ToSlg.listingTally 0 200 65535 4 9 true, .listingTally 0 200 100 4 9 false, .stateChange 0 .boarding 0, .stateChange 0 .ended 3,
        .stateChange 0 .empty 4],
      (slgMail x).inReset = false ∧ (slgMail x).slg.stage = .idle ∧ (slgMail x).links.schSlg = [⟨0, x⟩]
        ∧ (slgMail x).taken.get (blockIx .slg) ≤ 0)
    ∧ (recordAfter .listingTally (slgMail (.listingTally 0 200 65535 4 9 true)) 0).S = 999
    ∧ (recordAfter .listingTally (slgMail (.listingTally 0 200 100 4 9 false)) 0).H = 4
    ∧ (recordAfter .stateChange (slgMail (.stateChange 0 .boarding 0)) 0).H = 4
    ∧ (recordAfter .stateChange (slgMail (.stateChange 0 .ended 3)) 0).H = 0
    ∧ (recordAfter .stateChange (slgMail (.stateChange 0 .empty 4)) 0).C = 0 := by decide +kernel

/-- A HOLD accepted with 1 and 15 seats, an amended one, and each refusal in the order of R38. -/
theorem witness_HoldIsTaken :
    (∀ p ∈ [Packet.hold 2 5 100 1 0, .hold 2 5 100 15 29, .hold 2 9 100 15 1801, .hold 16 5 100 1 0, .hold 3 5 100 1 0, .hold 2 5 501 1 0,
        .hold 2 5 100 0 0, .hold 2 5 100 16 0],
      Delivers .slg p 7 [] (fed p lobby))
    ∧ (lobby.slg.desks.get 2).state = .opened ∧ findHold lobby.slg 2 5 = none ∧ freeHold lobby.slg = some 1
    ∧ findHold lobby.slg 2 9 = some 0 ∧ lobby.slg.holds.get 0 = some ⟨2, 9, 0, 4, 1⟩ ∧ onSale (lobby.sch.showings.get 0).state = true
    ∧ (recordAfter .hold (fed (.hold 2 5 100 15 29) lobby) 0).H = 19
    ∧ (after .hold (fed (.hold 2 5 100 15 29) lobby)).slg.holds.get 1 = some ⟨2, 5, 0, 15, 30⟩
    ∧ (after .hold (fed (.hold 2 9 100 15 1801) lobby)).slg.holds.get 0 = some ⟨2, 9, 0, 15, 1800⟩
    ∧ (recordAfter .hold (fed (.hold 2 9 100 15 1801) lobby) 0).H = 15
    ∧ posts .slg (after .hold (fed (.hold 16 5 100 1 0) lobby)) = [(16, [6, 1])]
    ∧ posts .slg (after .hold (fed (.hold 3 5 100 1 0) lobby)) = [(3, [6, 8])]
    ∧ posts .slg (after .hold (fed (.hold 2 5 501 1 0) lobby)) = [(501, [6, 3])]
    ∧ posts .slg (after .hold (fed (.hold 2 5 100 16 0) lobby)) = [(2, [6, 1])]
    ∧ posts .slg (after .hold (fed (.hold 2 5 100 1 0) { lobby with slg := { lobby.slg with
        holds := Tab.make 64 fun i => some ⟨3, i.val, 1, 1, 9⟩ } })) = [(2, [6, 9])] := by decide +kernel

/-- The desk of 2.8 and its hold, with one second left. -/
def desk3 : State :=
  { withRecord 0 (fun l => { l with C := 150, S := 120, B := 2, P := 0, H := 5 })
      (withDesk 3 ⟨.opened, 8, 0, true, 0, 1⟩ (withDesk 2 Desk.closed lobby)) with
    slg := { (withRecord 0 (fun l => { l with C := 150, S := 120, B := 2, P := 0, H := 5 })
      (withDesk 3 ⟨.opened, 8, 0, true, 0, 1⟩ (withDesk 2 Desk.closed lobby))).slg with
      holds := lobby.slg.holds.set 0 (some ⟨3, 40, 0, 5, 1⟩) } }

/-- A release meets its expiry (2.8): the release taken first, and the late release; and the refusals. With 146 seats sold the release
oversells and posts (R31), with excess 146 + 2 + 5 - 150; the late one oversells and posts nothing (R42). -/
theorem witness_ReleaseIsTaken :
    (∀ p ∈ [Packet.release 3 40 100 5 1, .release 3 41 100 15 1, .release 3 41 501 1 1, .release 3 41 501 1 0, .release 16 40 100 5 1,
        .release 3 40 100 0 1, .release 3 40 100 16 1, .release 3 40 100 5 2, .release 4 40 100 5 1],
      Delivers .slg p 7 [] (fed p desk3))
    ∧ findHold desk3.slg 3 40 = some 0 ∧ findHold desk3.slg 3 41 = none ∧ ledgerSlot desk3 100 = some 0
    ∧ (let l := recordAfter .release (fed (.release 3 40 100 5 1) desk3) 0
      l.H = 0 ∧ l.P = 5 ∧ seatsUsed l = 127 ∧ seatsLeft l = 23)
    ∧ (recordAfter .release (fed (.release 3 41 100 15 1) desk3) 0).P = 15
    ∧ ((after .release (fed (.release 3 41 501 1 0) desk3)).slg.desks.get 3).lateReleases = 1
    ∧ (let full := withRecord 0 (fun l => { l with C := 150, S := 146, B := 2, P := 0, H := 5 }) desk3
      let kept := fed (.release 3 40 100 5 1) full
      let late := fed (.release 3 41 100 15 1) full
      Delivers .slg (.release 3 41 100 15 1) 7 [] late
      ∧ (recordAfter .release kept 0).oversold = true ∧ posts .slg (after .release kept) = [(0, [3, 100])]
      ∧ (recordAfter .release late 0).oversold = true ∧ posts .slg (after .release late) = [])
    ∧ posts .slg (after .release (fed (.release 3 40 100 5 2) desk3)) = [(3, [7, 1])]
    ∧ posts .slg (after .release (fed (.release 4 40 100 5 1) desk3)) = [(4, [7, 8])] := by decide +kernel

/-- The three steps of a pulse (R50): the hold of one second expires; the tally of age 119 becomes stale; the desk of gap 29 falls silent. -/
theorem witness_SecondsReachTheLedger :
    let s := { lobby with links := { lobby.links with pulseSlg := 1 } }
    let u := { lobby with slg := { lobby.slg with stage := .ages } }
    let v := { lobby with slg := { lobby.slg with stage := .desks } }
    s.slg.stage = .idle ∧ 0 < s.links.pulseSlg ∧ s.inReset = false
    ∧ (after .holdExpiry s).slg.holds.get 0 = none ∧ (recordAfter .holdExpiry s 0).H = 0 ∧ (after .holdExpiry s).slg.touched.get 0 = true
    ∧ (recordAfter .tallyStale u 0).stale = true ∧ posts .slg (after .tallyStale u) = [(0, [100, 120])]
    ∧ ((after .deskSilence v).slg.desks.get 2).state = .silent ∧ posts .slg (after .deskSilence v) = [(2, [30, 1])] := by decide +kernel

/-- OPEN, CLOSE and BEAT of an OPEN, a SILENT and a CLOSED desk; a desk above 15; an operation that is none. In 2.8 the counter of 12
becomes the last gap. -/
theorem witness_DeskOperations :
    let s := withDesk 5 ⟨.opened, 12, 0, true, 0, 0⟩ (withDesk 6 ⟨.silent, 30, 30, true, 0, 0⟩ lobby)
    (∀ p ∈ [Packet.desk 5 1, .desk 5 2, .desk 5 3, .desk 6 1, .desk 6 2, .desk 6 3, .desk 7 1, .desk 7 2, .desk 15 3, .desk 16 1, .desk 16 2,
        .desk 16 3, .desk 5 0, .desk 5 4, .hold 6 1 100 1 0, .hold 7 1 100 1 0, .release 6 1 100 1 0, .release 7 1 100 15 1], Delivers .slg p 7 [] (fed p s))
    ∧ (after .deskBeat (fed (.desk 5 3) s)).slg.desks.get 5 = ⟨.opened, 0, 12, true, 0, 0⟩
    ∧ (after .deskOpen (fed (.desk 6 1) s)).slg.desks.get 6 = ⟨.opened, 0, 0, false, 0, 0⟩
    ∧ (after .deskClose (fed (.desk 6 2) s)).slg.desks.get 6 = ⟨.closed, 30, 30, false, 0, 0⟩
    ∧ (after .deskClose (fed (.desk 2 2) s)).slg.holds.get 0 = none
    ∧ posts .slg (after .deskBeat (fed (.desk 6 3) s)) = [(6, [8, 8])]
    ∧ posts .slg (after .release (fed (.release 7 1 100 15 1) s)) = [(7, [7, 8])]
    ∧ posts .slg (after .deskOpen (fed (.desk 16 1) s)) = [(16, [8, 1])]
    ∧ posts .slg (after .deskBadOperation (fed (.desk 5 4) s)) = [(5, [8, 1])] := by decide +kernel

/-! ## Notices -/

/-- A RAISE of a FREE entry, a re-raise of a shown and of a pending one, and the refusals; and a re-raise on one panel, in both sets, in
the new one, in the old one and in neither. -/
theorem witness_RaiseIsTaken :
    (∀ f ∈ [{ raise7 with entry := 17, cls := 11, lifetime := 4 }, { raise7 with entry := 3, cls := 5, panels := 255 },
        { raise7 with entry := 3, cls := 11 }, { raise7 with entry := 18 }, { raise7 with panels := 256 },
        { raise7 with lines := [[1], [2], [3], [4]] }, { raise7 with lines := [List.replicate 65 72] }],
      Delivers .ntc (.raise f) 7 [] (fed (.raise f) lobby))
    ∧ lobby.ntc.entries.get 17 = none ∧ (lobby.ntc.entries.get 3).isSome = true
    ∧ (∀ p, some (3 : Fin 24) ∉ shownViews (lobby.ntc.panels.get p))
    ∧ ((after .raise (fed (.raise { raise7 with entry := 17, cls := 11, lifetime := 4 }) lobby)).ntc.entries.get 17).map Notice.lifetime = some 5
    ∧ (after .raise (fed (.raise { raise7 with entry := 17, cls := 11 }) lobby)).ntc.sequence = [3, 18, 17]
    ∧ ((after .raise (fed (.raise { raise7 with entry := 17, cls := 1 }) lobby)).ntc.panels.get 0).view = some 17
    ∧ posts .ntc (after .raise (fed (.raise { raise7 with entry := 18 }) lobby)) = [(18, [9, 1])]
    ∧ posts .ntc (after .raise (fed (.raise { raise7 with panels := 256 }) lobby)) = [(7, [9, 1])]
    ∧ posts .ntc (after .raise (fed (.raise { raise7 with entry := 3, cls := 5 })
        (withNtc 0 (fun x => { x with view := some 3 }) lobby))) = []
    ∧ posts .ntc (after .raise (fed (.raise { raise7 with entry := 3, cls := 6 })
        (withNtc 0 (fun x => { x with view := some 3 }) lobby))) = [(3, [9, 12])]
    ∧ ((1#8).getLsbD 0 = true ∧ (1#8).getLsbD 7 = false ∧ (128#8).getLsbD 7 = true)
    ∧ (rePanel 18 1#8 1#8 false 0 lobby).links.ntcCmp = [⟨0, .content 0⟩]
    ∧ (ntcPanel (rePanel 3 1#8 128#8 false 0 lobby) 0).waiting = []
    ∧ (ntcPanel (rePanel 3 1#8 128#8 false 7 lobby) 7).waiting = [⟨3, false⟩] := by decide +kernel

/-- The boarding raise of showing 100. -/
def boarding100 : AutoRaise := ⟨1, 0, some 100, 1#8, 0, none, 0, true⟩

/-- An auto raise from each sender, into the lowest FREE entry above 18, and with none FREE; and the reports at the SCH. -/
theorem witness_AutoRaiseIsTaken :
    let s := { lobby with links := { lobby.links with schNtc := [⟨0, .autoRaise boarding100⟩], slgNtc := [⟨0, { boarding100 with boarding := false }⟩] } }
    let full := { s with ntc := { s.ntc with entries := Tab.fill 24 (s.ntc.entries.get 18) } }
    s.inReset = false ∧ s.taken.get (blockIx .ntc) ≤ 0 ∧ s.ntc.entries.get 19 = none ∧ (∀ f : Fin 24, 18 ≤ f.val → f < 19 → (s.ntc.entries.get f).isSome = true)
    ∧ ((after (.autoRaise .sch) s).ntc.entries.get 19).map Notice.cls = some 1
    ∧ (after (.autoRaise .sch) s).links.ntcSch = [⟨0, .raiseReport 0 (some 100) (some 19)⟩]
    ∧ (after (.autoRaise .slg) s).links.ntcSch = []
    ∧ (∀ f : Fin 24, 18 ≤ f.val → (full.ntc.entries.get f).isSome = true)
    ∧ posts .ntc (after (.autoRaise .sch) full) = [(100, [0, 10])]
    ∧ (let t := withShowing 0 (fun x => { x with state := .boarding })
        { lobby with links := { lobby.links with ntcSch := [⟨0, .raiseReport 0 (some 100) (some 19)⟩] } }
      t.taken.get (blockIx .sch) ≤ 0 ∧ ((after .raiseReport t).sch.showings.get 0).autoEntry = some 19)
    ∧ (let t := withShowing 0 (fun x => { x with autoEntry := some 19 })
        { lobby with links := { lobby.links with ntcSch := [⟨0, .autoFree 19 0⟩] } }
      ((after .autoFreeReport t).sch.showings.get 0).autoEntry = none)
    ∧ (after .filterLoadReport { lobby with links := { lobby.links with cmpSch := [7] } }).links.cmpSch = [] := by decide +kernel

/-- WITHDRAW, SALE_END and NOTICE_EXPIRY with an entry to free; and an entry as the view over BASE, pending, and not on the panel. -/
theorem witness_EntriesAreRetired :
    let sale := { lobby with links := { lobby.links with schNtc := [⟨0, .saleEnd 0⟩] } }
    let pulse := { lobby with links := { lobby.links with pulseNtc := 1 } }
    (∀ k ∈ [3, 18, 23, 24], Delivers .ntc (.withdraw k) 7 [] (fed (.withdraw k) lobby))
    ∧ posts .ntc (after .withdraw (fed (.withdraw 24) lobby)) = [(24, [10, 1])]
    ∧ (after .withdraw (fed (.withdraw 18) lobby)).ntc.sequence = [3]
    ∧ ((after .withdraw (fed (.withdraw 18) lobby)).ntc.panels.get 0).view = some 3
    ∧ HeldOnce 18 (lobby.ntc.panels.get 0) ∧ HeldOnce 3 (lobby.ntc.panels.get 0) ∧ (entryPanels lobby 3).getLsbD 0 = true
    ∧ (entryPanels lobby 3).getLsbD 7 = false
    ∧ sale.taken.get (blockIx .ntc) ≤ 0 ∧ (after .saleEnd sale).ntc.sequence = [3] ∧ (after .saleEnd sale).links.ntcBlc = [18]
    ∧ 0 < pulse.links.pulseNtc ∧ (after .noticeExpiry pulse).ntc.sequence = [18]
    ∧ (lobby.ntc.panels.get 0).view = some 18 ∧ (lobby.ntc.panels.get 0).stack = [⟨none, 0, Tab.fill 8 0⟩]
    ∧ (ntcPanel (retireFrom 18 0 lobby) 0).view = none ∧ (lobby.ntc.panels.get 0).view ≠ some 3
    ∧ (ntcPanel (retireFrom 3 0 lobby) 0).waiting = []
    ∧ (retireAll 18 lobby).ntc.entries.get 18 = none ∧ (retireAll 18 lobby).links.ntcSch = [⟨0, .autoFree 18 0⟩]
    ∧ layoutNow lobby 0 none = 0 ∧ layoutNow lobby 0 (some 18) = 1 := by decide +kernel

/-- FORCE on a LIVE panel and on another; each refusal; and the three LOBBY rows. -/
theorem witness_ForceAndLobbyMode :
    (∀ p ∈ [Packet.force 3 0, .force 3 7, .force 24 0, .force 3 8, .force 4 0, .force 18 0, .lobby 0, .lobby 1, .lobby 2],
      Delivers .ntc p 7 [] (fed p lobby))
    ∧ ((after .force (fed (.force 3 0) lobby)).ntc.panels.get 0).view = some 3
    ∧ ((after .force (fed (.force 3 7) lobby)).ntc.panels.get 7).waiting = [⟨3, true⟩]
    ∧ posts .ntc (after .force (fed (.force 24 0) lobby)) = [(24, [11, 1])]
    ∧ posts .ntc (after .force (fed (.force 3 8) lobby)) = [(3, [11, 1])]
    ∧ posts .ntc (after .force (fed (.force 4 0) lobby)) = [(4, [11, 1])]
    ∧ posts .ntc (after .force (fed (.force 18 0) lobby)) = [(18, [11, 11])]
    ∧ (after .lobbyClosed (fed (.lobby 0) lobby)).ntc.lobbyOpen = false
    ∧ (after .lobbyOpen (fed (.lobby 1) (after .lobbyClosed (fed (.lobby 0) lobby)))).ntc.lobbyOpen = true
    ∧ posts .ntc (after .lobbyBadMode (fed (.lobby 2) lobby)) = [(0, [12, 1])]
    ∧ insertForced 9 [⟨2, true⟩, ⟨3, false⟩] = [⟨2, true⟩, ⟨9, true⟩, ⟨3, false⟩]
    ∧ classShown lobby.ntc 2 (ntcPanel lobby 0) = true ∧ classShown lobby.ntc 5 (ntcPanel lobby 0) = false
    ∧ lobby.ntc.entries.get 18 ≠ none ∧ lobby.ntc.entries.get 4 = none := by decide +kernel

/-- Panel 6 of 11.6 at second 40: three contexts, so entry 2 goes back to pending when the announcement is taken. -/
def deep : State :=
  let n := fun (c : Fin 12) => some (⟨c, none, 64#8, 0, none, .lines [[72]]⟩ : Notice)
  withNtc 6 (fun x => { x with
      live := true, waiting := [⟨0, false⟩], view := some 2
      stack := [⟨some 4, 7, Tab.fill 8 0⟩, ⟨some 7, 6, Tab.fill 8 0⟩, ⟨none, 0, (Tab.fill 8 0).set 1 3⟩] })
    { lobby with ntc := { lobby.ntc with
        entries := ((((lobby.ntc.entries.set 0 (n 0)).set 2 (n 2)).set 4 (n 5)).set 7 (n 8)).set 9 (n 1) } }

/-- Takes with room on the stack and with none, as 11.6 tells; the candidate there; and the pending list in order. -/
theorem witness_TakesAreEvaluated :
    (lobby.ntc.panels.get 0).stack.length < 3 ∧ (lobby.ntc.entries.get 3).isSome = true
    ∧ 3 ≤ (deep.ntc.panels.get 6).stack.length ∧ (deep.ntc.panels.get 6).view = some 2
    ∧ (ntcPanel deep 6).live = true ∧ (ntcPanel deep 7).live = false ∧ isCandidate deep.ntc (ntcPanel deep 6) 0 = true
    ∧ ((ntcPanel deep 6).waiting.find? fun w => isCandidate deep.ntc (ntcPanel deep 6) w.entry) = some ⟨0, false⟩
    ∧ ((ntcPanel lobby 0).waiting.find? fun w => isCandidate lobby.ntc (ntcPanel lobby 0) w.entry) = none
    ∧ (let x := ntcPanel (evalTakes 6 deep) 6
      x.view = some 0 ∧ x.waiting = [⟨2, false⟩] ∧ x.stack = (ntcPanel deep 6).stack)
    ∧ insertWaiting deep.ntc 9 [⟨2, false⟩] = [⟨9, false⟩, ⟨2, false⟩]
    ∧ ([⟨2, true⟩, ⟨9, false⟩] : List Waiting).Pairwise (fun a b => a.forced = true ∨ (b.forced = false ∧ pendsBefore deep.ntc b.entry a.entry = false))
    ∧ pendsBefore lobby.ntc 18 3 = true ∧ pendsBefore lobby.ntc 3 3 = false ∧ shownView lobby 0 = (1, Tab.fill 8 0)
    ∧ (let on := fun v => ({ lobby with links := { lobby.links with ntcCmp := [⟨0, .view ⟨0, some 3, some 5, some 1, Tab.fill 8 0⟩⟩, v, ⟨0, .content 0⟩] } } : State)
      shownView (on ⟨0, .view ⟨0, none, none, none, (Tab.fill 8 0).set 1 3⟩⟩) 0 = (0, Tab.fill 8 0)
      ∧ shownView (on ⟨0, .view ⟨1, none, none, none, Tab.fill 8 0⟩⟩) 0 = (1, Tab.fill 8 0)) := by
  decide +kernel

/-- Panel 5 of 11.7: when it becomes LIVE, the forced entry 13 is taken, and then entry 12 over it; a forced entry whose class is
shown is pending again without its mark. -/
theorem witness_PresenceReachesTheNotices :
    let n := fun (c : Fin 12) => some (⟨c, none, 32#8, 0, none, .lines [[72]]⟩ : Notice)
    let s := withNtc 5 (fun x => { x with waiting := [⟨13, true⟩, ⟨12, false⟩] }) { lobby with
      ntc := { lobby.ntc with entries := (lobby.ntc.entries.set 12 (n 2)).set 13 (n 6) }
      links := { lobby.links with pnlNtc := (lobby.links.pnlNtc.set 5 [.live]).set 0 [.waiting] } }
    s.inReset = false ∧ s.links.pnlNtc.get 5 = [.live] ∧ s.links.pnlNtc.get 0 = [.waiting]
    ∧ (s.ntc.panels.get 5).waiting.length ≤ 24 ∧ (s.ntc.panels.get 5).waiting.Pairwise (fun a b => b.forced = true → a.forced = true)
    ∧ (let x := (after (.presenceReportNtc 5) s).ntc.panels.get 5
      x.view = some 12 ∧ x.waiting = [] ∧ x.stack.map Context.view = [some 13, none])
    ∧ (presenceOnWay s 5).length = 0 ∧ ((after (.presenceReportNtc 0) s).ntc.panels.get 0).live = false
    ∧ (let t := { s with links := { s.links with pnlCmp := s.links.pnlCmp.set 5 [.presence .live] } }
      (presenceOnWay t 5).length = 1 ∧ after (.presenceReportNtc 5) t = t)
    ∧ (ntcPanel (forcedLoop 24 5 s) 5).view = some 13 ∧ (ntcPanel s 0).waiting = [⟨3, false⟩]
    ∧ (some 18 ∈ shownViews (ntcPanel s 0) ∧ classOf s.ntc 18 = classOf s.ntc 12)
    ∧ (∀ f, some f ∈ shownViews (ntcPanel s 5) → classOf s.ntc f ≠ classOf s.ntc 13)
    ∧ (ntcPanel (forcedStep 12 0 s) 0).waiting = [⟨12, false⟩, ⟨3, false⟩] := by decide +kernel

/-! ## Composition -/

/-- The dirty panes of a panel. -/
def dirty (p : Fin 8) (s : State) : List (Fin 8) := (fins 8).filter fun i => ((s.cmp.panels.get p).panes.get i).dirty

/-- The lobby with no pane of panel 0 dirty and one request of each kind for the CMP. -/
def told : State :=
  withCmp 0 (fun c => { c with panes := Tab.fill 8 PaneState.clean, build := .clean })
    { lobby with links := { lobby.links with
        minutes := 1, slgCmp := [⟨0, ()⟩], ntcCmp := [⟨0, .content 0⟩], tstCmp := [⟨0, .purged 0⟩], schCmp := [⟨0, 0⟩], pulseCmp := 1 } }

/-- Each cause and the pane that it marks on layout 1; a roster change also corrects a cursor past the last page, and a purge report also
finds a line that was looked up before the purge and has left the page. -/
theorem witness_CausesMarkPanes :
    told.inReset = false ∧ 0 < told.links.minutes ∧ told.links.slgCmp = [⟨0, ()⟩] ∧ told.links.ntcCmp = [⟨0, .content 0⟩]
    ∧ told.links.tstCmp = [⟨0, .purged 0⟩] ∧ told.links.schCmp = [⟨0, 0⟩] ∧ told.taken.get (blockIx .cmp) ≤ 0
    ∧ dirty 0 (after .minuteBoundary told) = [1] ∧ dirty 0 (after .deskChange told) = [3] ∧ dirty 0 (after .noticeContentChange told) = [2]
    ∧ dirty 0 (after .purgeReport told) = [0, 2] ∧ dirty 0 (after .rosterChange told) = [0]
    ∧ (let s := withCmp 0 (fun c => { c with panes := c.panes.set 0 ⟨false, 0, 1, 3, []⟩ }) told
      ((after .rosterChange s).cmp.panels.get 0).panes.get 0 = ⟨true, 0, 0, 0, []⟩)
    ∧ (let moved := fun k => withCmp 0 (fun c => { c with panes := c.panes.set 0 ⟨false, 2, 0, 0, [⟨some (0, k), [0]⟩]⟩ }) { told with
          sch := { told.sch with rosters := Tab.fill 8 [] }, tst := { told.tst with purged := told.tst.purged.set 0 1 } }
      dirty 0 (after .purgeReport (moved 0)) = [0, 2] ∧ dirty 0 (after .purgeReport (moved 1)) = [2]) := by decide +kernel

/-- A mark that spreads to the pane over it, and one that names nothing; and a LISTING pane of two pages at its dwell. -/
theorem witness_MarksSpreadAndPagesTurn :
    let l : Layout := ⟨Cell.blank, [⟨.text 0 1 0, 0, 0, 1, 8⟩, ⟨.text 1 1 0, 0, 7, 1, 2⟩, ⟨.text 2 1 0, 0, 9, 1, 2⟩, ⟨.text 3 1 0, 27, 0, 1, 2⟩]⟩
    let c := told.cmp.panels.get 0
    let s := withCmp 0 (fun c => { c with panes := c.panes.set 0 ⟨false, 0, 1, 3, []⟩ })
      { told with sch := { told.sch with rosters := told.sch.rosters.set 0 [0, 1, 2, 3] } }
    (fins 8).map (fun i => ((markPanes l (fun i _ => i == 0) c).panes.get i).dirty)
      = [true, true, false, false, false, false, false, false]
    ∧ (markPanes l (fun i _ => i == 0) c).build = .dirty ∧ (markPanes l (fun i _ => i == 3) c) = c
    ∧ 0 < s.links.pulseCmp ∧ pagesOf s (cmpPanel s 0) ⟨.listing 0 0 4, 0, 0, 2, 48⟩ = 2
    ∧ ((after .pageAdvance s).cmp.panels.get 0).panes.get 0 = ⟨true, 0, 0, 0, []⟩
    ∧ ((after .pageAdvance told).cmp.panels.get 0).panes.get 0 = PaneState.clean := by decide +kernel

/-- A view change to a notice of class 0, whose layout is 1: the announce lane, and all six panes marked. -/
theorem witness_ViewChangeIsTaken :
    let v : ViewChange := ⟨4, some 3, some 0, some 1, (Tab.fill 8 0).set 0 1⟩
    let s := { lobby with links := { lobby.links with ntcCmp := [⟨0, .view v⟩] } }
    let c := (after .viewChange s).cmp.panels.get 4
    s.inReset = false ∧ s.taken.get (blockIx .cmp) ≤ 0 ∧ dirty 4 (after .viewChange s) = [0, 1, 2, 3, 4, 5]
    ∧ c.lane = .announce ∧ c.view = some 3 ∧ (c.panes.get 0).cursor = 0 ∧ c.build = .dirty
    ∧ (after .viewChange s).links.cmpBlc.get 0 = [.cancel 4]
    ∧ ((applyView ⟨0, none, none, none, Tab.fill 8 1⟩ lobby).cmp.panels.get 0).layout = 0
    ∧ (((repaintAt 0 (Tab.fill 8 0) lobby).cmp.panels.get 0).panes.get 5) = ⟨true, 0, 0, 0, []⟩ := by decide +kernel

/-- JOB_ISSUE where R112 does not allow it, with a full queue, of the COPY, of the background, of a row that needs no tile, of one that
is a hit, of one that finds no tile, and with nothing dirty. -/
theorem witness_JobIssueFollowsPrecedence :
    let c0 := fun f => withCmp 0 f lobby
    let full := withChannel 0 (fun c => { c with normal := List.replicate 16 ⟨4, 1, .normal, .copy, some 48, 0, 0, 9, 0, none⟩ }) lobby
    let row := fun i => c0 fun c => { c with panes := (Tab.fill 8 PaneState.clean).set i ⟨true, 0, 0, 0, []⟩ }
    let pinned := { row 0 with tst := { (row 0).tst with slots := Tab.fill 96 ⟨.valid, some (9, 0), [], 1, 0⟩, useList := fins 96 } }
    lobby.inReset = false ∧ (cmpPanel lobby 0).live = true ∧ (lobby.ports.get 0).mode = .live ∧ (cmpPanel lobby 0).build = .dirty
    ∧ cmpWaits lobby = false ∧ ((after (.jobIssue 1) lobby).cmp.panels.get 1).jobNumber = 0
    ∧ ((after (.jobIssue 0) full).cmp.panels.get 0).stall = some (.queueFull .normal)
    ∧ (after (.jobIssue 0) (c0 fun c => { c with build := .syncing, copyDue := true })).links.cmpBlc.get 0
      = [.job ⟨0, 6, .normal, .copy, some 48, 0, 0, 1296, 0, none⟩]
    ∧ (after (.jobIssue 0) (c0 fun c => { c with backgroundDue := true, jobNumber := 65535 })).links.cmpBlc.get 0
      = [.job ⟨0, 0, .normal, .fill Cell.blank, some 48, 0, 0, 1296, 0, none⟩]
    ∧ (after (.jobIssue 0) (row 5)).links.cmpBlc.get 0 = [.job ⟨0, 6, .normal, .text 0 1 0, none, 6, 16, 8, 0, none⟩]
    ∧ rowNeed (row 0) (cmpPanel (row 0) 0) ⟨.listing 0 0 4, 0, 0, 2, 48⟩ 0 0 = .tile 0 0
    ∧ (let need := fun k row => rowNeed lobby (cmpPanel lobby 0) ⟨k, 3, 0, 2, 48⟩ 0 row
      let space : Cell := ⟨32, 1, 0, false, false, false⟩
      need (.listing 0 0 4) 1 = .source (.fill space) ∧ need (.listing 7 0 4) 0 = .source (.text 34 1 0)
      ∧ need (.listing 7 0 4) 1 = .source (.fill space) ∧ need (.trailer 1) 0 = .source (.fill ⟨32, 0, 0, true, false, false⟩)
      ∧ need (.deskStrip 1 0) 0 = .source (.desk 1 0) ∧ need (.clock .h12 1 0) 0 = .source (.clock .h12 1 0)
      ∧ need (.text 9 1 0) 1 = .source (.fill space) ∧ need (.noticeText 1 0) 0 = .source (.notice 18 1 1 0)
      ∧ need (.noticeText 1 0) 1 = .source (.fill space))
    ∧ (after (.jobIssue 0) (row 0)).links.cmpBlc.get 0 = [.job ⟨0, 6, .normal, .tile ⟨0, 7⟩, none, 0, 0, 48, 0, none⟩]
    ∧ ((after (.jobIssue 0) (row 0)).cmp.panels.get 0).panes.get 0 = ⟨true, 1, 0, 0, [⟨some (0, 0), [0]⟩]⟩
    ∧ ((after (.jobIssue 0) (row 5)).cmp.panels.get 0).panes.get 5 = ⟨false, 1, 0, 0, []⟩
    ∧ ((after (.jobIssue 0) pinned).cmp.panels.get 0).stall = some .noTile
    ∧ ((after (.jobIssue 0) (c0 fun c => { c with panes := Tab.fill 8 PaneState.clean, outstanding := [] })).cmp.panels.get 0).build
      = .ready := by decide +kernel

/-- The four job reports, for a job outstanding and for one that is not; and the reports that end a stall. -/
theorem witness_JobReportsAreTaken :
    let s := fun x => withCmp 0 (fun c => { c with panes := Tab.fill 8 PaneState.clean, build := .building })
      { lobby with links := { lobby.links with blcCmp := lobby.links.blcCmp.set 0 [x] } }
    let c := fun t : State => t.cmp.panels.get 0
    (s (.completed 0 5)).inReset = false ∧ (c (s (.completed 0 5))).outstanding = [5]
    ∧ (c (after (.jobCompletedReport 0) (s (.completed 0 5)))).build = .ready
    ∧ (c (after (.jobCompletedReport 0) (withCmp 0 (fun c => { c with build := .syncing }) (s (.completed 0 5))))).build = .clean
    ∧ (c (after (.jobDiscardedReport 0) (s (.discarded 0 5)))).outstanding = []
    ∧ (c (after (.jobAbandonedReport 0) (s (.abandoned 0 4)))).outstanding = [5]
    ∧ (c (after (.jobClearedReport 0) (s (.cleared 0 5)))).backgroundDue = true
    ∧ (c (after (.queueRoomReport 0) (withCmp 0 (fun c => { c with stall := some (.queueFull .normal) }) (s (.room .normal))))).stall = none
    ∧ (let unpin := fun s => after .unpinReport ({ s with links := { s.links with tstCmp := [⟨0, .unpinned⟩] } } : State)
      let t := unpin (withCmp 0 (fun c => { c with stall := some .noTile, backgroundDue := true }) lobby)
      (c t).stall = none ∧ t.links.cmpBlc.get 0 = [.job ⟨0, 6, .normal, .fill Cell.blank, some 48, 0, 0, 1296, 0, none⟩]
      ∧ (unpin lobby).links.cmpBlc.get 0 = []) := by decide +kernel

/-- The reports of a port: LIVE, not LIVE, a geometry, and a cleared grid before and after the CMP has taken the same RESET. -/
theorem witness_PortReportsAreTaken :
    let s := fun x => ({ lobby with links := { lobby.links with pnlCmp := lobby.links.pnlCmp.set 0 [x] } } : State)
    let c := fun t : State => t.cmp.panels.get 0
    (s (.presence .live)).inReset = false ∧ (s (.presence .live)).links.pnlCmp.get 0 = [.presence .live]
    ∧ (c (after (.presenceReportCmp 0) (s (.presence .live)))).backgroundDue = true
    ∧ (c (after (.presenceReportCmp 0) (s (.presence .dark)))).live = false
    ∧ dirty 0 (after (.presenceReportCmp 0) (s (.presence .waiting))) = [0, 1, 2, 3, 4, 5]
    ∧ (c (after (.geometryReport 0) (s (.geometry 16 9 50)))).columns = 16
    ∧ 0 ≤ lobby.taken.get (blockIx .cmp) ∧ (after (.gridClearedReport 0) (s (.gridCleared 0))).links.cmpPnl.get 0 = [.cleared 0]
    ∧ lobby.taken.get (blockIx .cmp) < 1
    ∧ (after (.gridClearedReport 0) (s (.gridCleared 1))).links.pnlCmp.get 0 = [.gridCleared 1] := by decide +kernel

/-! ## Tiles -/

/-- A purge of slot 0 from each sender, of a tile without and with pins; and unpins that find their tile, at one pin and at 16, and not. -/
theorem witness_PurgesAndUnpins :
    let s := { lobby with links := { lobby.links with schTst := [⟨0, 0⟩], slgTst := [⟨0, 0⟩], cmpTst := [⟨0, 0⟩], blcTst := lobby.links.blcTst.set 3 [⟨0, 7⟩] } }
    let tile := fun st pins => (⟨st, some (0, 0), [], pins, 7⟩ : Tile)
    s.inReset = false ∧ s.taken.get (blockIx .tst) ≤ 0
    ∧ (∀ b ∈ [PurgeSender.sch, .slg, .cmp], purgeLink b s.links = [⟨0, 0⟩] ∧ ((after (.purge b) s).tst.slots.get 0).state = .free
      ∧ (after (.purge b) s).tst.purged = s.tst.purged.set 0 1
      ∧ (after (.purge b) s).links.tstCmp = [⟨0, .purged 0⟩])
    ∧ ((after (.purge .sch) (withTile 0 (tile .valid 1) s)).tst.slots.get 0).state = .purging
    ∧ s.links.blcTst.get 3 = [⟨0, 7⟩] ∧ ((after (.unpin 3) s).tst.slots.get 0).pins = 0
    ∧ (after (.unpin 3) (withTile 0 (tile .valid 16) s)).links.tstCmp = [⟨0, .unpinned⟩]
    ∧ ((after (.unpin 3) (withTile 0 (tile .valid 2) s)).tst.slots.get 0).pins = 1
    ∧ (after (.unpin 3) (withTile 0 (tile .valid 2) s)).links.tstCmp = []
    ∧ (after (.unpin 3) (withTile 0 (tile .purging 1) s)).tst.slots.get 0 = ⟨.free, none, [], 0, 7⟩ := by decide +kernel

/-- A hit below the pin limit; at the limit the tile is condemned and another formatted; a store without a FREE slot; and one where
every tile is pinned. -/
theorem witness_LookupHitsOrFormats :
    let t := lobby.tst
    let atLimit := { t with slots := t.slots.set 0 ⟨.valid, some (0, 0), [], 16, 7⟩ }
    let full := { t with slots := (Tab.fill 96 ⟨.valid, some (9, 0), [], 1, 3⟩).set 0 ⟨.valid, some (8, 0), [], 0, 65535⟩, useList := fins 96 }
    let pinned := { full with slots := full.slots.set 0 ⟨.valid, some (8, 0), [], 1, 7⟩ }
    validSlot t (0, 0) = some 0 ∧ (t.slots.get 0).pins < 16 ∧ (lookup (0, 0) [] t).2 = some ⟨0, 7⟩
    ∧ validSlot atLimit (0, 0) = some 0 ∧ 16 ≤ (atLimit.slots.get 0).pins ∧ (lookup (0, 0) [] atLimit).2 = some ⟨1, 1⟩
    ∧ ((lookup (0, 0) [] atLimit).1.slots.get 0).state = .purging
    ∧ validSlot full (0, 0) = none ∧ (lookup (0, 0) [] full).2 = some ⟨0, 0⟩ ∧ (lookup (0, 0) [] full).1.replacements = 1
    ∧ (lookup (0, 0) [] pinned).2 = none ∧ (lookup (0, 0) [] pinned).1.noTile = 1 := by decide +kernel

/-! ## Channels -/

/-- Jobs of panel 0 and panel 4, both served by channel 0: a normal FILL of 9 cells and an announce FILL of 1. -/
def fill0 : Job := ⟨0, 5, .normal, .fill ⟨65, 1, 0, false, false, false⟩, none, 26, 39, 9, 0, none⟩
def call4 : Job := ⟨4, 9, .announce, .fill Cell.blank, none, 0, 0, 1, 0, none⟩

/-- The lobby with channel 0 in a state. -/
def chan (c : Channel) : State := withChannel 0 (fun _ => c) lobby

/-- Channel 0 with a current job in a port phase. -/
def busy (x : PortPhase) : Channel := ⟨.active, [], [], some fill0, none, x, 0#8, none, ⟨0, 0, 0, 0, 0, 0⟩⟩

/-- What a channel has in hand after a command: state, current, aside, port phase. -/
def hand (c : Instr) (s : State) : ChanState × Option Nat × Option Nat × PortPhase :=
  let x := (after c s).blc.channels.get 0
  (x.state, x.current.map Job.number, x.aside.map Job.number, x.phase)

/-- What channel 0 has in hand when it chooses: state, current, and how many jobs wait. -/
def chosen (c : Channel) : ChanState × Option Nat × Nat :=
  let x := (choose 0 (chan c)).blc.channels.get 0
  (x.state, x.current.map Job.number, x.normal.length + x.announce.length)

/-- A job on its way to channel 0. -/
def arrives (j : Job) (s : State) : State := { s with links := { s.links with cmpBlc := s.links.cmpBlc.set 0 [.job j] } }

/-- Channel 0 with its unit of `k` cells in writing on panel 0. -/
def writing (c : Channel) (k : Nat) : State :=
  { chan c with blc := { (chan c).blc with
      unit := some ⟨0, 0, (List.range k).map fun i => (1703 + i, ⟨65, 1, 0, false, false, false⟩)⟩ } }

/-- The choices of a channel, in their order, with a head for a panel that is LIVE and for one that is not; and arrivals at an IDLE
channel, with channels_run on and off, at one that yields, and at others. -/
theorem witness_JobsArriveAndStart :
    let free := { busy .none with current := none }
    let live4 := fun s => withPort 4 (fun x => { x with mode := .live, level := true }) s
    (lobby.ports.get 0).mode = .live ∧ ¬ (lobby.ports.get 4).mode = .live
    ∧ [{ free with announce := [{ call4 with panel := 0 }], aside := some fill0 }, { free with announce := [call4], aside := some fill0 },
        { free with aside := some fill0, normal := [fill0] }, { free with normal := [fill0] },
        { free with normal := [{ fill0 with panel := 4 }] }].map chosen
      = [(.active, some 9, 0), (.active, some 5, 0), (.active, some 5, 1), (.active, some 5, 0), (.idle, none, 0)]
    ∧ (arrives fill0 lobby).inReset = false ∧ (arrives fill0 lobby).links.cmpBlc.get 0 = [.job fill0]
    ∧ [arrives fill0 lobby, arrives fill0 { lobby with blc := { lobby.blc with run := false } },
        arrives call4 (live4 (chan (busy .requesting))), arrives call4 (chan (busy .writing)),
        arrives fill0 (chan { busy .none with state := .fault })].map (hand (.jobArrival 0))
      = [(.active, some 5, none, .requesting), (.stopped, none, none, .none), (.active, some 9, some 5, .requesting),
        (.active, some 5, none, .writing), (.fault, some 5, none, .none)] := by decide +kernel

/-- A cancel for a channel that chooses again, for a STOPPED one left without work, for a faulted one, and for one in writing; and an
entry-free notice for a started job of the entry. -/
theorem witness_JobsAreCancelledOrBlanked :
    let cancels := fun s => ({ s with links := { s.links with cmpBlc := s.links.cmpBlc.set 0 [.cancel 0] } } : State)
    let s := cancels (chan { busy .requesting with normal := [fill0] })
    let line := List.replicate 9 (⟨65, 1, 0, false, false, false⟩ : Cell)
    let note : Job := { fill0 with source := .notice 3 0 1 0, done := 8, line := some line }
    let freed := { chan { busy .requesting with current := some note } with links := { lobby.links with ntcBlc := [3] } }
    s.inReset = false ∧ s.links.cmpBlc.get 0 = [.cancel 0]
    ∧ hand (.jobCancel 0) s = (.idle, none, none, .none)
    ∧ (after (.jobCancel 0) s).links.blcCmp.get 0 = [.discarded 0 5, .room .normal, .abandoned 0 5]
    ∧ hand (.jobCancel 0) (cancels (chan { busy .none with state := .stopped })) = (.idle, none, none, .none)
    ∧ hand (.jobCancel 0) (cancels (chan { busy .none with state := .fault })) = (.fault, some 5, none, .none)
    ∧ ((after (.jobCancel 0) (cancels (chan (busy .writing)))).blc.channels.get 0).cancelPending = 1#8
    ∧ freed.links.ntcBlc = [3] ∧ freed.inReset = false
    ∧ (((after .entryFreeNotice freed).blc.channels.get 0).current.bind Job.line)
      = some (line.take 8 ++ [⟨32, 1, 0, false, false, false⟩]) := by decide +kernel

/-- No request; one; an announce request before a normal one of a lower channel; rotation after channel 3; the fixed order; a busy port;
a unit that passes, one of a place outside the grid, and one without its tile. -/
theorem witness_UnitIsGranted :
    let two := fun rotating last (c1 : Channel) => ({ lobby.blc with
      channels := (lobby.blc.channels.set 0 (busy .requesting)).set 2 c1, rotating := rotating, lastGranted := last } : Blc)
    let job := fun j => chan { busy .requesting with current := some j }
    let tile : Job := { fill0 with column := 0, source := .tile ⟨0, 7⟩ }
    granted lobby.blc = none ∧ granted (chan (busy .requesting)).blc = some 0
    ∧ granted (two false 3 { busy .requesting with current := some call4 }) = some 2
    ∧ granted (two true 0 (busy .requesting)) = some 2 ∧ granted (two false 0 (busy .requesting)) = some 0
    ∧ (chan (busy .requesting)).inReset = false ∧ (chan (busy .requesting)).blc.unit = none
    ∧ hand .unitGrant (chan (busy .requesting)) = (.active, some 5, none, .writing)
    ∧ ((after .unitGrant (chan (busy .requesting))).blc.unit.map fun u => u.cells.map Prod.fst)
      = some [1703, 1704, 1705, 1706, 1707, 1708, 1709, 1710]
    ∧ hand .unitGrant (job { fill0 with column := 41 }) = (.fault, some 5, none, .none)
    ∧ posts .blc (after .unitGrant (job { fill0 with column := 41 })) = [(0, [1, 0])]
    ∧ hand .unitGrant (job tile) = (.active, some 5, none, .writing)
    ∧ posts .blc (after .unitGrant (job { tile with source := .tile ⟨0, 8⟩ })) = [(0, [2, 0])]
    ∧ (after .unitGrant { chan (busy .requesting) with blc := { (chan (busy .requesting)).blc with unit := some ⟨1, 0, []⟩ } }).blc.unit
      = some ⟨1, 0, []⟩ := by decide +kernel

/-- A unit written: the job goes on, is complete, is cancelled, yields to an announce job, and stops; and its cells on the shadow grid. -/
theorem witness_UnitIsWritten :
    (writing (busy .writing) 8).inReset = false ∧ (writing (busy .writing) 8).blc.unit ≠ none ∧ (busy .writing).current = some fill0
    ∧ [writing (busy .writing) 8, writing (busy .writing) 9, writing { busy .writing with cancelPending := 1#8 } 8,
        writing { busy .writing with announce := [{ call4 with panel := 0 }] } 8, writing { busy .none with state := .fault } 8].map
        (hand .unitWritten)
      = [(.active, some 5, none, .requesting), (.idle, none, none, .none), (.idle, none, none, .none),
        (.active, some 9, some 5, .requesting), (.fault, some 5, none, .none)]
    ∧ (let t := writing (busy .writing) 8
      hand .unitWritten { t with blc := { t.blc with run := false } } = (.stopped, some 5, none, .none))
    ∧ ((after .unitWritten (writing (busy .writing) 8)).ports.get 0).grid1.length = 8
    ∧ GridsOk (writing (busy .writing) 8)
    ∧ [1703, 1710].map ((after .unitWritten (writing (busy .writing) 8)).ports.get 0).grid1.read = List.replicate 2 ⟨65, 1, 0, false, false, false⟩
    ∧ (((after .unitWritten (writing (busy .writing) 8)).ports.get 0).grid1.read 1711) = Cell.blank
    ∧ ((after .unitWritten (writing (busy .writing) 8)).ports.get 0).grid0 = [] := by decide +kernel

/-! ## Panel ports -/

/-- A frame of panel 0 as a port begins it. -/
def frame48 (number : Nat) : Frame := ⟨number, 48, 27, 60, false, false⟩

/-- A frame start that swaps; one that finds the build not READY; one that takes a geometry; one behind a segment; one of a DARK port;
one whose geometry report is on its way; purge reports on their way, of a line from before the purge, of one from after it, of another slot and
of an earlier epoch; roster changes on their way, with rows from before and after, of another filter, and with rows of one roster; and one
in pin reset. A window opens from its pane's first row and column on; and a frame of two cells goes out whole and cut. -/
theorem witness_FrameStarts :
    let ready := withCmp 0 (fun c => { c with build := .ready, panes := Tab.fill 8 PaneState.clean, outstanding := [] }) lobby
    let x := fun s => (after (.frameStart 0) s).ports.get 0
    ready.inReset = false ∧ (ready.ports.get 0).mode = .live ∧ (ready.ports.get 0).swapHold = false
    ∧ (ready.cmp.panels.get 0).build = .ready ∧ ready.links.pnlCmp.get 0 = []
    ∧ (x ready).activeOne = true ∧ (x ready).frame = some (frame48 1)
    ∧ ((after (.frameStart 0) ready).cmp.panels.get 0).build = .syncing
    ∧ (x lobby).activeOne = false ∧ (x lobby).phase = .grid
    ∧ (let t := after (.frameStart 0) (withPort 0 (fun x => { x with geometryPending := some (16, 9), frameNumber := 65535 }) ready)
      (t.ports.get 0).frame = some ⟨0, 16, 9, 60, true, false⟩ ∧ t.links.pnlCmp.get 0 = [.geometry 16 9 60])
    ∧ (x (withPort 0 (fun x => { x with phase := .segment, segment := some ⟨0, 0, 0, []⟩ }) lobby)).frameWaiting = some (frame48 1)
    ∧ (x (withPort 0 (fun x => { x with enable := false, mode := .dark }) lobby)).frame = none
    ∧ (let s := { ready with links := { ready.links with pnlCmp := ready.links.pnlCmp.set 0 [.geometry 48 27 60] } }
      (x s).frame = some (frame48 1) ∧ (x s).activeOne = false)
    ∧ (let made := fun rows s => withCmp 0 (fun c => { c with panes := c.panes.set 0 ⟨false, 2, 0, 0, rows⟩ })
          ({ s with tst := { s.tst with purged := s.tst.purged.set 0 1 } } : State)
      let purge := fun (slot : Fin 96) k => made [⟨some (0, k), [0]⟩] { ready with links := { ready.links with tstCmp := [⟨0, .purged slot⟩] } }
      (x (purge 0 0)).activeOne = false ∧ (x (purge 0 1)).activeOne = true ∧ (x (purge 95 0)).activeOne = true
      ∧ (x { purge 0 0 with taken := (purge 0 0).taken.set (blockIx .cmp) 1 }).activeOne = true
      ∧ (x { purge 95 0 with links := { (purge 95 0).links with schCmp := [⟨0, 0⟩] } }).activeOne = true
      ∧ (let change := fun f rows => made rows { ready with links := { ready.links with schCmp := [⟨0, f⟩] } }
        (x (change 0 [⟨none, [0]⟩, ⟨none, []⟩])).activeOne = false ∧ (x (change 1 [⟨none, [0]⟩, ⟨none, []⟩])).activeOne = true
        ∧ (x (change 0 [⟨none, [0]⟩, ⟨none, [0]⟩])).activeOne = true))
    ∧ (x { lobby with inReset := true }).frame = some (frame48 1)
    ∧ (let windows := fun rows columns =>
        trailerWindows { cmpPanel lobby 0 with rows := rows, columns := columns } ⟨Cell.blank, [⟨.trailer 1, 9, 16, 4, 16⟩]⟩
      windows 9 64 = 0#2 ∧ windows 10 17 = 2#2 ∧ windows 36 16 = 0#2)
    ∧ (let y : Port := { lobby.ports.get 0 with phase := .grid, frame := some ⟨256, 2, 1, 50, false, true⟩, grid0 := [(1, ⟨577, 1, 2, true, false, true⟩)] }
      let head : List Byte := [1#8, 0#8, 2#8, 1#8, 50#8, 0#8, 32#8, 0#8, 0#8]
      y.sending 2 = .sof :: (head ++ [2#8, 65#8, 0x12#8, 5#8]).map .data
      ∧ y.sending 1 = .sof :: (head ++ [0#8, 32#8, 0#8, 0#8]).map .data) := by decide +kernel

/-- What a link sends when it falls idle, and each way of a PICTURE. -/
theorem witness_SegmentsPassTheGate :
    let g : Segment := ⟨0, 1, 2, [3#8]⟩
    let x := fun c s => (after c s).ports.get 0
    let pic := fun (f : Picture) s => ({ s with tif := { s.tif with pictures := [⟨f, 7⟩] } } : State)
    let port := fun f => withPort 0 f lobby
    lobby.inReset = false ∧ (lobby.ports.get 0).phase = .idle
    ∧ (x (.linkPhaseIdle 0) (port fun x => { x with phase := .segment, segment := some g, frameWaiting := some (frame48 1) })).frame = some (frame48 1)
    ∧ (x (.linkPhaseIdle 0) (port fun x => { x with phase := .grid, frame := some (frame48 1), buffer := [g, g] })).segment = some g
    ∧ (let y := x (.linkPhaseIdle 0) (port fun x => { x with phase := .segment, segment := some g, buffer := [{ g with window := 1 }], gated := 65535 })
      y.phase = .idle ∧ y.gated = 65535)
    ∧ (pic ⟨0, 0, 1, 2, [3#8]⟩ lobby).tif.pictures = [⟨⟨0, 0, 1, 2, [3#8]⟩, 7⟩]
    ∧ (x .picture (pic ⟨0, 0, 1, 2, [3#8]⟩ lobby)).segment = some g
    ∧ (x .picture (pic ⟨0, 1, 1, 2, [3#8]⟩ lobby)).gated = 1
    ∧ (x .picture (pic ⟨0, 0, 1, 2, [3#8]⟩ (port fun x => { x with phase := .grid, frame := some (frame48 1), buffer := [g] }))).buffer = [g, g]
    ∧ (let t := after .picture (pic ⟨0, 0, 1, 2, [3#8]⟩ (port fun x => { x with phase := .grid, frame := some (frame48 1), buffer := [g, g] }))
      (t.ports.get 0).dropped = 1 ∧ t.tif.flags.pictureDrop = true)
    ∧ posts .tif (after .picture (pic ⟨8, 0, 1, 2, [3#8]⟩ lobby)) = [(8, [1, 1])]
    ∧ posts .tif (after .picture (pic ⟨7, 2, 1, 2, [3#8]⟩ lobby)) = [(7, [1, 1])]
    ∧ (lobby.ports.get 0).sending 0 = [.idle] ∧ ({ lobby.ports.get 0 with enable := false, mode := .dark } : Port).sending 0 = []
    ∧ ({ lobby.ports.get 0 with phase := .segment, segment := some ⟨1, 515, 2, [3#8]⟩ } : Port).sending 0
      = .sos :: [.data 1#8, .data 2#8, .data 3#8, .data 2#8, .data 0#8, .data 1#8, .data 3#8]
    ∧ (x (.linkPhaseIdle 0) { port fun x => { x with phase := .grid, frame := some (frame48 1) } with inReset := true }).phase = .idle := by
  decide +kernel

/-- A segment buffered under the old windows, behind the frame of a swap to a layout without its window: the frame ends when the report
has been taken, and the segment is then gated (8.5, R166). -/
theorem test_windowReportFirst :
    let g : Segment := ⟨0, 1, 2, [3#8]⟩
    let s := withPort 0 (fun x => { x with phase := .grid, frame := some (frame48 1), buffer := [g] })
      { lobby with links := { lobby.links with cmpPnl := lobby.links.cmpPnl.set 0 [.windows 0 0#2] } }
    let early := (after (.linkPhaseIdle 0) s).ports.get 0
    let late := (after (.linkPhaseIdle 0) (after (.openWindowsReport 0) s)).ports.get 0
    early.phase = .grid ∧ early.buffer = [g] ∧ late.phase = .idle ∧ late.segment = none ∧ late.gated = 1 := by decide +kernel

/-- A presence line falling at a LIVE, a WAITING and a DARK port; the two pulses of R152; and the CMP's two messages. -/
theorem witness_PresenceAndAnswersAtAPort :
    let g : Segment := ⟨0, 1, 2, [3#8]⟩
    let x := fun c s => (after c s).ports.get 0
    let wait := fun n => { withPort 0 (fun x => { x with mode := .waiting, mute := true, presence := n }) lobby with
      links := { lobby.links with pulsePnl := lobby.links.pulsePnl.set 0 1 } }
    let falls := withPort 0 (fun x => { x with phase := .segment, segment := some g, buffer := [g, g] }) lobby
    let sent := fun m => ({ lobby with links := { lobby.links with cmpPnl := lobby.links.cmpPnl.set 0 [m] } } : State)
    falls.inReset = false ∧ (falls.ports.get 0).level = true ∧ (falls.ports.get 0).mode = .live
    ∧ (x (.presenceFall 0) falls).mode = .waiting ∧ posts .pnl (after (.presenceFall 0) falls) = [(0, [3, 0])]
    ∧ (x (.presenceFall 0) (wait 1)).presence = 0
    ∧ (x (.presenceFall 0) (withPort 0 (fun x => { x with enable := false, mode := .dark }) lobby)).level = false
    ∧ (lobby.ports.get 1).level = false ∧ ((after (.presenceRise 1) lobby).ports.get 1).level = true
    ∧ 0 < (wait 0).links.pulsePnl.get 0 ∧ (x (.panelBack 0) (wait 0)).presence = 1 ∧ (x (.panelBack 0) (wait 1)).mode = .live
    ∧ posts .pnl (after (.panelBack 0) (wait 1)) = [(0, [48, 27])]
    ∧ (x (.panelBack 0) (withPort 0 (fun x => { x with level := false }) (wait 1))).presence = 0
    ∧ (sent (.windows 0 2#2)).links.cmpPnl.get 0 = [.windows 0 2#2] ∧ (x (.openWindowsReport 0) (sent (.windows 0 2#2))).windows = 2#2
    ∧ (x (.gridClearedAnswer 0) (withPort 0 (fun x => { x with swapHold := true }) (sent (.cleared 0)))).swapHold = false
    ∧ (let later := fun s => ({ s with taken := s.taken.set (blockIx .pnl) 1 } : State)
      (x (.openWindowsReport 0) (later (sent (.windows 0 2#2)))).windows = 1#2
      ∧ (x (.gridClearedAnswer 0) (later (withPort 0 (fun x => { x with swapHold := true }) (sent (.cleared 0))))).swapHold = true) := by decide +kernel

/-! ## Settings, tables, queries -/

/-- A SET of an item, its value in two bytes. -/
def set2 (item key v : Nat) : Packet := .set item key (put2 v)

/-- SETs of the schedule's four items; of clock_format, arbitration and channels_run with 0, 1 and 2; and channels_run on again. -/
theorem witness_ScheduleAndChannelSettings :
    let off := withChannel 0 (fun _ => { busy .none with state := .stopped }) { lobby with blc := { lobby.blc with run := false } }
    (∀ i ∈ [1, 2, 3, 4], Delivers .sch (set2 i 0 65535) 7 [] (fed (set2 i 0 65535) lobby))
    ∧ (∀ v ∈ [0, 1, 2], Delivers .cmp (set2 13 0 v) 7 [] (fed (set2 13 0 v) lobby)
      ∧ Delivers .blc (set2 14 0 v) 7 [] (fed (set2 14 0 v) lobby) ∧ Delivers .blc (set2 15 0 v) 7 [] (fed (set2 15 0 v) lobby))
    ∧ (after .setListLead (fed (set2 1 0 599) lobby)).sch.listLead = 600
    ∧ (after .setLateWindow (fed (set2 4 0 3601) lobby)).sch.lateWindow = 3600
    ∧ (after .setClockFormat (fed (set2 13 0 1) lobby)).cmp.twelveHour = true
    ∧ posts .cmp (after .setClockFormat (fed (set2 13 0 2) lobby)) = [(13, [14, 1])]
    ∧ (after .setArbitration (fed (set2 14 0 0) lobby)).blc.rotating = false
    ∧ posts .blc (after .setChannelsRun (fed (set2 15 0 2) lobby)) = [(15, [14, 1])]
    ∧ lobby.blc.run = true ∧ off.blc.run = false
    ∧ hand .setChannelsRun (fed (set2 15 0 0) (chan (busy .requesting))) = (.stopped, some 5, none, .none)
    ∧ hand .setChannelsRun (fed (set2 15 0 1) off) = (.active, some 5, none, .requesting) := by decide +kernel

/-- SETs of the SLG's items at and past their bounds: hold_period 10 stores 30 and fast_pct 120 stores 100 (9.5). -/
theorem witness_LedgerSettings :
    (∀ i ∈ [5, 6, 7, 8, 9, 10, 11, 12], Delivers .slg (set2 i 0 10) 7 [] (fed (set2 i 0 10) lobby))
    ∧ inLedger lobby 0 = true ∧ (after .setHoldPeriod (fed (set2 5 0 10) lobby)).slg.holdPeriod = 30
    ∧ (after .setSilenceLimit (fed (set2 6 0 251) lobby)).slg.silenceLimit = 250
    ∧ (recordAfter .setStaleLimit (fed (set2 7 0 119) lobby) 0).stale = true
    ∧ (recordAfter .setStaleLimit (fed (set2 7 0 119) lobby) 0).key = some ⟨.askAtDesk, 0, false⟩
    ∧ (recordAfter .setStaleLimit (fed (set2 7 0 120) (withRecord 0 (fun l => { l with stale := true }) lobby)) 0).stale = false
    ∧ (after .setFastPct (fed (set2 11 0 120) lobby)).slg.fastPct = 100
    ∧ (recordAfter .setFastPct (fed (set2 11 0 120) lobby) 0).key = some ⟨.exact, 8, false⟩
    ∧ (recordAfter .setExactLimit (fed (set2 8 0 0) (withRecord 0 (fun l => { l with S := 89 }) lobby)) 0).key = some ⟨.rounded, 10, true⟩
    ∧ (recordAfter .setPlentyLimit (fed (set2 10 0 8) lobby) 0).key = some ⟨.goodAvailability, 0, true⟩
    ∧ (after .setSoldoutLifetime (fed (set2 12 0 601) lobby)).slg.soldoutLifetime = 600
    ∧ (after .setStep (fed (set2 9 0 50) lobby)).slg.step = 50
    ∧ posts .slg (after .setStep (fed (set2 9 0 11) lobby)) = [(9, [14, 1])] := by decide +kernel

/-- A SET with a value of one byte. -/
def set1 (item key v : Nat) : Packet := .set item key (put1 v)

/-- The per-panel SETs of the NTC and the CMP, at panel 7 and past it, in and out of range. -/
theorem witness_PanelSettings :
    (∀ p ∈ [set2 16 7 4095, set2 16 8 0, set2 17 7 4096, set1 18 7 1, set1 18 7 2, set1 19 (7 * 256 + 11) 15, set1 19 2048 0, set1 19 12 0],
      Delivers .ntc p 7 [] (fed p lobby))
    ∧ (∀ p ∈ [set1 20 7 15, set1 20 7 16, set1 20 8 0], Delivers .cmp p 7 [] (fed p lobby))
    ∧ ((after .setEnableMask (fed (set2 16 7 0) lobby)).ntc.panels.get 7).enableMask = 0#12
    ∧ ((after .setClosedMask (fed (set2 17 7 4095) lobby)).ntc.panels.get 7).closedMask = 4095#12
    ∧ posts .ntc (after .setClosedMask (fed (set2 17 7 4096) lobby)) = [(17, [14, 1])]
    ∧ posts .ntc (after .setEnableMask (fed (set2 16 8 0) lobby)) = [(16, [14, 2])]
    ∧ ((after .setNoticeHold (fed (set1 18 7 1) lobby)).ntc.panels.get 7).hold = true
    ∧ (after .setNoticeLayout (fed (set1 19 2 15) lobby)).links.ntcCmp = [⟨0, .view ⟨0, some 18, some 2, some 15, Tab.fill 8 0⟩⟩]
    ∧ posts .ntc (after .setNoticeLayout (fed (set1 19 12 0) lobby)) = [(19, [14, 1])]
    ∧ posts .ntc (after .setNoticeLayout (fed (set1 19 2048 0) lobby)) = [(19, [14, 2])]
    ∧ ((after .setBaseLayout (fed (set1 20 7 15) lobby)).cmp.panels.get 7).layout = 15
    ∧ ((after .setBaseLayout (fed (set1 20 0 15) lobby)).cmp.panels.get 0).layout = 1
    ∧ posts .cmp (after .setBaseLayout (fed (set1 20 7 16) lobby)) = [(20, [14, 1])] := by decide +kernel

/-- The per-panel SETs of the ports, and CHANNEL_CLEAR of a channel in FAULT, of another and of none. -/
theorem witness_PortAndChannelSettings :
    let fault := chan { busy .none with state := .fault, fault := some ⟨.outOfGrid, 0, 5, false⟩, normal := [{ fill0 with number := 6 }] }
    let clear := fun k => Packet.set 24 k []
    (∀ p ∈ [set1 21 0 0, set1 21 0 1, set1 21 0 2, set1 21 8 0, set2 22 0 (16 * 256 + 9), set2 22 0 (64 * 256 + 37), set1 23 0 50, set1 23 0 55],
      Delivers .pnl p 7 [] (fed p lobby))
    ∧ (∀ k ∈ [0, 3, 4], Delivers .blc (clear k) 7 [] (fed (clear k) fault))
    ∧ ((after .setPanelEnable (fed (set1 21 0 0) lobby)).ports.get 0).mode = .dark
    ∧ (after .setPanelEnable (fed (set1 21 0 0) lobby)).links.pnlNtc.get 0 = [.dark]
    ∧ ((after .setPanelEnable (fed (set1 21 1 1) (withPort 1 (fun x => { x with enable := false, mode := .dark }) lobby))).ports.get 1).mode = .waiting
    ∧ ((after .setPanelGeometry (fed (set2 22 0 (16 * 256 + 9)) lobby)).ports.get 0).geometryPending = some (16, 9)
    ∧ posts .pnl (after .setPanelGeometry (fed (set2 22 0 (64 * 256 + 37)) lobby)) = [(22, [14, 1])]
    ∧ ((after .setPanelRate (fed (set1 23 0 50) lobby)).ports.get 0).ratePending = some 50
    ∧ posts .pnl (after .setPanelRate (fed (set1 23 0 55) lobby)) = [(23, [14, 1])]
    ∧ hand .setChannelClear (fed (clear 0) fault) = (.idle, none, none, .none)
    ∧ (after .setChannelClear (fed (clear 0) fault)).links.blcCmp.get 0 = [.cleared 0 5, .discarded 0 6, .room .normal]
    ∧ hand .setChannelClear (fed (clear 3) fault) = (.fault, some 5, none, .none)
    ∧ posts .blc (after .setChannelClear (fed (clear 4) fault)) = [(24, [14, 2])] := by decide +kernel

/-- A TABLE load. -/
def load (item index : Nat) (body : List Byte) : Packet := .table item index body

/-- A load of each item accepted, one with an index past the table, one with a body out of range, and one of a layout in use. -/
theorem witness_TablesAreLoaded :
    let title := [1#8, 0#8, 72#8, 0#8, 255#8]
    let layout := [0#8, 32#8, 0x10#8, 0#8, 1#8] ++ [5#8, 35#8, 63#8, 36#8, 64#8, 47#8, 15#8, 15#8, 0#8, 0#8]
    let filter := [15#8, 1#8, 0xFF#8, 0xFF#8, 0xFE#8, 96#8]
    let style := [15#8, 15#8, 1#8] ++ [9#8, 63#8, 64#8, 15#8, 15#8, 2#8, 6#8]
    let running := chan (busy .requesting)
    Delivers .sch (load 32 63 title) 7 [] (fed (load 32 63 title) lobby)
    ∧ (∀ p ∈ [load 33 15 layout, load 34 7 filter, load 35 3 style, load 36 47 [1#8, 3#8, 255#8], load 37 7 [1#8, 1#8, 2#8, 9#8], load 38 11 [255#8, 7#8],
        load 33 16 layout, load 38 0 [8#8, 0#8]],
      Delivers .cmp p 7 [] (fed p lobby))
    ∧ readBody 32 title = some (.title [72] [] 255) ∧ titleOf [72] [] 255 = some ⟨[72], [], none⟩ ∧ titleOf [] [72] 1 = some ⟨[], [72], some 1⟩
    ∧ (∀ x ∈ [(0, 4), (3, 4), (4, 4), (60, 60), (61, 60)], layoutOf ⟨577, 0x21, 5⟩ [⟨0, 1, 2, 3, 4, 7, 3, x.1, 0, 0⟩]
      = some ⟨⟨577, 2, 1, true, false, true⟩, [⟨.listing 7 3 x.2, 1, 2, 3, 4⟩]⟩)
    ∧ styleOf 1 2 [⟨0, 0, 5, 3, 4, 1, 1⟩, ⟨9, 63, 1, 0, 15, 2, 2⟩] = some ⟨1, 2, [⟨.time, 0, 5, 3, 4, .right, false, false⟩, ⟨.state, 63, 1, 0, 15, .natural, true, false⟩]⟩
    ∧ filterOf 5 6 7 = some ⟨5#4, 6#32, 7⟩ ∧ templateOf [[(1, 47), (2, 9)], []] = some [[.phrase 47, .field .state], []]
    ∧ (after .tableTitle (fed (load 32 5 title) lobby)).links.schTst = [⟨0, 0⟩]
    ∧ ((after .tableLayout (fed (load 33 15 layout) lobby)).cmp.layouts.get 15).panes = [⟨.text 47 15 15, 35, 63, 36, 64⟩]
    ∧ ((after .tableFilter (fed (load 34 7 filter) lobby)).cmp.filters.get 7).maxLines = 96
    ∧ (after .tableFilter (fed (load 34 7 filter) lobby)).links.cmpSch = [7]
    ∧ ((after .tableStyle (fed (load 35 3 style) lobby)).cmp.styles.get 3).fields = [⟨.state, 63, 64, 15, 15, .natural, true, true⟩]
    ∧ (after .tablePhrase (fed (load 36 47 [1#8, 3#8, 255#8]) lobby)).cmp.phrases.get 47 = [1023]
    ∧ (after .tableTemplate (fed (load 37 7 [1#8, 1#8, 2#8, 9#8]) lobby)).cmp.templates.get 7 = [[.field .state]]
    ∧ (after .tableClassMap (fed (load 38 11 [255#8, 7#8]) lobby)).cmp.classMap.get 11 = ⟨none, some 7⟩
    ∧ posts .cmp (after .tableLayout (fed (load 33 16 layout) lobby)) = [(16, [15, 2])]
    ∧ posts .cmp (after .tableClassMap (fed (load 38 0 [8#8, 0#8]) lobby)) = [(0, [15, 1])]
    ∧ (running.blc.channels.get 0).state = .active ∧ (running.cmp.panels.get 0).layout = 1
    ∧ posts .cmp (after .tableLayout (fed (load 33 1 layout) running)) = [(1, [15, 13])]
    ∧ (panes.map fun x => (usesPhrase 0 lobby 0 x, usesPhrase 1 lobby 0 x))
      = [(true, true), (true, true), (true, true), (true, true), (false, false), (true, false)]
    ∧ usesPhrase 0 (withCmp 0 (fun c => { c with view := some 17 }) lobby) 0 ⟨.noticeText 1 0, 3, 0, 2, 48⟩ = false := by decide +kernel

/-- A QUERY with the slot EMPTY and with it RESERVED, one of no item, and the answers of an owner: values, a refusal, one discarded, and
one that the owner is not ready for. -/
theorem witness_QueriesAreAnswered :
    let ask := fun item key s => fed (.query item key) s
    let reading := fun r slot (s : State) => ({ s with tif := { s.tif with slot := slot, read := some r } } : State)
    (∀ q ∈ queryRows, Delivers .tif (.query q.2 []) 7 [] (ask q.2 [] lobby)) ∧ (∀ q ∈ queryRows, 66 ≠ q.2)
    ∧ (after .queryDesk (ask 55 [0#8, 2#8] lobby)).tif.slot = .reserved
    ∧ (after .queryDesk (ask 55 [0#8, 2#8] lobby)).tif.read = some ⟨55, [0#8, 2#8]⟩
    ∧ posts .tif (after .queryDesk (ask 55 [0#8, 2#8] (reading ⟨50, []⟩ .reserved lobby))) = [(65535, [16, 14])]
    ∧ posts .tif (after .queryUnknownItem (ask 66 [] lobby)) = [(66, [16, 2])]
    ∧ blockReady .slg (reading ⟨55, [0#8, 2#8]⟩ .reserved lobby) = true
    ∧ (after .queryReadAnswer (reading ⟨55, [0#8, 2#8]⟩ .reserved lobby)).tif.slot
      = .full ⟨55, [0#8, 2#8], [1#8, 0#8, 29#8, 0#8, 3#8, 1#8, 0#8, 254#8, 0#8, 1#8]⟩
    ∧ posts .tif (after .queryReadAnswer (reading ⟨55, [0#8, 16#8]⟩ .reserved lobby)) = [(16, [16, 2])]
    ∧ (after .queryReadAnswer (reading ⟨55, [0#8, 2#8]⟩ .empty lobby)).tif.slot = .empty
    ∧ (let s := reading ⟨51, [0#8, 100#8]⟩ .reserved (at' 41400 lobby)
      blockReady .sch s = false ∧ (after .queryReadAnswer s).tif.slot = .reserved)
    ∧ answerOf lobby ⟨54, put1 16 ++ put1 9⟩ = .refused .badItem ∧ answerOf lobby ⟨54, put1 255 ++ put1 0⟩ = .refused .badItem
    ∧ slotOf lobby 100 = some 0 ∧ slotOf lobby 501 = none ∧ findHold lobby.slg 2 9 = some 0 ∧ findHold lobby.slg 2 8 = none
    ∧ (lobby.sch.showings.get 0).id = some 100
    ∧ ready .tif (reading ⟨49, []⟩ .reserved lobby) = false ∧ ready .tif (reading ⟨50, []⟩ .reserved lobby) = true
    ∧ after .queryIdent (ask 48 [] (reading ⟨49, []⟩ .reserved lobby)) = ask 48 [] (reading ⟨49, []⟩ .reserved lobby)
    ∧ ((lobby.tst.slots.get 0).key = some (0, 0) ∧ (lobby.tst.slots.get 0).state = .valid ∧ (lobby.tst.slots.get 95).state = .free)
    ∧ awaitsTally lobby 0 = false ∧ awaitsTally lobby 1 = true
    ∧ (lobby.ntc.entries.get 3).isSome = true ∧ lobby.ntc.entries.get 4 = none
    ∧ (lobby.ports.get 0).geometryPending = none ∧ (lobby.ports.get 0).ratePending = none
    ∧ answerOf lobby ⟨56, [0#8, 3#8]⟩
      = .values [1#8, 0#8, 5#8, 255#8, 255#8, 1#8, 0#8, 1#8, 255#8, 255#8, 0#8, 1#8, 0#8, 1#8]
    ∧ answerOf lobby ⟨60, [0#8, 0#8]⟩ = .values [1#8, 0#8, 100#8, 0#8, 0#8, 0#8, 0#8, 0#8, 7#8, 0#8, 1#8]
    ∧ answerOf lobby ⟨65, [0#8, 22#8, 7#8, 0#8]⟩ = .values [0#8, 48#8, 0#8, 27#8]
    ∧ answerOf lobby ⟨65, [0#8, 24#8, 0#8, 0#8]⟩ = .refused .badItem ∧ answerOf lobby ⟨65, [0#8, 16#8, 8#8, 0#8]⟩ = .refused .badItem
    ∧ answerOf lobby ⟨56, [0#8, 24#8]⟩ = .refused .badItem ∧ answerOf lobby ⟨51, [1#8, 245#8]⟩ = .refused .unknownShowing := by
  decide +kernel

/-! ## Resets and the trunk -/

/-- The eight blocks that a RESET in delivery waits for. -/
def others : List Block := [.lck, .sch, .slg, .ntc, .cmp, .tst, .blc, .pnl]

/-- RESET packets of both types and of none at the head; a block that takes its RESET, the last one, one that is not ready and one that
is not waited for; and a pin reset. -/
theorem witness_ResetsAreTaken :
    let begun := fun t s => after (if t = 1 then .resetOps else .resetAll) (fed (.reset t) s)
    (∀ t ∈ [0, 1, 2, 3], AtHead (.reset t) 7 [] (fed (.reset t) lobby)) ∧ lobby.tif.resetting = none ∧ ready .tif (fed (.reset 3) lobby) = true
    ∧ (begun 1 lobby).tif.resetting = some ⟨false, others⟩ ∧ (begun 2 lobby).tif.resetting = some ⟨true, others⟩
    ∧ posts .tif (after .badResetType (fed (.reset 3) lobby)) = [(0, [18, 1])]
    ∧ (∀ b ∈ others, ready b (begun 1 lobby) = true ∧ ((after (.resetTake b) (begun 1 lobby)).tif.resetting.map Resetting.waiting)
      = some (others.filter fun c => c != b))
    ∧ (let s := begun 1 lobby
      let last := { s with tif := { s.tif with resetting := some ⟨true, [.lck]⟩ } }
      (after (.resetTake .lck) last).tif.fifo = [] ∧ (after (.resetTake .lck) last).lck.clock = 0
      ∧ (after (.resetTake .sch) last).sch.list = [⟨0, 41400, .windowAt⟩])
    ∧ ready .sch (at' 41400 lobby) = false ∧ (after (.resetTake .sch) (at' 41400 (begun 1 lobby))).tif.resetting = some ⟨false, others⟩
    ∧ (after .pinReset lobby).inReset = true ∧ ((after .pinReset lobby).ports.get 0).level = true
    ∧ (after (.resetTake .ntc) (begun 1 lobby)).links.ntcBlc = [3, 18]
    ∧ (let s := { lobby with taken := Tab.fill 9 1, links := { lobby.links with
        schSlg := [⟨0, .stateChange 0 .ended 3⟩], schNtc := [⟨0, .saleEnd 0⟩], ntcSch := [⟨0, .autoFree 18 0⟩]
        ntcCmp := [⟨0, .content 0⟩], schCmp := [⟨0, 0⟩], slgCmp := [⟨0, ()⟩], tstCmp := [⟨0, .purged 0⟩], schTst := [⟨0, 0⟩] } }
      s.slg.stage = .idle ∧ (∀ b ∈ [Block.slg, .ntc, .sch, .cmp, .tst], 0 < s.taken.get (blockIx b))
      ∧ (∀ c ∈ [Instr.stateChange, .saleEnd, .autoFreeReport, .noticeContentChange, .rosterChange, .deskChange, .purgeReport, .purge .sch],
        let t := after c s
        t ≠ s ∧ { t with links := s.links } = s)) := by decide +kernel

/-- A part at position 3, and one packet for each way through PACKET_RECEIVE and ENUMERATE. -/
theorem witness_PacketsAreReceived :
    let s := { lobby with tif := { lobby.tif with position := 3 } }
    let gets := fun bytes t => (after (.packetReceive (.whole bytes)) t).tif
    let bad := [3#8, 3#8, 0#8, 0#8, 0#8, 0#8]
    let full := fed (.time 1) { s with tif := { s.tif with fifo := List.replicate 4 ⟨.time 1, 7⟩ } }
    let four := { s with tif := { s.tif with fifo := List.replicate 4 ⟨.time 1, 7⟩ } }
    let numbered := fun d f t => ({ t with tif := { t.tif with enumerating := some ⟨d, f, packetBytes 17 d (put1 f)⟩ } } : State)
    s.tif.enumerating = none ∧ full.inReset = false
    ∧ (after (.packetReceive .broken) s).tif.counts.formatFailures = 1 ∧ testFrame bad = .checkFailure ∧ (gets bad s).flags.checkFail = true
    ∧ (gets (packetBytes 13 4 (put3 5)) s).trunkOut = some (packetBytes 13 4 (put3 5)) ∧ (gets (packetBytes 13 16 (put3 5)) s).fifo = []
    ∧ (gets (packetBytes 13 3 (put3 5)) s).fifo = [⟨.time 5, 40000⟩] ∧ (gets (packetBytes 13 3 (put3 5)) s).trunkOut = none
    ∧ (gets (packetBytes 13 0 (put3 5)) s).counts.forwarded = 1 ∧ (gets (packetBytes 19 3 []) s).flags.badKind = true
    ∧ (gets (packetBytes 13 3 (put3 5)) four).flags.ingressOverrun = true
    ∧ (gets (packetBytes 1 3 [0#8, 0#8, 0#8, 1#8, 2#8, 3#8]) s).pictures = [⟨⟨0, 0, 1, 2, [3#8]⟩, 40000⟩]
    ∧ (gets (packetBytes 17 0 [1#8]) s).enumerating = some ⟨0, 1, packetBytes 17 0 [1#8]⟩
    ∧ (after .enumerate (numbered 0 1 lobby)).tif.position = 1
    ∧ (after .enumerate (numbered 0 15 lobby)).tif.trunkOut = some (packetBytes 17 0 [16#8])
    ∧ (after .enumerate (numbered 0 16 lobby)).tif.trunkOut = some (packetBytes 17 0 [16#8])
    ∧ (after .enumerate (numbered 0 1 s)).tif.position = 3 ∧ (after .enumerate (numbered 3 9 s)).tif.trunkOut = none := by decide +kernel

/-- SETs and TABLEs of no item, LINK_CLEAR, and events offered to a queue with room and to a full one. -/
theorem witness_RefusalsAndEvents :
    let e : Event := ⟨.stale, 0, [1, 2], 9⟩
    let posted := ({ lobby with links := { lobby.links with posted := lobby.links.posted.set (blockIx .slg) [e] } } : State)
    let full := { posted with tif := { posted.tif with events := List.replicate 16 e, dropped := 255 } }
    (∀ p ∈ [Packet.set 0 0 [], .set 25 0 [], .set 26 0 [], .table 31 0 [], .table 39 0 []], Delivers .tif p 7 [] (fed p lobby))
    ∧ posts .tif (after .setUnknownItem (fed (.set 26 0 []) lobby)) = [(26, [14, 2])]
    ∧ posts .tif (after .tableUnknownItem (fed (.table 31 0 []) lobby)) = [(31, [15, 2])]
    ∧ (after .setLinkClear (fed (.set 25 0 []) full)).tif.dropped = 0
    ∧ posted.inReset = false ∧ posted.links.posted.get (blockIx .slg) = [e] ∧ (after (.eventOffer .slg) posted).tif.events = [e]
    ∧ 16 ≤ full.tif.events.length ∧ (after (.eventOffer .slg) full).tif.dropped = 255
    ∧ (after (.eventOffer .slg) full).tif.flags.reportDrop = true := by decide +kernel

/-- A free lane with a reply, an event and a passing packet waiting: the sources alternate, and the reply goes before the event. -/
theorem witness_ReturnLaneAlternates :
    let e : Event := ⟨.stale, 5, [1, 2], 9⟩
    let s := { lobby with tif := { lobby.tif with
      upstreamReady := true, slot := .full ⟨50, [], [0#8]⟩, events := [e], passBuffer := some [128#8], position := 3 } }
    let t := fun last => (after .returnLaneGrant { s with tif := { s.tif with lastOwn := last } }).tif
    s.inReset = false ∧ s.tif.retOut = none ∧ s.tif.upstreamReady = true
    ∧ (t true).retOut = some [128#8] ∧ (t true).passBuffer = none ∧ (t true).lastOwn = false
    ∧ (t false).retOut = some (packetBytes 128 3 [1#8, 0#8, 50#8, 0#8]) ∧ (t false).slot = .empty ∧ (t false).lastOwn = true
    ∧ (after .returnLaneGrant { s with tif := { s.tif with slot := .reserved } }).tif.retOut
      = some (packetBytes 128 3 [2#8, 3#8, 2#8, 0#8, 5#8, 0#8, 1#8, 0#8, 2#8, 0#8, 0#8, 9#8])
    ∧ (after .returnLaneGrant { s with tif := { s.tif with upstreamReady := false } }).tif.retOut = none
    ∧ (after (.passBufferReceive [1#8]) s).tif.passBuffer = some [128#8] ∧ (after (.passBufferReceive [1#8]) lobby).tif.passBuffer = some [1#8]
    ∧ (after (.returnReadyChange true) lobby).tif.upstreamReady = true
    ∧ (after .reportSent { s with tif := { s.tif with retOut := some [] } }).tif.retOut = none
    ∧ trunkIdle lobby = some .idleGo ∧ trunkIdle s = some .idleWait ∧ trunkIdle { lobby with inReset := true } = none
    ∧ returnSends s = [.fill] ∧ returnSends { s with inReset := true } = []
    ∧ returnSends { s with tif := { s.tif with retOut := some [128#8] } } = [.sop, .data 128#8, .eop] := by decide +kernel

end Sys2Proof.Machine.Tests
end

section
/-! PROOFS. The next entry of a showing: `nextDue` in each state, and the three phases of the countdown. -/

namespace Sys2Proof.Machine

/-! ## The next entry in each state -/

theorem nextDue_of_empty {c : Sch} {clock : Nat} {sh : Showing} (h : sh.state = .empty) : nextDue c clock sh = none := by
  simp only [nextDue, h]

theorem nextDue_of_listed {c : Sch} {clock : Nat} {sh : Showing} (h : sh.state = .listed) :
    nextDue c clock sh = some (sh.start - c.listLead, .openAt) := by
  simp only [nextDue, h, openAtTime]

theorem nextDue_of_opened {c : Sch} {clock : Nat} {sh : Showing} (h : sh.state = .opened) :
    nextDue c clock sh = some (earlier (sh.start - effBoardLead c sh, .boardAt) (countdownEntry c clock sh)) := by
  simp only [nextDue, h, boardAtTime]

theorem nextDue_of_boarding {c : Sch} {clock : Nat} {sh : Showing} (h : sh.state = .boarding) :
    nextDue c clock sh = some (earlier (sh.start, .startAt) (countdownEntry c clock sh)) := by
  simp only [nextDue, h]

theorem nextDue_of_running {c : Sch} {clock : Nat} {sh : Showing} (h : sh.state = .running) :
    nextDue c clock sh = some (sh.start + c.lateWindow, .endAt) := by
  simp only [nextDue, h, endAtTime]

theorem nextDue_of_ended {c : Sch} {clock : Nat} {sh : Showing} (h : sh.state = .ended) :
    nextDue c clock sh = some (max (sh.start + c.lateWindow) (sh.start + sh.runtime * 60), .reapAt) := by
  simp only [nextDue, h, reapAtTime, endAtTime]

/-! ## The countdown -/

/-- The minute time of R16 is the first whole minute before the start that comes after the clock. -/
theorem minuteTime_spec {start clock : Nat} (h : clock < start) :
    clock < minuteTime start clock ∧ minuteTime start clock ≤ clock + 60 ∧ minuteTime start clock ≤ start
      ∧ (start - minuteTime start clock) % 60 = 0 := by
  unfold minuteTime ceilDiv
  omega

theorem countdownEntry_before_window {c : Sch} {clock : Nat} {sh : Showing} (h : clock < sh.start - c.countdownWindow) :
    countdownEntry c clock sh = some (sh.start - c.countdownWindow, .windowAt) :=
  if_pos h

theorem countdownEntry_in_window {c : Sch} {clock : Nat} {sh : Showing} (hw : sh.start - c.countdownWindow ≤ clock)
    (hs : clock < sh.start) : countdownEntry c clock sh = some (minuteTime sh.start clock, .minuteAt) := by
  rw [countdownEntry, windowAtTime, if_neg hw.not_gt, if_pos hs]

theorem countdownEntry_after_start {c : Sch} {clock : Nat} {sh : Showing} (hw : sh.start - c.countdownWindow ≤ clock)
    (hs : sh.start ≤ clock) : countdownEntry c clock sh = none := by
  rw [countdownEntry, windowAtTime, if_neg hw.not_gt, if_neg hs.not_gt]

/-! ## The earlier of a threshold and a countdown entry -/

@[simp] theorem earlier_none (t : Nat × EntryKind) : earlier t none = t := rfl

theorem earlier_of_lt {t u : Nat × EntryKind} (h : u.1 < t.1) : earlier t (some u) = u := if_pos h

theorem earlier_of_le {t u : Nat × EntryKind} (h : t.1 ≤ u.1) : earlier t (some u) = t := if_neg h.not_gt

/-- Settles O16: the next entry state by state, the countdown phase by phase, and the choice between the two. -/
theorem nextEntryOfAShowing : Obligations.NextEntryOfAShowing := by
  unfold Obligations.NextEntryOfAShowing
  refine ⟨fun c clock sh => ?states, fun c clock sh => ⟨countdownEntry_before_window, fun hw hs => ?minute,
    fun hs hw => countdownEntry_after_start hw hs⟩, fun t u => ⟨earlier_of_lt, earlier_of_le, earlier_none t⟩⟩
  case states =>
    exact ⟨nextDue_of_listed, nextDue_of_running, nextDue_of_ended, nextDue_of_opened, nextDue_of_boarding, nextDue_of_empty⟩
  case minute =>
    exact ⟨minuteTime sh.start clock, countdownEntry_in_window hw hs, minuteTime_spec hs⟩

end Sys2Proof.Machine
end

section
/-! PROOFS. The roster of a filter: an insertion sort by `rosterKey` of the admitted slots, cut to `maxLines`. -/

namespace Sys2Proof.Machine

/-! ## Inserting a slot -/

/-- `insertSlot` is Mathlib's ordered insertion for the strict order by key: a slot goes behind those of its own key. -/
theorem insertSlot_eq_orderedInsert (key : Fin 96 → Nat) (x : Fin 96) (l : List (Fin 96)) :
    insertSlot key x l = l.orderedInsert (fun i j => key i < key j) x := by
  induction l with
  | nil => rfl
  | cons y l ih => rw [insertSlot, ih, List.orderedInsert_cons]

theorem insertSlot_perm (key : Fin 96 → Nat) (x : Fin 96) (l : List (Fin 96)) : (insertSlot key x l).Perm (x :: l) := by
  rw [insertSlot_eq_orderedInsert]
  exact List.perm_orderedInsert _ x l

/-- Inserting keeps a list in order of key. -/
theorem insertSlot_pairwise {key : Fin 96 → Nat} {l : List (Fin 96)} (x : Fin 96)
    (h : l.Pairwise fun i j => key i ≤ key j) : (insertSlot key x l).Pairwise fun i j => key i ≤ key j := by
  induction l with
  | nil => exact List.pairwise_singleton _ x
  | cons y l ih =>
    obtain ⟨hy, hl⟩ := List.pairwise_cons.mp h
    rw [insertSlot]
    split
    case isTrue hxy =>
      refine List.pairwise_cons.mpr ⟨fun z hz => ?_, h⟩
      rcases List.mem_cons.mp hz with rfl | hz
      · exact hxy.le
      · exact hxy.le.trans (hy z hz)
    case isFalse hxy =>
      refine List.pairwise_cons.mpr ⟨fun z hz => ?_, ih hl⟩
      rcases List.mem_cons.mp ((insertSlot_perm key x l).mem_iff.mp hz) with rfl | hz
      · exact not_lt.mp hxy
      · exact hy z hz

/-! ## Inserting a list of slots, one after the other -/

theorem foldl_insertSlot_perm (key : Fin 96 → Nat) (l acc : List (Fin 96)) :
    (l.foldl (fun l i => insertSlot key i l) acc).Perm (l ++ acc) := by
  induction l generalizing acc with
  | nil => exact .refl _
  | cons x l ih =>
    calc (l.foldl (fun l i => insertSlot key i l) (insertSlot key x acc)).Perm (l ++ insertSlot key x acc) := ih _
      List.Perm _ (l ++ x :: acc) := (insertSlot_perm key x acc).append_left l
      List.Perm _ (x :: l ++ acc) := List.perm_middle

theorem foldl_insertSlot_pairwise {key : Fin 96 → Nat} (l : List (Fin 96)) {acc : List (Fin 96)}
    (h : acc.Pairwise fun i j => key i ≤ key j) :
    (l.foldl (fun l i => insertSlot key i l) acc).Pairwise fun i j => key i ≤ key j := by
  induction l generalizing acc with
  | nil => exact h
  | cons x l ih => exact ih (insertSlot_pairwise x h)

/-! ## All admitted slots in roster order -/

/-- The order of R24 before it is cut to `maxLines` (tied to the model by `rosterOf_eq_take`). -/
def rosterOrder (c : Sch) (f : Filter) : List (Fin 96) :=
  ((fins 96).filter fun i => admits f (c.showings.get i)).foldl (fun l i => insertSlot (rosterKey c) i l) []

theorem rosterOf_eq_take (c : Sch) (f : Filter) : rosterOf c f = (rosterOrder c f).take f.maxLines := rfl

theorem rosterOrder_perm (c : Sch) (f : Filter) :
    (rosterOrder c f).Perm ((fins 96).filter fun i => admits f (c.showings.get i)) := by
  simpa only [rosterOrder, List.append_nil] using
    foldl_insertSlot_perm (rosterKey c) ((fins 96).filter fun i => admits f (c.showings.get i)) []

theorem rosterOrder_pairwise (c : Sch) (f : Filter) :
    (rosterOrder c f).Pairwise fun i j => rosterKey c i ≤ rosterKey c j :=
  foldl_insertSlot_pairwise _ .nil

@[simp] theorem mem_rosterOrder {c : Sch} {f : Filter} {i : Fin 96} :
    i ∈ rosterOrder c f ↔ admits f (c.showings.get i) = true := by
  simp [(rosterOrder_perm c f).mem_iff, fins]

theorem rosterOrder_nodup (c : Sch) (f : Filter) : (rosterOrder c f).Nodup :=
  (rosterOrder_perm c f).nodup_iff.mpr ((List.nodup_finRange 96).filter _)

/-! ## The roster -/

theorem rosterOf_sublist (c : Sch) (f : Filter) : (rosterOf c f).Sublist (rosterOrder c f) := List.take_sublist _ _

theorem rosterOf_length (c : Sch) (f : Filter) :
    (rosterOf c f).length = min f.maxLines ((fins 96).filter fun i => admits f (c.showings.get i)).length := by
  rw [rosterOf_eq_take, List.length_take, (rosterOrder_perm c f).length_eq]

theorem rosterOf_nodup (c : Sch) (f : Filter) : (rosterOf c f).Nodup := (rosterOrder_nodup c f).sublist (rosterOf_sublist c f)

theorem rosterOf_pairwise (c : Sch) (f : Filter) : (rosterOf c f).Pairwise fun i j => rosterKey c i ≤ rosterKey c j :=
  (rosterOrder_pairwise c f).sublist (rosterOf_sublist c f)

theorem admits_of_mem_rosterOf {c : Sch} {f : Filter} {i : Fin 96} (h : i ∈ rosterOf c f) :
    admits f (c.showings.get i) = true :=
  mem_rosterOrder.mp ((rosterOf_sublist c f).mem h)

/-- An admitted slot that the roster has no line for stands in the part cut off, behind every slot of the roster. -/
theorem rosterKey_le_of_left_out {c : Sch} {f : Filter} {i j : Fin 96} (hi : i ∈ rosterOf c f)
    (hj : admits f (c.showings.get j) = true) (hout : j ∉ rosterOf c f) : rosterKey c i ≤ rosterKey c j := by
  have hcut : rosterOf c f ++ (rosterOrder c f).drop f.maxLines = rosterOrder c f := List.take_append_drop _ _
  have hmem : j ∈ (rosterOrder c f).drop f.maxLines := by
    have hall := mem_rosterOrder.mpr hj
    rw [← hcut] at hall
    exact (List.mem_append.mp hall).resolve_left hout
  have hsorted := rosterOrder_pairwise c f
  rw [← hcut, List.pairwise_append] at hsorted
  obtain ⟨-, -, hacross⟩ := hsorted
  exact hacross i hi j hmem

/-- With auditoriums below 32 and ids below 65,536 the key orders by start, then auditorium, then id. -/
theorem rosterKey_lt_iff {c : Sch} {i j : Fin 96}
    (hai : (c.showings.get i).auditorium.getD 0 < 32) (haj : (c.showings.get j).auditorium.getD 0 < 32)
    (hii : (c.showings.get i).id.getD 0 < 65536) (hij : (c.showings.get j).id.getD 0 < 65536) :
    rosterKey c i < rosterKey c j ↔ (c.showings.get i).start < (c.showings.get j).start
      ∨ ((c.showings.get i).start = (c.showings.get j).start
        ∧ ((c.showings.get i).auditorium.getD 0 < (c.showings.get j).auditorium.getD 0
          ∨ ((c.showings.get i).auditorium.getD 0 = (c.showings.get j).auditorium.getD 0
            ∧ (c.showings.get i).id.getD 0 < (c.showings.get j).id.getD 0))) := by
  simp only [rosterKey]
  omega

/-- The two tests of R24: the state set and the auditorium set. -/
theorem admits_iff (f : Filter) (sh : Showing) : admits f sh = true ↔
    ((sh.state = .opened ∧ f.states.getLsbD 0 = true) ∨ (sh.state = .boarding ∧ f.states.getLsbD 1 = true)
      ∨ (sh.state = .running ∧ f.states.getLsbD 2 = true) ∨ (sh.state = .cancelled ∧ f.states.getLsbD 3 = true))
    ∧ ∃ a, sh.auditorium = some a ∧ f.auditoriums.getLsbD a = true := by
  rw [admits, Bool.and_eq_true]
  refine and_congr ?_ ?_
  · cases sh.state <;> simp
  · cases sh.auditorium <;> simp

/-- Settles O17: the roster is a cut of the admitted slots sorted by key, and the key is the order of R24. -/
theorem rosterIsInOrder : Obligations.RosterIsInOrder := by
  unfold Obligations.RosterIsInOrder
  exact fun c f => ⟨rosterOf_length c f, rosterOf_nodup c f, rosterOf_pairwise c f, fun _ => admits_of_mem_rosterOf,
    fun _ hi _ => rosterKey_le_of_left_out hi, fun _ _ => rosterKey_lt_iff, admits_iff f⟩

end Sys2Proof.Machine
end

section
/-! PROOFS. What the SLG leaves: a recomputed figure key (R35, R36), and holds dropped together (R44). -/

namespace Sys2Proof

theorem Tab.list_eq_map_get {n : Nat} {α : Type} (t : Tab n α) : t.list = (fins n).map t.get :=
  congrArg Tab.list (Tab.make_get t).symm

end Sys2Proof

namespace Sys2Proof.Machine

/-! ## A recomputed figure key -/

/-- A change of figure key to `k` requests a sold-out notice: `wantsNotice` without its test that the key has changed
(tied to it by `wantsNotice_eq`, to the model by `soldOutDecision_eq`). -/
def asksNotice (s : State) (st : ShowState) (slot : Fin 96) (k : FigureKey) : Bool :=
  k.figure == .soldOut && (s.sch.showings.get slot).soldoutClass.isSome
    && decide ((s.sch.showings.get slot).noticePanels ≠ 0#8) && !(s.slg.ledger.get slot).soldout
    && (st == .opened || st == .boarding)

theorem wantsNotice_eq (s : State) (st : ShowState) (slot : Fin 96) (k : FigureKey) :
    wantsNotice s st slot k = (decide ((s.slg.ledger.get slot).key ≠ some k) && asksNotice s st slot k) := by
  simp only [wantsNotice, asksNotice, Bool.and_assoc]

/-- The decision of R36: a notice that is asked for is sent and noted in the record; otherwise nothing happens. -/
theorem soldOutDecision_eq (st : ShowState) (slot : Fin 96) (cause : Nat) (k : FigureKey) (s : State) :
    soldOutDecision st slot cause k s = if asksNotice s st slot k then
      { setLedger slot (fun l => { l with soldout := true }) s with
        links := { s.links with slgNtc := s.links.slgNtc ++ soldOutMail s slot cause } } else s := by
  unfold soldOutDecision
  cases hc : (s.sch.showings.get slot).soldoutClass with
  | none => simp [asksNotice, hc]
  | some cls =>
    have hask : asksNotice s st slot k = true ↔ k.figure = .soldOut ∧ (s.sch.showings.get slot).noticePanels ≠ 0#8
        ∧ (s.slg.ledger.get slot).soldout = false ∧ (st = .opened ∨ st = .boarding) := by
      simp [asksNotice, hc, and_assoc]
    simp only [hask, soldOutMail, hc]
    rfl

theorem clearSoldout_eq (l : Ledger) : clearSoldout l
    = { l with soldout := if 0 < seatsLeft l then false else l.soldout } := by
  unfold clearSoldout
  split <;> rfl

/-- A recomputation that finds the stored key again only clears the soldout field where seats are left. -/
theorem refigured_of_same_key {s : State} {st : ShowState} {slot : Fin 96} (cause : Nat)
    (h : (s.slg.ledger.get slot).key = some (figureKey (figureSettings s.slg) st (s.slg.ledger.get slot))) :
    s.refigured st slot cause = setLedger slot clearSoldout s := by
  simp [State.refigured, wantsNotice, setLedger_eq, clearSoldout_eq, ← h]

/-- A recomputation that finds another key stores it, sends the purge, and decides on the notice. -/
theorem refigured_of_new_key {s : State} {st : ShowState} {slot : Fin 96} {k : FigureKey} (cause : Nat)
    (hk : k = figureKey (figureSettings s.slg) st (s.slg.ledger.get slot)) (h : (s.slg.ledger.get slot).key ≠ some k) :
    s.refigured st slot cause = setLedger slot clearSoldout (soldOutDecision st slot cause k
      (sendPurge .slg slot (setLedger slot (fun l => { l with key := some k }) s))) := by
  have hasks : asksNotice (sendPurge .slg slot (setLedger slot (fun l => { l with key := some k }) s)) st slot k
      = asksNotice s st slot k := by
    simp only [asksNotice, sendPurge, setLedger_eq, State.withLinks, Tab.get_set_same]
    rfl
  rw [soldOutDecision_eq, hasks]
  cases ha : asksNotice s st slot k <;>
    simp [State.refigured, wantsNotice_eq, ← hk, h, ha, setLedger_eq, clearSoldout_eq, sendPurge, State.withLinks, Tab.set_set,
      seatsLeft, seatsUsed, mail, soldOutMail]

theorem recomputeAs_eq_refigured (st : ShowState) (slot : Fin 96) (cause : Nat) (s : State) :
    recomputeAs st slot cause s = s.refigured st slot cause := by
  unfold recomputeAs
  dsimp only
  split
  next h => exact (refigured_of_same_key cause h).symm
  next h => exact (refigured_of_new_key cause rfl h).symm

theorem recomputeEach_eq_refiguredEach (slots : List (Fin 96)) (cause : Nat) (s : State) :
    recomputeEach slots cause s = s.refiguredEach slots cause := by
  simp only [recomputeEach, State.refiguredEach, recompute, recomputeAs_eq_refigured]

/-! ## Holds dropped together -/

/-- The LIVE holds among some entries that meet `p` (tied to the model by `holdsAt_fins`). -/
def holdsAt (l : List (Fin 64)) (p : Hold → Bool) (g : Slg) : List Hold := (l.filterMap g.holds.get).filter p

theorem holdsAt_fins (p : Hold → Bool) (g : Slg) : holdsAt (fins 64) p g = holdsWith p g := by
  rw [holdsAt, holdsWith, Tab.list_eq_map_get, List.filterMap_map]
  rfl

theorem holdsAt_singleton (a : Fin 64) (p : Hold → Bool) (g : Slg) :
    holdsAt [a] p g = (g.holds.get a).toList.filter p := by
  cases h : g.holds.get a <;> simp only [holdsAt, List.filterMap_cons, List.filterMap_nil, h] <;> rfl

theorem holdsAt_cons (a : Fin 64) (l : List (Fin 64)) (p : Hold → Bool) (g : Slg) :
    holdsAt (a :: l) p g = holdsAt [a] p g ++ holdsAt l p g := by
  rw [holdsAt_singleton, holdsAt, holdsAt, ← List.filter_append]
  cases h : g.holds.get a <;> simp only [List.filterMap_cons, h] <;> rfl

/-- The holds among some entries depend on those entries only. -/
theorem holdsAt_congr {l : List (Fin 64)} {g k : Slg} (h : ∀ i ∈ l, g.holds.get i = k.holds.get i) (p : Hold → Bool) :
    holdsAt l p g = holdsAt l p k := by
  rw [holdsAt, holdsAt, List.filterMap_congr h]

theorem seatSum_append (l m : List Hold) : seatSum (l ++ m) = seatSum l + seatSum m := by
  simp only [seatSum, List.map_append, List.sum_append]

/-- The machine with the three tables that holds stand in or are counted in replaced. -/
def State.withSeats (s : State) (ledger : Tab 96 Ledger) (holds : Tab 64 (Option Hold)) (desks : Tab 16 Desk) : State :=
  s.withSlg { s.slg with ledger := ledger, holds := holds, desks := desks }

@[simp] theorem withSeats_ledger (s : State) (l : Tab 96 Ledger) (h : Tab 64 (Option Hold)) (d : Tab 16 Desk) :
    (s.withSeats l h d).slg.ledger = l := rfl

@[simp] theorem withSeats_holds (s : State) (l : Tab 96 Ledger) (h : Tab 64 (Option Hold)) (d : Tab 16 Desk) :
    (s.withSeats l h d).slg.holds = h := rfl

@[simp] theorem withSeats_desks (s : State) (l : Tab 96 Ledger) (h : Tab 64 (Option Hold)) (d : Tab 16 Desk) :
    (s.withSeats l h d).slg.desks = d := rfl

/-- Two replacements agree when their tables agree entry by entry. -/
theorem withSeats_congr (s : State) {l l' : Tab 96 Ledger} {h h' : Tab 64 (Option Hold)} {d d' : Tab 16 Desk}
    (hl : ∀ i, l.get i = l'.get i) (hh : ∀ i, h.get i = h'.get i) (hd : ∀ i, d.get i = d'.get i) :
    s.withSeats l h d = s.withSeats l' h' d' := by
  rw [Tab.ext_get hl, Tab.ext_get hh, Tab.ext_get hd]

/-- The machine with the holds that meet `p` dropped from some entries only (tied to the model by `foldl_dropIf`, to
`State.dropped` by `droppedAt_fins`). -/
def State.droppedAt (s : State) (l : List (Fin 64)) (p : Hold → Bool) : State :=
  s.withSeats
    (Tab.make 96 fun i =>
      { s.slg.ledger.get i with H := (s.slg.ledger.get i).H - seatSum (holdsAt l (fun h => p h && h.slot == i) s.slg) })
    (Tab.make 64 fun i => if i ∈ l then (s.slg.holds.get i).filter fun h => !p h else s.slg.holds.get i)
    (Tab.make 16 fun d =>
      { s.slg.desks.get d with
        owned := (s.slg.desks.get d).owned - (holdsAt l (fun h => p h && h.desk == d) s.slg).length })

theorem droppedAt_holds (s : State) (l : List (Fin 64)) (p : Hold → Bool) (i : Fin 64) :
    (s.droppedAt l p).slg.holds.get i
      = if i ∈ l then (s.slg.holds.get i).filter fun h => !p h else s.slg.holds.get i :=
  Tab.get_make _ i

theorem droppedAt_fins (s : State) (p : Hold → Bool) : s.droppedAt (fins 64) p = s.dropped p := by
  have hall (i : Fin 64) : i ∈ fins 64 := List.mem_finRange i
  simp only [State.droppedAt, holdsAt_fins, hall, if_true]
  rfl

/-- Dropping where no entry meets `p` changes nothing. -/
theorem droppedAt_of_none {l : List (Fin 64)} {p : Hold → Bool} {s : State}
    (h : ∀ i ∈ l, ∀ x, s.slg.holds.get i = some x → p x = false) : s.droppedAt l p = s := by
  have hno (q : Hold → Bool) : holdsAt l (fun x => p x && q x) s.slg = [] := by
    refine List.filter_eq_nil_iff.mpr fun x hx => ?_
    obtain ⟨i, hi, hix⟩ := List.mem_filterMap.mp hx
    simp only [h i hi x hix, Bool.false_and, Bool.false_eq_true, not_false_eq_true]
  have hkeep (i : Fin 64) : (if i ∈ l then (s.slg.holds.get i).filter fun x => !p x else s.slg.holds.get i)
      = s.slg.holds.get i := by
    refine ite_eq_right_iff.mpr fun hi => ?_
    cases hx : s.slg.holds.get i with
    | none => rfl
    | some x => simp [Option.filter_some, h i hi x hx]
  simp only [State.droppedAt, hno, hkeep]
  show s.withSeats (Tab.make 96 fun i => s.slg.ledger.get i) (Tab.make 64 fun i => s.slg.holds.get i)
    (Tab.make 16 fun d => s.slg.desks.get d) = s
  simp only [Tab.make_get]
  rfl

/-- Freeing an entry whose hold meets `p` is dropping it. -/
theorem freeEntry_eq_droppedAt {a : Fin 64} {h : Hold} {p : Hold → Bool} {s : State} (ha : s.slg.holds.get a = some h)
    (hp : p h = true) : freeEntry a h s = s.droppedAt [a] p := by
  have hone (q : Hold → Bool) : holdsAt [a] (fun x => p x && q x) s.slg = if q h then [h] else [] := by
    cases hq : q h <;> simp [holdsAt_singleton, ha, hp, hq]
  show s.withSeats (s.slg.ledger.modify h.slot fun l => { l with H := l.H - h.seats }) (s.slg.holds.set a none)
    (s.slg.desks.modify h.desk fun d => { d with owned := d.owned - 1 }) = _
  simp only [State.droppedAt, hone, beq_iff_eq]
  refine withSeats_congr s (fun i => ?ledger) (fun i => ?holds) (fun d => ?desks)
  case ledger =>
    rw [Tab.get_modify, Tab.get_make]
    split <;> simp [seatSum]
  case holds =>
    rw [Tab.get_set, Tab.get_make]
    by_cases hi : a = i
    · subst hi; simp [ha, Option.filter_some, hp]
    · simp [hi, Ne.symm hi]
  case desks =>
    rw [Tab.get_modify, Tab.get_make]
    split <;> simp

/-- Dropping from one entry is the model's step. -/
theorem dropIf_eq_droppedAt (p : Hold → Bool) (a : Fin 64) (s : State) : dropIf p a s = s.droppedAt [a] p := by
  unfold dropIf
  cases ha : s.slg.holds.get a with
  | none => exact (droppedAt_of_none (by simp [ha])).symm
  | some h =>
    dsimp only
    split
    next hp => exact freeEntry_eq_droppedAt ha hp
    next hp => exact (droppedAt_of_none (by simpa [ha] using hp)).symm

/-- Dropping from an entry and then from others is dropping from all of them. -/
theorem droppedAt_droppedAt {a : Fin 64} {l : List (Fin 64)} (h : a ∉ l) (p : Hold → Bool) (s : State) :
    (s.droppedAt [a] p).droppedAt l p = s.droppedAt (a :: l) p := by
  have hne (i) (hi : i ∈ l) : i ≠ a := fun e => h (e ▸ hi)
  have hrest (q : Hold → Bool) : holdsAt l q (s.droppedAt [a] p).slg = holdsAt l q s.slg := by
    refine holdsAt_congr (fun i hi => ?_) q
    rw [droppedAt_holds, if_neg (List.mem_singleton.not.mpr (hne i hi))]
  rw [State.droppedAt]
  simp only [hrest]
  refine withSeats_congr s (fun i => ?ledger) (fun i => ?holds) (fun d => ?desks)
  case ledger =>
    simp [State.droppedAt, holdsAt_cons a l, seatSum_append, Nat.sub_sub]
  case holds =>
    simp only [droppedAt_holds, Tab.get_make]
    by_cases hi : i = a
    · subst hi; simp [h]
    · simp [hi]
  case desks =>
    simp [State.droppedAt, holdsAt_cons a l, Nat.sub_sub]

theorem foldl_dropIf (p : Hold → Bool) {l : List (Fin 64)} (hl : l.Nodup) (s : State) :
    l.foldl (fun s i => dropIf p i s) s = s.droppedAt l p := by
  induction l generalizing s with
  | nil => exact (droppedAt_of_none (fun i hi => absurd hi List.not_mem_nil)).symm
  | cons a l ih =>
    obtain ⟨ha, hl⟩ := List.nodup_cons.mp hl
    rw [List.foldl_cons, dropIf_eq_droppedAt, ih hl, droppedAt_droppedAt ha]

theorem dropHolds_eq_dropped (p : Hold → Bool) (s : State) : dropHolds p s = s.dropped p :=
  (foldl_dropIf p (List.nodup_finRange 64) s).trans (droppedAt_fins s p)

end Sys2Proof.Machine
end

section
/-! PROOFS. DESK packets and contacts (R45 to R48): delivery to the desk named, then each operation by the state of the desk. -/

namespace Sys2Proof.Machine

theorem asFin_eq_none {n v : Nat} (h : n ≤ v) : asFin n v = none := dif_neg h.not_gt

theorem exec_deskOpen (s : State) : exec .deskOpen s = running s (deliver .slg (pickDesk 1 openDesk)) := rfl

theorem exec_deskClose (s : State) : exec .deskClose s = running s (deliver .slg (pickDesk 2 closeDesk)) := rfl

theorem exec_deskBeat (s : State) : exec .deskBeat s = running s (deliver .slg (pickDesk 3 beatDesk)) := rfl

theorem exec_deskBadOperation (s : State) : exec .deskBadOperation s = running s (deliver .slg pickBadOperation) := rfl

theorem exec_hold (s : State) : exec .hold s = running s (deliver .slg pickHold) := rfl

theorem exec_release (s : State) : exec .release s = running s (deliver .slg pickRelease) := rfl

/-! ## A packet reaches its desk (R45) -/

section Delivery

variable {dk op clock : Nat} {rest : List Taken} {s u : State}

/-- A delivered packet leaves what its owner's handling of it leaves. -/
theorem deliver_leaves {b : Block} {p : Packet} {pick : Packet → Option (Nat → State → State)} {act : Nat → State → State}
    (h : Delivers b p clock rest s) (hp : pick p = some act) (hu : act clock (s.withFifo rest) = u) :
    running s (deliver b pick) = .next u :=
  (deliver_next h hp).trans (congrArg Host.Outcome.next hu)

theorem pickDesk_of_desk (op : Nat) (act : Fin 16 → State → State) (d : Fin 16) :
    pickDesk op act (.desk d.val op) = some fun _ => act d := by
  simp only [pickDesk, if_true, asFin_val]

theorem pickDesk_of_no_desk (op : Nat) (act : Fin 16 → State → State) (hdk : 16 ≤ dk) :
    pickDesk op act (.desk dk op) = some fun _ => refuse .slg 8 .badField dk := by
  simp only [pickDesk, if_true, asFin_eq_none hdk]

theorem pickBadOperation_of_bad (h1 : op ≠ 1) (h2 : op ≠ 2) (h3 : op ≠ 3) :
    pickBadOperation (.desk dk op) = some fun _ => refuse .slg 8 .badField dk :=
  if_pos (by omega)

/-- An operation of a desk does what the SLG does with that desk. -/
theorem desk_leaves {d : Fin 16} {act : Fin 16 → State → State} (h : Delivers .slg (.desk d.val op) clock rest s)
    (hu : act d (s.withFifo rest) = u) : running s (deliver .slg (pickDesk op act)) = .next u :=
  deliver_leaves h (pickDesk_of_desk op act d) hu

/-- An operation of no desk is refused. -/
theorem desk_refused (act : Fin 16 → State → State) (h : Delivers .slg (.desk dk op) clock rest s) (hdk : 16 ≤ dk) :
    running s (deliver .slg (pickDesk op act)) = .next (refuse .slg 8 .badField dk (s.withFifo rest)) :=
  deliver_leaves h (pickDesk_of_no_desk op act hdk) rfl

end Delivery

/-! ## What dropping, recomputing and telling the CMP leave alone -/

/-- Dropping holds and changing a desk commute where the change respects the number of holds owned. -/
theorem dropped_setDesk {d : Fin 16} {f : Desk → Desk}
    (hf : ∀ k n, { f k with owned := (f k).owned - n } = f { k with owned := k.owned - n }) (p : Hold → Bool) (s : State) :
    (setDesk d f s).dropped p = setDesk d f (s.dropped p) := by
  have hdesk (e : Fin 16) : ((setDesk d f s).dropped p).slg.desks.get e = (setDesk d f (s.dropped p)).slg.desks.get e := by
    simp only [State.dropped, setDesk, State.withSlg_slg, Tab.get_make, Tab.get_modify]
    split
    · exact hf _ _
    · rfl
  exact withSeats_congr s (fun _ => rfl) (fun _ => rfl) hdesk

theorem refiguredEach_frame (slots : List (Fin 96)) (cause : Nat) (s : State) :
    (s.refiguredEach slots cause).links.slgCmp = s.links.slgCmp ∧ (s.refiguredEach slots cause).taken = s.taken := by
  unfold State.refiguredEach
  induction slots generalizing s with
  | nil => exact ⟨rfl, rfl⟩
  | cons i slots ih =>
    obtain ⟨hlink, htaken⟩ := ih (if inLedger s i then s.refigured (stateOf s i) i cause else s)
    rw [List.foldl_cons, hlink, htaken]
    split <;> exact ⟨rfl, rfl⟩

/-- A desk change sent after recomputations is the one that would have been sent before them. -/
theorem sendDeskChange_refiguredEach (slots : List (Fin 96)) (cause : Nat) (s : State) :
    sendDeskChange (s.refiguredEach slots cause) = { s.refiguredEach slots cause with
      links := { (s.refiguredEach slots cause).links with slgCmp := s.links.slgCmp ++ [mail .slg s ()] } } := by
  obtain ⟨hlink, htaken⟩ := refiguredEach_frame slots cause s
  simp only [sendDeskChange, State.withLinks, mail, hlink, htaken]

/-! ## The operations by the state of the desk -/

section ByState

variable {d : Fin 16} {s : State}

/-- Opening an OPEN desk changes nothing (R46). -/
theorem openDesk_of_opened (h : (s.slg.desks.get d).state = .opened) : openDesk d s = s := if_pos h

/-- A desk that is not OPEN becomes OPEN, its gap not yet measured, and the CMP is told (R46). -/
theorem openDesk_of_not_opened (h : (s.slg.desks.get d).state ≠ .opened) : openDesk d s
    = sendDeskChange (setDesk d (fun k => { k with state := .opened, gap := 0, lastGap := 0, measuring := false }) s) :=
  if_neg h

/-- Closing a CLOSED desk changes nothing (R48). -/
theorem closeDesk_of_closed (h : (s.slg.desks.get d).state = .closed) : closeDesk d s = s := by
  simp only [closeDesk, h]

/-- A SILENT desk becomes CLOSED, and the CMP is told; it has no holds to drop (R48). -/
theorem closeDesk_of_silent (h : (s.slg.desks.get d).state = .silent) : closeDesk d s
    = sendDeskChange (setDesk d (fun k => { k with state := .closed, measuring := false }) s) := by
  simp only [closeDesk, h]

/-- An OPEN desk becomes CLOSED, its holds are dropped, their showings recomputed, and the CMP is told (R48, R44). -/
theorem closeDesk_of_opened (h : (s.slg.desks.get d).state = .opened) : closeDesk d s
    = sendDeskChange ((setDesk d (fun k => { k with state := .closed, measuring := false })
        (s.dropped fun h => h.desk == d)).refiguredEach (slotsOfHolds (fun h => h.desk == d) s.slg) 8) := by
  simp only [closeDesk, h, dropHolds_eq_dropped, recomputeEach_eq_refiguredEach]
  rw [dropped_setDesk fun _ _ => rfl]

/-- The BEAT of an OPEN desk is a contact (R47). -/
theorem beatDesk_of_opened (h : (s.slg.desks.get d).state = .opened) : beatDesk d s = setDesk d contactDesk s := if_pos h

/-- The BEAT of any other desk is refused (R47). -/
theorem beatDesk_of_not_opened (h : (s.slg.desks.get d).state ≠ .opened) :
    beatDesk d s = refuse .slg 8 .deskNotOpen d.val s := if_neg h

/-- A HOLD from a desk that is not OPEN is refused before anything else of it is looked at (R38, R47). -/
theorem takeHold_of_not_opened (h : (s.slg.desks.get d).state ≠ .opened) (tag id seats period : Nat) :
    takeHold d.val tag id seats period s = refuse .slg 6 .deskNotOpen d.val s := by
  simp only [takeHold, asFin_val, if_neg h]

/-- A well-formed RELEASE from a desk that is not OPEN is refused (R41, R47). -/
theorem takeRelease_of_not_opened (h : (s.slg.desks.get d).state ≠ .opened) {seats convert : Nat} (hlo : 1 ≤ seats)
    (hhi : seats ≤ 15) (hc : convert ≤ 1) (tag id : Nat) :
    takeRelease d.val tag id seats convert s = refuse .slg 7 .deskNotOpen d.val s := by
  have hseats : ¬ (seats = 0 ∨ 15 < seats) := by omega
  obtain ⟨c, hyes⟩ : ∃ c, yesNo convert = some c := by interval_cases convert <;> exact ⟨_, rfl⟩
  simp only [takeRelease, asFin_val, hyes, if_neg hseats, if_neg h]

end ByState

/-- Settles O30: the packet reaches its desk or is refused, and each operation is taken by the state of that desk. -/
theorem deskOperations : Obligations.DeskOperations := by
  unfold Obligations.DeskOperations
  refine ⟨fun dk op clock rest s h => ⟨fun h1 h2 h3 => ?badOperation, fun hdk => ?noDesk, ?desk⟩, fun _ => rfl,
    fun d tag id seats clock rest s hd => ⟨fun period h => ?hold, fun convert h hlo hhi hc => ?release⟩⟩
  case badOperation =>
    exact (exec_deskBadOperation s).trans (deliver_leaves h (pickBadOperation_of_bad h1 h2 h3) rfl)
  case noDesk =>
    refine ⟨?_, ?_, ?_⟩ <;> rintro rfl
    · exact (exec_deskOpen s).trans (desk_refused openDesk h hdk)
    · exact (exec_deskClose s).trans (desk_refused closeDesk h hdk)
    · exact (exec_deskBeat s).trans (desk_refused beatDesk h hdk)
  case desk =>
    rintro d rfl
    refine ⟨?open_opened, ?open_other, ?close_closed, ?close_silent, ?close_opened, ?beat_opened, ?beat_other⟩ <;>
      rintro rfl hk
    case open_opened => exact (exec_deskOpen s).trans (desk_leaves h (openDesk_of_opened hk))
    case open_other => exact (exec_deskOpen s).trans (desk_leaves h (openDesk_of_not_opened hk))
    case close_closed => exact (exec_deskClose s).trans (desk_leaves h (closeDesk_of_closed hk))
    case close_silent => exact (exec_deskClose s).trans (desk_leaves h (closeDesk_of_silent hk))
    case close_opened =>
      have hclose := closeDesk_of_opened (s := s.withFifo rest) hk
      exact (exec_deskClose s).trans (desk_leaves h (hclose.trans (sendDeskChange_refiguredEach _ _ _)))
    case beat_opened => exact (exec_deskBeat s).trans (desk_leaves h (beatDesk_of_opened hk))
    case beat_other => exact (exec_deskBeat s).trans (desk_leaves h (beatDesk_of_not_opened hk))
  case hold =>
    have hrefused := takeHold_of_not_opened (s := s.withFifo rest) hd tag id seats period
    exact (exec_hold s).trans (deliver_leaves h rfl hrefused)
  case release =>
    have hrefused := takeRelease_of_not_opened (s := s.withFifo rest) hd hlo hhi hc tag id
    exact (exec_release s).trans (deliver_leaves h rfl hrefused)

end Sys2Proof.Machine
end

section
/-! PROOFS. Seats used, seats left and fill (R54, R55), and the bytes of the LEDGER reply (R52). -/

namespace Sys2Proof.Machine

/-! ## Seats used and seats left -/

section Figures

variable {l : Ledger}

theorem seatsUsed_le (hB : l.B ≤ 999) (hS : l.S ≤ 999) (hP : l.P ≤ 999) (hH : l.H ≤ 960) : seatsUsed l ≤ 3957 := by
  unfold seatsUsed
  omega

theorem blocked_le_seatsUsed (l : Ledger) : l.B ≤ seatsUsed l := by
  unfold seatsUsed
  omega

theorem seatsLeft_of_used_lt (h : seatsUsed l < l.C) : (seatsLeft l : Int) = l.C - seatsUsed l := Int.ofNat_sub h.le

theorem seatsLeft_of_capacity_le (h : l.C ≤ seatsUsed l) : seatsLeft l = 0 := Nat.sub_eq_zero_of_le h

theorem seatsLeft_le_sub_blocked (l : Ledger) : seatsLeft l ≤ l.C - l.B := Nat.sub_le_sub_left (blocked_le_seatsUsed l) l.C

theorem seatsLeft_le_capacity (l : Ledger) : seatsLeft l ≤ l.C := Nat.sub_le _ _

/-! ## The fill -/

/-- From U = C on the quotient is at least 100, so the limit of R55 decides. -/
theorem seatFill_of_capacity_le (hC : 0 < l.C) (h : l.C ≤ seatsUsed l) : seatFill l = 100 :=
  min_eq_left ((Nat.le_div_iff_mul_le hC).2 (Nat.mul_le_mul_left 100 h))

/-- Below U = C the quotient is below 100, so the limit of R55 changes nothing. -/
theorem seatFill_of_used_lt (h : seatsUsed l < l.C) : seatFill l = 100 * seatsUsed l / l.C :=
  min_eq_right (Nat.div_le_of_le_mul ((Nat.mul_le_mul_left 100 h.le).trans_eq (Nat.mul_comm _ _)))

theorem seatFill_eq (hC : 0 < l.C) : seatFill l = if l.C ≤ seatsUsed l then 100 else 100 * seatsUsed l / l.C := by
  split
  case isTrue h => exact seatFill_of_capacity_le hC h
  case isFalse h => exact seatFill_of_used_lt (not_le.1 h)

end Figures

/-! ## The LEDGER reply -/

/-- What the LEDGER reply of a record with a key carries behind the stamp (R52): the three conditions and the figure key, and so
nothing that depends on the seats themselves (tied to the model by `answerLedger_of_key`). -/
def ledgerTail (stale oversold soldout : Bool) (k : FigureKey) : List Byte :=
  putFlag stale ++ putFlag oversold ++ putFlag soldout ++ putKey (some k)

theorem answerLedger_of_key {s : State} {slot : Fin 96} {k : FigureKey} (ht : awaitsTally s slot = false)
    (hk : (s.slg.ledger.get slot).key = some k) :
    let l := s.slg.ledger.get slot
    answerLedger s slot = .values (put2 l.C ++ put2 l.S ++ put2 l.B ++ put2 l.P ++ put2 l.H ++ put2 l.A ++ put3 l.stamp
      ++ ledgerTail l.stale l.oversold l.soldout k) := by
  simp [answerLedger, ledgerTail, ht, hk]

/-- Settles O22: the figures by the two sides of U = C, and the reply by `ledgerTail`. -/
theorem seatsUsedLeftAndFill : Obligations.SeatsUsedLeftAndFill := by
  unfold Obligations.SeatsUsedLeftAndFill
  exact ⟨fun l => ⟨rfl, seatsLeft_of_used_lt, seatsLeft_of_capacity_le, seatsLeft_le_sub_blocked l, seatsUsed_le,
      (seatsLeft_le_capacity l).trans, seatFill_eq⟩,
    ledgerTail, fun _ _ _ => answerLedger_of_key⟩

end Sys2Proof.Machine
end

section
/-! PROOFS. What each shared operation may write: the machine is cut into parts, and `Keeps w s t` says that `t` has every part of `s` but
those of `w`. One lemma for each operation, in the order of the model; `Sys2Proof.Machine.exec_keeps` puts them together. -/

namespace Sys2Proof.Machine

/-! ## Parts -/

/-- The parts of the machine. `blc` is the Blit Channels but for the unit in writing, `tif` the TIF but for its FIFO, its RESET in
delivery, its event queue and the dropped count, `links` the links but for the requests of the SCH to the SLG and of the CMP to the channels. -/
inductive Part where
  | lck | sch | slg | ntc | cmp | tst | blc | unit | ports | fifo | resetting | events | tif | schSlg | cmpBlc | links | taken | inReset | pending
deriving DecidableEq

/-- Two machines have one part in common. -/
def Part.same : Part → State → State → Prop
  | .lck, s, t => t.lck = s.lck
  | .sch, s, t => t.sch = s.sch
  | .slg, s, t => t.slg = s.slg
  | .ntc, s, t => t.ntc = s.ntc
  | .cmp, s, t => t.cmp = s.cmp
  | .tst, s, t => t.tst = s.tst
  | .blc, s, t => { t.blc with unit := none } = { s.blc with unit := none }
  | .unit, s, t => t.blc.unit = s.blc.unit
  | .ports, s, t => t.ports = s.ports
  | .fifo, s, t => t.tif.fifo = s.tif.fifo
  | .resetting, s, t => t.tif.resetting = s.tif.resetting
  | .events, s, t => (t.tif.events, t.tif.dropped) = (s.tif.events, s.tif.dropped)
  | .tif, s, t =>
    { t.tif with fifo := [], resetting := none, events := [], dropped := 0 } = { s.tif with fifo := [], resetting := none, events := [], dropped := 0 }
  | .schSlg, s, t => t.links.schSlg = s.links.schSlg
  | .cmpBlc, s, t => t.links.cmpBlc = s.links.cmpBlc
  | .links, s, t => { t.links with schSlg := [], cmpBlc := Tab.fill 4 [] } = { s.links with schSlg := [], cmpBlc := Tab.fill 4 [] }
  | .taken, s, t => t.taken = s.taken
  | .inReset, s, t => t.inReset = s.inReset
  | .pending, s, t => t.pending = s.pending

/-- `t` has every part of `s` but those of `w`. -/
structure Keeps (w : List Part) (s t : State) : Prop where
  same : ∀ p, p ∉ w → p.same s t

section Parts

variable {w : List Part} {s t u : State}

@[simp] theorem Keeps.refl (w : List Part) (s : State) : Keeps w s s := ⟨fun p _ => by cases p <;> rfl⟩

theorem Keeps.trans (h : Keeps w s t) (k : Keeps w t u) : Keeps w s u := ⟨fun p hp => by
  have h := h.same p hp
  have k := k.same p hp
  cases p <;> exact Eq.trans k h⟩

theorem Keeps.symm (h : Keeps w s t) : Keeps w t s := ⟨fun p hp => by
  have h := h.same p hp
  cases p <;> exact Eq.symm h⟩

/-- What keeps the other parts makes no difference to them. -/
theorem keeps_iff (h : Keeps w t u) : Keeps w s u ↔ Keeps w s t := ⟨fun k => k.trans h.symm, fun k => k.trans h⟩

/-- A command that writes less keeps more. -/
theorem Keeps.mono {v : List Part} (h : Keeps v s t) (hvw : v ⊆ w) : Keeps w s t := ⟨fun p hp => h.same p fun hv => hp (hvw hv)⟩

theorem Keeps.lck (h : Keeps w s t) (hw : .lck ∉ w := by decide) : t.lck = s.lck := h.same .lck hw
theorem Keeps.sch (h : Keeps w s t) (hw : .sch ∉ w := by decide) : t.sch = s.sch := h.same .sch hw
theorem Keeps.slg (h : Keeps w s t) (hw : .slg ∉ w := by decide) : t.slg = s.slg := h.same .slg hw
theorem Keeps.ntc (h : Keeps w s t) (hw : .ntc ∉ w := by decide) : t.ntc = s.ntc := h.same .ntc hw
theorem Keeps.cmp (h : Keeps w s t) (hw : .cmp ∉ w := by decide) : t.cmp = s.cmp := h.same .cmp hw
theorem Keeps.tst (h : Keeps w s t) (hw : .tst ∉ w := by decide) : t.tst = s.tst := h.same .tst hw
theorem Keeps.channels (h : Keeps w s t) (hw : .blc ∉ w := by decide) : t.blc.channels = s.blc.channels := by
  have k := h.same .blc hw
  simp_all [Part.same]

theorem Keeps.run (h : Keeps w s t) (hw : .blc ∉ w := by decide) : t.blc.run = s.blc.run := by
  have k := h.same .blc hw
  simp_all [Part.same]

theorem Keeps.unit (h : Keeps w s t) (hw : .unit ∉ w := by decide) : t.blc.unit = s.blc.unit := h.same .unit hw
theorem Keeps.ports (h : Keeps w s t) (hw : .ports ∉ w := by decide) : t.ports = s.ports := h.same .ports hw
theorem Keeps.fifo (h : Keeps w s t) (hw : .fifo ∉ w := by decide) : t.tif.fifo = s.tif.fifo := h.same .fifo hw
theorem Keeps.resetting (h : Keeps w s t) (hw : .resetting ∉ w := by decide) : t.tif.resetting = s.tif.resetting := h.same .resetting hw
theorem Keeps.schSlg (h : Keeps w s t) (hw : .schSlg ∉ w := by decide) : t.links.schSlg = s.links.schSlg := h.same .schSlg hw
theorem Keeps.cmpBlc (h : Keeps w s t) (hw : .cmpBlc ∉ w := by decide) : t.links.cmpBlc = s.links.cmpBlc := h.same .cmpBlc hw
theorem Keeps.taken (h : Keeps w s t) (hw : .taken ∉ w := by decide) : t.taken = s.taken := h.same .taken hw
theorem Keeps.inReset (h : Keeps w s t) (hw : .inReset ∉ w := by decide) : t.inReset = s.inReset := h.same .inReset hw
theorem Keeps.pending (h : Keeps w s t) (hw : .pending ∉ w := by decide) : t.pending = s.pending := h.same .pending hw

theorem Keeps.events (h : Keeps w s t) (hw : .events ∉ w := by decide) : t.tif.events = s.tif.events :=
  congrArg Prod.fst (h.same .events hw)

theorem Keeps.dropped (h : Keeps w s t) (hw : .events ∉ w := by decide) : t.tif.dropped = s.tif.dropped :=
  congrArg Prod.snd (h.same .events hw)

/-! ## Replacing a part -/

@[simp] theorem keeps_withLck (hw : .lck ∈ w) (x : Lck) : Keeps w s (t.withLck x) ↔ Keeps w s t :=
  keeps_iff ⟨fun p hp => by cases p <;> first | exact absurd hw hp | rfl⟩

@[simp] theorem keeps_withSch (hw : .sch ∈ w) (x : Sch) : Keeps w s (t.withSch x) ↔ Keeps w s t :=
  keeps_iff ⟨fun p hp => by cases p <;> first | exact absurd hw hp | rfl⟩

@[simp] theorem keeps_withSlg (hw : .slg ∈ w) (x : Slg) : Keeps w s (t.withSlg x) ↔ Keeps w s t :=
  keeps_iff ⟨fun p hp => by cases p <;> first | exact absurd hw hp | rfl⟩

@[simp] theorem keeps_withNtc (hw : .ntc ∈ w) (x : Ntc) : Keeps w s (t.withNtc x) ↔ Keeps w s t :=
  keeps_iff ⟨fun p hp => by cases p <;> first | exact absurd hw hp | rfl⟩

@[simp] theorem keeps_withCmp (hw : .cmp ∈ w) (x : Cmp) : Keeps w s (t.withCmp x) ↔ Keeps w s t :=
  keeps_iff ⟨fun p hp => by cases p <;> first | exact absurd hw hp | rfl⟩

@[simp] theorem keeps_withTst (hw : .tst ∈ w) (x : Tst) : Keeps w s (t.withTst x) ↔ Keeps w s t :=
  keeps_iff ⟨fun p hp => by cases p <;> first | exact absurd hw hp | rfl⟩

/-- Of the Blit Channels a command may write what `w` names. -/
@[simp] theorem keeps_withBlc {x : Blc} (hw : .blc ∈ w) (hu : x.unit = t.blc.unit ∨ .unit ∈ w) :
    Keeps w s (t.withBlc x) ↔ Keeps w s t := keeps_iff ⟨fun p hp => by
  cases p with
  | blc => exact absurd hw hp
  | unit => exact hu.resolve_right hp
  | _ => rfl⟩

@[simp] theorem keeps_withBlc_of_mem (hw : .blc ∈ w) (hu : .unit ∈ w) (x : Blc) : Keeps w s (t.withBlc x) ↔ Keeps w s t :=
  keeps_withBlc hw (.inr hu)

@[simp] theorem keeps_withPorts (hw : .ports ∈ w) (x : Tab 8 Port) : Keeps w s (t.withPorts x) ↔ Keeps w s t :=
  keeps_iff ⟨fun p hp => by cases p <;> first | exact absurd hw hp | rfl⟩

@[simp] theorem keeps_withTaken (hw : .taken ∈ w) (x : Tab 9 Nat) : Keeps w s (t.withTaken x) ↔ Keeps w s t :=
  keeps_iff ⟨fun p hp => by cases p <;> first | exact absurd hw hp | rfl⟩

@[simp] theorem keeps_withInReset (hw : .inReset ∈ w) (x : Bool) : Keeps w s (t.withInReset x) ↔ Keeps w s t :=
  keeps_iff ⟨fun p hp => by cases p <;> first | exact absurd hw hp | rfl⟩

@[simp] theorem keeps_withFifo (hw : .fifo ∈ w) (x : List Taken) : Keeps w s (t.withFifo x) ↔ Keeps w s t :=
  keeps_iff ⟨fun p hp => by cases p <;> first | exact absurd hw hp | rfl⟩

/-- Of the TIF a command may write what `w` names. -/
@[simp] theorem keeps_withTif {x : Tif} (hw : .tif ∈ w) (hf : x.fifo = t.tif.fifo ∨ .fifo ∈ w)
    (hr : x.resetting = t.tif.resetting ∨ .resetting ∈ w)
    (he : (x.events = t.tif.events ∧ x.dropped = t.tif.dropped) ∨ .events ∈ w) :
    Keeps w s (t.withTif x) ↔ Keeps w s t := keeps_iff ⟨fun p hp => by
  cases p with
  | tif => exact absurd hw hp
  | fifo => exact hf.resolve_right hp
  | resetting => exact hr.resolve_right hp
  | events =>
    obtain ⟨h1, h2⟩ := he.resolve_right hp
    exact congrArg₂ Prod.mk h1 h2
  | _ => rfl⟩

@[simp] theorem keeps_onTif {f : Tif → Tif} (hw : .tif ∈ w) (hf : (f t.tif).fifo = t.tif.fifo ∨ .fifo ∈ w)
    (hr : (f t.tif).resetting = t.tif.resetting ∨ .resetting ∈ w)
    (he : ((f t.tif).events = t.tif.events ∧ (f t.tif).dropped = t.tif.dropped) ∨ .events ∈ w) :
    Keeps w s (onTif f t) ↔ Keeps w s t := keeps_withTif hw hf hr he

/-- Of the links a command may write what `w` names. -/
@[simp] theorem keeps_withLinks {x : Links} (hw : .links ∈ w) (hs : x.schSlg = t.links.schSlg ∨ .schSlg ∈ w)
    (hc : x.cmpBlc = t.links.cmpBlc ∨ .cmpBlc ∈ w) : Keeps w s (t.withLinks x) ↔ Keeps w s t := keeps_iff ⟨fun p hp => by
  cases p with
  | links => exact absurd hw hp
  | schSlg => exact hs.resolve_right hp
  | cmpBlc => exact hc.resolve_right hp
  | _ => rfl⟩

/-! ## Branches and folds -/

@[simp] theorem keeps_ite {c : Prop} [Decidable c] : Keeps w s (if c then t else u) ↔ if c then Keeps w s t else Keeps w s u := by
  split <;> rfl

@[simp] theorem keeps_foldl {α : Type} {f : State → α → State} (hf : ∀ u a, Keeps w u (f u a)) (l : List α) :
    Keeps w s (l.foldl f t) ↔ Keeps w s t := by
  induction l generalizing t with
  | nil => rfl
  | cons a l ih => exact ih.trans (keeps_iff (hf t a))

/-! ## Events and requests -/

@[simp] theorem keeps_postRecord (hw : .links ∈ w) (b : Block) (e : Event) : Keeps w s (postRecord b e t) ↔ Keeps w s t := by
  simp [Machine.postRecord, hw]

@[simp] theorem keeps_post (hw : .links ∈ w) (b : Block) (k : EventKind) (n : Nat) (d : List Nat) : Keeps w s (post b k n d t) ↔ Keeps w s t := keeps_postRecord hw b _

@[simp] theorem keeps_refuse (hw : .links ∈ w) (b : Block) (k : Nat) (r : Reason) (n : Nat) : Keeps w s (refuse b k r n t) ↔ Keeps w s t := keeps_post hw b _ _ _

@[simp] theorem keeps_refuseSet (hw : .links ∈ w) (b : Block) (r : Reason) (n : Nat) : Keeps w s (refuseSet b r n t) ↔ Keeps w s t := keeps_refuse hw b _ _ _

@[simp] theorem keeps_refuseTable (hw : .links ∈ w) (b : Block) (r : Reason) (n : Nat) : Keeps w s (refuseTable b r n t) ↔ Keeps w s t := keeps_refuse hw b _ _ _

@[simp] theorem keeps_sendPurge (hw : .links ∈ w) (x : PurgeSender) (i : Fin 96) : Keeps w s (sendPurge x i t) ↔ Keeps w s t := by
  cases x <;> simp [Machine.sendPurge, hw]

@[simp] theorem keeps_sendSlg (hw : .links ∈ w) (hs : .schSlg ∈ w) (x : ToSlg) : Keeps w s (sendSlg x t) ↔ Keeps w s t := by
  simp [Machine.sendSlg, hw, hs]

@[simp] theorem keeps_sendNtc (hw : .links ∈ w) (x : ToNtc) : Keeps w s (sendNtc x t) ↔ Keeps w s t := by
  simp [Machine.sendNtc, hw]

@[simp] theorem keeps_sendSoldOut (hw : .links ∈ w) (x : AutoRaise) : Keeps w s (sendSoldOut x t) ↔ Keeps w s t := by
  simp [Machine.sendSoldOut, hw]

@[simp] theorem keeps_sendRosterChange (hw : .links ∈ w) (x : Fin 8) : Keeps w s (sendRosterChange x t) ↔ Keeps w s t := by
  simp [Machine.sendRosterChange, hw]

@[simp] theorem keeps_sendDeskChange (hw : .links ∈ w) : Keeps w s (sendDeskChange t) ↔ Keeps w s t := by
  simp [Machine.sendDeskChange, hw]

@[simp] theorem keeps_sendSch (hw : .links ∈ w) (x : ToSch) : Keeps w s (sendSch x t) ↔ Keeps w s t := by
  simp [Machine.sendSch, hw]

@[simp] theorem keeps_sendCmp (hw : .links ∈ w) (x : ToCmp) : Keeps w s (sendCmp x t) ↔ Keeps w s t := by
  simp [Machine.sendCmp, hw]

@[simp] theorem keeps_sendEntryFree (hw : .links ∈ w) (x : Fin 24) : Keeps w s (sendEntryFree x t) ↔ Keeps w s t := by
  simp [Machine.sendEntryFree, hw]

@[simp] theorem keeps_sendFilterLoad (hw : .links ∈ w) (x : Fin 8) : Keeps w s (sendFilterLoad x t) ↔ Keeps w s t := by
  simp [Machine.sendFilterLoad, hw]

@[simp] theorem keeps_sendChannel (hw : .links ∈ w) (hc : .cmpBlc ∈ w) (n : Fin 4) (x : ToChannel) : Keeps w s (sendChannel n x t) ↔ Keeps w s t := by
  simp [Machine.sendChannel, hw, hc]

@[simp] theorem keeps_sendPort (hw : .links ∈ w) (p : Fin 8) (x : ToPort) : Keeps w s (sendPort p x t) ↔ Keeps w s t := by
  simp [Machine.sendPort, hw]

@[simp] theorem keeps_sendFromTst (hw : .links ∈ w) (x : FromTst) : Keeps w s (sendFromTst x t) ↔ Keeps w s t := by
  simp [Machine.sendFromTst, hw]

@[simp] theorem keeps_sendReport (hw : .links ∈ w) (n : Fin 4) (x : FromChannel) : Keeps w s (sendReport n x t) ↔ Keeps w s t := by
  simp [Machine.sendReport, hw]

@[simp] theorem keeps_sendUnpin (hw : .links ∈ w) (n : Fin 4) (x : TileRef) : Keeps w s (sendUnpin n x t) ↔ Keeps w s t := by
  simp [Machine.sendUnpin, hw]

@[simp] theorem keeps_sendFromPort (hw : .links ∈ w) (p : Fin 8) (x : FromPort) : Keeps w s (sendFromPort p x t) ↔ Keeps w s t := by
  simp [Machine.sendFromPort, hw]

@[simp] theorem keeps_sendPresenceNtc (hw : .links ∈ w) (p : Fin 8) (x : Mode) : Keeps w s (sendPresenceNtc p x t) ↔ Keeps w s t := by
  simp [Machine.sendPresenceNtc, hw]

@[simp] theorem keeps_noteCause (hw : .sch ∈ w) (b : Bool) (k : Nat) : Keeps w s (noteCause b k t) ↔ Keeps w s t := keeps_withSch hw _

end Parts

end Sys2Proof.Machine
end

section
/-! PROOFS. What each block's operations may write: the LCK and the SCH, the SLG, the NTC. -/

namespace Sys2Proof.Machine

/-- What the SCH writes. -/
abbrev schParts : List Part := [.sch, .schSlg, .links]

/-- What the SLG writes. -/
abbrev slgParts : List Part := [.slg, .links]

/-- What the NTC writes. -/
abbrev ntcParts : List Part := [.ntc, .links]

section Sch

variable {s t : State}

@[simp] theorem keeps_setShowing (i : Fin 96) (sh : Showing) : Keeps schParts s (t.setShowing i sh) ↔ Keeps schParts s t := by
  simp [State.setShowing]

@[simp] theorem keeps_reschedule (i : Fin 96) : Keeps schParts s (reschedule i t) ↔ Keeps schParts s t := by
  simp [Machine.reschedule]

@[simp] theorem keeps_evalRoster (f : Fin 8) : Keeps schParts s (evalRoster f t) ↔ Keeps schParts s t := by
  simp [Machine.evalRoster]

@[simp] theorem keeps_evalRosters : Keeps schParts s (evalRosters t) ↔ Keeps schParts s t :=
  keeps_foldl (by simp) _

@[simp] theorem keeps_changeState (i : Fin 96) (st : ShowState) (k : Nat) : Keeps schParts s (changeState i st k t) ↔ Keeps schParts s t := by
  simp [Machine.changeState]

@[simp] theorem keeps_sendSaleEnd (i : Fin 96) : Keeps schParts s (sendSaleEnd i t) ↔ Keeps schParts s t := by
  simp [Machine.sendSaleEnd]

@[simp] theorem keeps_clearAutoEntry (i : Fin 96) : Keeps schParts s (clearAutoEntry i t) ↔ Keeps schParts s t :=
  keeps_setShowing i _

@[simp] theorem keeps_clearShowing (i : Fin 96) : Keeps schParts s (clearShowing i t) ↔ Keeps schParts s t :=
  keeps_setShowing i _

@[simp] theorem keeps_boardingRaise (i : Fin 96) (k : Nat) : Keeps schParts s (boardingRaise i k t) ↔ Keeps schParts s t := by
  unfold Machine.boardingRaise
  dsimp only
  split <;> simp

@[simp] theorem keeps_purgeOnSale : Keeps schParts s (purgeOnSale t) ↔ Keeps schParts s t :=
  keeps_foldl (by simp) _

@[simp] theorem keeps_rescheduleAll : Keeps schParts s (rescheduleAll t) ↔ Keeps schParts s t :=
  keeps_foldl (by simp) _

@[simp] theorem keeps_cancelEntry (i : Fin 96) : Keeps schParts s (cancelEntry i t) ↔ Keeps schParts s t := by
  simp [Machine.cancelEntry]

theorem openEffect_keeps (i : Fin 96) (k : Nat) (s : State) : Keeps schParts s (openEffect i k s) := by simp [openEffect]

theorem countdownEffect_keeps (i : Fin 96) (k : Nat) (s : State) : Keeps schParts s (countdownEffect i k s) := by
  simp [countdownEffect]

theorem boardEffect_keeps (i : Fin 96) (k : Nat) (s : State) : Keeps schParts s (boardEffect i k s) := by simp [boardEffect]

theorem startEffect_keeps (i : Fin 96) (k : Nat) (s : State) : Keeps schParts s (startEffect i k s) := by simp [startEffect]

theorem endEffect_keeps (i : Fin 96) (k : Nat) (s : State) : Keeps schParts s (endEffect i k s) := by simp [endEffect]

theorem reapEffect_keeps (i : Fin 96) (k : Nat) (s : State) : Keeps schParts s (reapEffect i k s) := by simp [reapEffect]

theorem fireHead_keeps {effect : Fin 96 → Nat → State → State} (he : ∀ i k u, Keeps schParts u (effect i k u)) (kind : EntryKind)
    (ok : ShowState → Bool) (s : State) : Keeps schParts s (fireHead kind ok effect s) := by
  unfold fireHead
  split
  · simp
  · split
    · rw [keeps_reschedule, keeps_iff (he _ _ _)]
      simp
    · simp

theorem applyListing_keeps (f : ListingFields) (k : Nat) (s : State) : Keeps schParts s (applyListing f k s) := by
  unfold applyListing
  split
  · simp
  · split
    · simp
    · simp [newListing, updateListing]

theorem applyCancel_keeps (id : Nat) (s : State) : Keeps schParts s (applyCancel id s) := by
  unfold applyCancel
  split
  · simp
  · split <;> simp [cancelShowing]

theorem applyRemove_keeps (id : Nat) (s : State) : Keeps schParts s (applyRemove id s) := by
  unfold applyRemove
  split <;> simp [removeShowing]

theorem doRaiseReport_keeps (s : State) : Keeps schParts s (doRaiseReport s) := by
  unfold doRaiseReport
  split
  · simp only [takeRaiseReport]
    split_ifs <;> simp
  · simp

theorem doAutoFreeReport_keeps (s : State) : Keeps schParts s (doAutoFreeReport s) := by
  unfold doAutoFreeReport
  split
  · simp only [takeAutoFree]
    split_ifs <;> simp
  · simp

theorem doFilterLoadReport_keeps (s : State) : Keeps schParts s (doFilterLoadReport s) := by
  unfold doFilterLoadReport
  split <;> simp

theorem applySchSetting_keeps (store : Sch → Sch) (s : State) : Keeps schParts s (applySchSetting store s) := by
  simp [applySchSetting]

theorem applyTitle_keeps (i : Nat) (b : TableBody) (s : State) : Keeps schParts s (applyTitle i b s) := by
  unfold applyTitle
  split
  · split
    · simp
    · split
      · simp
      · simp [purgeTitle]
  · simp

/-- What the LCK writes: the SCH is told what brought it to the new clock value, and the Tile Store of purges. -/
abbrev lckParts : List Part := [.lck, .sch, .links]

theorem doSecondsPulse_keeps (s : State) : Keeps lckParts s (doSecondsPulse s) := by
  simp only [doSecondsPulse, distributePulse, advanceClock, raiseMinute]
  split_ifs <;> simp

theorem doClockHold_keeps (s : State) : Keeps lckParts s (doClockHold s) := by simp [doClockHold]

theorem setTime_keeps (v : Nat) (s : State) : Keeps lckParts s (setTime v s) := by
  simp [setTime, raiseMinute, purgeOnSale]

end Sch

section Slg

variable {s t : State}

@[simp] theorem keeps_setLedger (i : Fin 96) (f : Ledger → Ledger) : Keeps slgParts s (setLedger i f t) ↔ Keeps slgParts s t := by
  simp [Machine.setLedger]

@[simp] theorem keeps_setDesk (i : Fin 16) (f : Desk → Desk) : Keeps slgParts s (setDesk i f t) ↔ Keeps slgParts s t := by
  simp [Machine.setDesk]

@[simp] theorem keeps_setHold (i : Fin 64) (x : Option Hold) : Keeps slgParts s (setHold i x t) ↔ Keeps slgParts s t := by
  simp [Machine.setHold]

@[simp] theorem keeps_soldOutDecision (st : ShowState) (i : Fin 96) (c : Nat) (k : FigureKey) : Keeps slgParts s (soldOutDecision st i c k t) ↔ Keeps slgParts s t := by
  unfold Machine.soldOutDecision
  split <;> simp

@[simp] theorem keeps_recomputeAs (st : ShowState) (i : Fin 96) (c : Nat) : Keeps slgParts s (recomputeAs st i c t) ↔ Keeps slgParts s t := by
  simp [Machine.recomputeAs]

@[simp] theorem keeps_recompute (i : Fin 96) (c : Nat) : Keeps slgParts s (recompute i c t) ↔ Keeps slgParts s t := by
  simp [Machine.recompute]

@[simp] theorem keeps_recomputeEach (l : List (Fin 96)) (c : Nat) : Keeps slgParts s (recomputeEach l c t) ↔ Keeps slgParts s t :=
  keeps_foldl (by simp) l

@[simp] theorem keeps_evalOversold (i : Fin 96) : Keeps slgParts s (evalOversold i t) ↔ Keeps slgParts s t := by
  simp [Machine.evalOversold, markOversold]

@[simp] theorem keeps_freeEntry (i : Fin 64) (x : Hold) : Keeps slgParts s (freeEntry i x t) ↔ Keeps slgParts s t := by
  simp [Machine.freeEntry]

@[simp] theorem keeps_dropHolds (p : Hold → Bool) : Keeps slgParts s (dropHolds p t) ↔ Keeps slgParts s t :=
  keeps_foldl (fun u i => by unfold dropIf; split <;> simp) _

@[simp] theorem keeps_contact (d : Fin 16) : Keeps slgParts s (contact d t) ↔ Keeps slgParts s t := keeps_setDesk d _

@[simp] theorem keeps_touch (i : Fin 96) : Keeps slgParts s (touch i t) ↔ Keeps slgParts s t := by simp [Machine.touch]

@[simp] theorem keeps_becomeStale (i : Fin 96) : Keeps slgParts s (becomeStale i t) ↔ Keeps slgParts s t := by
  simp [Machine.becomeStale]

@[simp] theorem keeps_applyTally (i : Fin 96) (a b c k : Nat) : Keeps slgParts s (applyTally i a b c k t) ↔ Keeps slgParts s t := by
  simp [Machine.applyTally]

theorem takeTally_keeps (id a b c : Nat) (s : State) : Keeps slgParts s (takeTally id a b c s) := by
  unfold takeTally
  split <;> simp

theorem takeListingTally_keeps (i : Fin 96) (a b c d : Nat) (f : Bool) (s : State) :
    Keeps slgParts s (takeListingTally i a b c d f s) := by
  simp [takeListingTally, storeOpeningKey]

theorem doListingTally_keeps (s : State) : Keeps [.slg, .schSlg, .links] s (doListingTally s) := by
  unfold doListingTally
  split
  · simp [keeps_iff ((takeListingTally_keeps ..).mono (w := [.slg, .schSlg, .links]) (by simp))]
  · simp

theorem takeStateChange_keeps (i : Fin 96) (st : ShowState) (c : Nat) (s : State) : Keeps slgParts s (takeStateChange i st c s) := by
  unfold takeStateChange
  split <;> simp

theorem doStateChange_keeps (s : State) : Keeps [.slg, .schSlg, .links] s (doStateChange s) := by
  unfold doStateChange
  split
  · simp [keeps_iff ((takeStateChange_keeps ..).mono (w := [.slg, .schSlg, .links]) (by simp))]
  · simp

theorem placeHold_keeps (x : Hold) (s : State) : Keeps slgParts s (placeHold x s) := by
  unfold placeHold
  split
  · split <;> simp [amendHold]
  · split <;> simp [makeHold]

theorem takeHold_keeps (dk tag id seats period : Nat) (s : State) : Keeps slgParts s (takeHold dk tag id seats period s) := by
  unfold takeHold
  split
  · simp
  · unfold holdAtDesk
    split
    · split
      · simp
      · split_ifs <;> simp [placeHold_keeps]
    · simp

theorem acceptRelease_keeps (d : Fin 16) (tag id seats : Nat) (c : Bool) (s : State) :
    Keeps slgParts s (acceptRelease d tag id seats c s) := by
  unfold acceptRelease
  dsimp only
  split
  · split <;> simp [releaseEntry, convertSeats]
  · unfold lateRelease
    dsimp only
    split <;> simp [markOversold, convertSeats]

theorem takeRelease_keeps (dk tag id seats convert : Nat) (s : State) : Keeps slgParts s (takeRelease dk tag id seats convert s) := by
  unfold takeRelease
  split <;> simp [acceptRelease_keeps]

theorem openDesk_keeps (d : Fin 16) (s : State) : Keeps slgParts s (openDesk d s) := by simp [openDesk]

theorem closeDesk_keeps (d : Fin 16) (s : State) : Keeps slgParts s (closeDesk d s) := by
  unfold closeDesk
  dsimp only
  split <;> simp

theorem beatDesk_keeps (d : Fin 16) (s : State) : Keeps slgParts s (beatDesk d s) := by simp [beatDesk]

theorem doHoldExpiry_keeps (s : State) : Keeps slgParts s (doHoldExpiry s) := by
  unfold doHoldExpiry
  have hcount (i u) : Keeps slgParts u (countHold i u) := by
    unfold countHold
    split <;> simp
  simp [hcount]

theorem doTallyStale_keeps (s : State) : Keeps slgParts s (doTallyStale s) := by
  unfold doTallyStale
  simp

@[simp] theorem keeps_testDesk (d : Fin 16) : Keeps slgParts s (testDesk d t) ↔ Keeps slgParts s t := by
  simp [testDesk, silenceDesk]

theorem doDeskSilence_keeps (s : State) : Keeps slgParts s (doDeskSilence s) := by
  simp [doDeskSilence]

theorem applyStaleLimit_keeps (v : Nat) (s : State) : Keeps slgParts s (applyStaleLimit v s) := by
  simp [applyStaleLimit, testStale]

theorem applyFigureSetting_keeps (f : Slg → Slg) (s : State) : Keeps slgParts s (applyFigureSetting f s) := by
  simp [applyFigureSetting]

end Slg

section Ntc

variable {s t : State}

@[simp] theorem keeps_setNtcPanel (p : Fin 8) (f : NtcPanel → NtcPanel) : Keeps ntcParts s (setNtcPanel p f t) ↔ Keeps ntcParts s t := by
  simp [Machine.setNtcPanel]

@[simp] theorem keeps_setEntry (e : Fin 24) (n : Option Notice) : Keeps ntcParts s (setEntry e n t) ↔ Keeps ntcParts s t := by
  simp [Machine.setEntry]

@[simp] theorem keeps_pend (e : Fin 24) (p : Fin 8) : Keeps ntcParts s (pend e p t) ↔ Keeps ntcParts s t := keeps_setNtcPanel p _

@[simp] theorem keeps_showView (p : Fin 8) (v : View) (c : Tab 8 Nat) : Keeps ntcParts s (showView p v c t) ↔ Keeps ntcParts s t := by
  simp [Machine.showView]

@[simp] theorem keeps_saveView (p : Fin 8) : Keeps ntcParts s (saveView p t) ↔ Keeps ntcParts s t := by
  unfold Machine.saveView
  split
  · simp
  · split <;> simp

@[simp] theorem keeps_takeEntry (e : Fin 24) (p : Fin 8) : Keeps ntcParts s (takeEntry e p t) ↔ Keeps ntcParts s t := by
  simp [Machine.takeEntry]

@[simp] theorem keeps_takeLoop (k : Nat) (p : Fin 8) : Keeps ntcParts s (takeLoop k p t) ↔ Keeps ntcParts s t := by
  induction k generalizing t with
  | zero => rfl
  | succ k ih =>
    unfold takeLoop
    split
    · rw [ih, keeps_takeEntry]
    · rfl

@[simp] theorem keeps_evalTakes (p : Fin 8) : Keeps ntcParts s (evalTakes p t) ↔ Keeps ntcParts s t := by
  simp [Machine.evalTakes]

@[simp] theorem keeps_evalSet (m : BitVec 8) : Keeps ntcParts s (evalSet m t) ↔ Keeps ntcParts s t :=
  keeps_foldl (by simp) _

@[simp] theorem keeps_forcedLoop (k : Nat) (p : Fin 8) : Keeps ntcParts s (forcedLoop k p t) ↔ Keeps ntcParts s t := by
  induction k generalizing t with
  | zero => rfl
  | succ k ih =>
    unfold forcedLoop
    split
    · simp [ih, forcedStep]
    · rfl

@[simp] theorem keeps_retireFrom (e : Fin 24) (p : Fin 8) : Keeps ntcParts s (retireFrom e p t) ↔ Keeps ntcParts s t := by
  have hleave (u) : Keeps ntcParts s (leavePanel e p u) ↔ Keeps ntcParts s u := by
    unfold leavePanel
    split <;> simp
  have hpop (u) : Keeps ntcParts s (popView p u) ↔ Keeps ntcParts s u := by
    unfold popView
    split <;> simp
  simp [retireFrom, hleave, hpop]

@[simp] theorem keeps_freeNotice (e : Fin 24) : Keeps ntcParts s (freeNotice e t) ↔ Keeps ntcParts s t := by
  unfold freeNotice
  split
  · rfl
  · dsimp only
    split <;> simp

@[simp] theorem keeps_retireAll (e : Fin 24) : Keeps ntcParts s (retireAll e t) ↔ Keeps ntcParts s t := by
  simp [retireAll]

@[simp] theorem keeps_retireEach (l : List (Fin 24)) : Keeps ntcParts s (retireEach l t) ↔ Keeps ntcParts s t := by
  simp [retireEach]

@[simp] theorem keeps_pendEach (e : Fin 24) (m : BitVec 8) : Keeps ntcParts s (pendEach e m t) ↔ Keeps ntcParts s t :=
  keeps_foldl (by simp) _

@[simp] theorem keeps_addEntry (e : Fin 24) (n : Notice) : Keeps ntcParts s (addEntry e n t) ↔ Keeps ntcParts s t := by
  simp [Machine.addEntry]

@[simp] theorem keeps_rePanel (e : Fin 24) (a b : BitVec 8) (m : Bool) (p : Fin 8) : Keeps ntcParts s (rePanel e a b m p t) ↔ Keeps ntcParts s t := by
  simp [Machine.rePanel, movePending]

theorem reRaise_keeps (e : Fin 24) (a b : Notice) (s : State) : Keeps ntcParts s (reRaise e a b s) := by
  simp [reRaise]

theorem takeRaise_keeps (f : RaiseFields) (s : State) : Keeps ntcParts s (takeRaise f s) := by
  unfold takeRaise
  split
  · simp
  · split <;> simp [newRaise, reRaise_keeps]

@[simp] theorem keeps_reportRaise (r : AutoRaise) (e : Option (Fin 24)) : Keeps ntcParts s (reportRaise r e t) ↔ Keeps ntcParts s t := by
  simp [Machine.reportRaise]

@[simp] theorem keeps_takeAutoRaise (r : AutoRaise) : Keeps ntcParts s (takeAutoRaise r t) ↔ Keeps ntcParts s t := by
  unfold Machine.takeAutoRaise
  split <;> simp

theorem doAutoRaise_keeps (x : RaiseSender) (s : State) : Keeps ntcParts s (doAutoRaise x s) := by
  cases x with
  | sch => unfold doAutoRaise autoRaiseSch; dsimp only; split <;> simp
  | slg => unfold doAutoRaise autoRaiseSlg; dsimp only; split <;> simp

theorem takeWithdraw_keeps (n : Nat) (s : State) : Keeps ntcParts s (takeWithdraw n s) := by
  unfold takeWithdraw
  split <;> simp

theorem takeForce_keeps (n p : Nat) (s : State) : Keeps ntcParts s (takeForce n p s) := by
  unfold takeForce
  split
  · split <;> simp [applyForce]
  · simp

theorem setLobby_keeps (b : Bool) (s : State) : Keeps ntcParts s (setLobby b s) := by simp [setLobby]

theorem panelSet_keeps (item p : Nat) (f : Option (NtcPanel → NtcPanel)) (s : State) : Keeps ntcParts s (panelSet item p f s) := by
  unfold panelSet
  split
  · simp
  · split <;> simp

theorem applyNoticeLayout_keeps (k v : Nat) (s : State) : Keeps ntcParts s (applyNoticeLayout k v s) := by
  unfold applyNoticeLayout
  split
  · simp
  · split <;> simp [storeMap]

theorem doNoticeExpiry_keeps (s : State) : Keeps ntcParts s (doNoticeExpiry s) := by simp [doNoticeExpiry, takePulseNtc]

theorem doSaleEnd_keeps (s : State) : Keeps ntcParts s (doSaleEnd s) := by
  unfold doSaleEnd
  split <;> simp

theorem doPresenceReportNtc_keeps (p : Fin 8) (s : State) : Keeps ntcParts s (doPresenceReportNtc p s) := by
  unfold doPresenceReportNtc
  split <;> simp [takePresenceNtc]

theorem resetNtc_keeps (all : Bool) (s : State) : Keeps ntcParts s (resetNtc all s) := by
  simp [resetNtc]

end Ntc

end Sys2Proof.Machine
end

section
/-! PROOFS. What each block's operations may write: the CMP, the TST, the Blit Channels, the ports, the TIF and the queries. -/

namespace Sys2Proof.Machine

/-- What the CMP writes with marks, stored tables and purges. -/
abbrev cmpParts : List Part := [.cmp, .links]

/-- What a view change writes: a cancel goes to a channel. -/
abbrev viewParts : List Part := [.cmp, .cmpBlc, .links]

/-- What job issue writes: jobs go to a channel, and a lookup writes the Tile Store. -/
abbrev issueParts : List Part := [.cmp, .tst, .cmpBlc, .links]

/-- What the TST writes. -/
abbrev tstParts : List Part := [.tst, .links]

/-- What the Blit Channels write. -/
abbrev blcParts : List Part := [.blc, .links]

/-- What the Blit Channels write where the unit in writing is concerned. -/
abbrev unitParts : List Part := [.blc, .unit, .links]

/-- What the ports write. -/
abbrev pnlParts : List Part := [.ports, .links]

section Cmp

variable {w : List Part} {s t : State}

@[simp] theorem keeps_setCmpPanel (h0 : .cmp ∈ w) (p : Fin 8) (f : CmpPanel → CmpPanel) : Keeps w s (setCmpPanel p f t) ↔ Keeps w s t := by
  simp [setCmpPanel, h0]

@[simp] theorem keeps_markOn (h0 : .cmp ∈ w) (p : Fin 8) (pick : Nat → Pane → Bool) : Keeps w s (markOn p pick t) ↔ Keeps w s t := by
  simp [markOn, h0]

@[simp] theorem keeps_markAll (h0 : .cmp ∈ w) (pick : Fin 8 → Nat → Pane → Bool) : Keeps w s (markAll pick t) ↔ Keeps w s t := by
  simp [markAll, h0]

@[simp] theorem keeps_applyView (h0 : .cmp ∈ w) (h1 : .links ∈ w) (h2 : .cmpBlc ∈ w) (v : ViewChange) : Keeps w s (applyView v t) ↔ Keeps w s t := by simp [applyView, h0, h1, h2]

@[simp] theorem keeps_repaintAt (h0 : .cmp ∈ w) (h1 : .links ∈ w) (h2 : .cmpBlc ∈ w) (p : Fin 8) (c : Tab 8 Nat) : Keeps w s (repaintAt p c t) ↔ Keeps w s t := by
  simp [repaintAt, h0, h1, h2]

@[simp] theorem keeps_repaint (h0 : .cmp ∈ w) (h1 : .links ∈ w) (h2 : .cmpBlc ∈ w) (p : Fin 8) : Keeps w s (repaint p t) ↔ Keeps w s t := by simp [repaint, h0, h1, h2]

@[simp] theorem keeps_purgeAll (h0 : .links ∈ w) : Keeps w s (purgeAll t) ↔ Keeps w s t := by simp [purgeAll, h0]

@[simp] theorem keeps_issue (h0 : .cmp ∈ w) (h1 : .links ∈ w) (h2 : .cmpBlc ∈ w) (p : Fin 8) (j : Job) (f : CmpPanel → CmpPanel) : Keeps w s (issue p j f t) ↔ Keeps w s t := by
  simp [issue, h0, h1, h2]

@[simp] theorem keeps_issueRow (p i : Fin 8) (x : Pane) : Keeps issueParts s (issueRow p i x t) ↔ Keeps issueParts s t := by
  unfold issueRow
  dsimp only
  split
  · simp
  · simp only [lookupTile]
    split <;> rename_i h <;> obtain ⟨rfl, -⟩ := Prod.mk.inj h <;> simp

@[simp] theorem keeps_issueOne (p : Fin 8) : Keeps issueParts s (issueOne p t) ↔ Keeps issueParts s t := by
  have hnext : Keeps issueParts s (issueNext p t) ↔ Keeps issueParts s t := by
    unfold issueNext
    dsimp only
    split_ifs
    · simp
    · simp
    · split
      · simp
      · split <;> simp
  simp [issueOne, hnext]

theorem doViewChange_keeps (s : State) : Keeps viewParts s (doViewChange s) := by
  unfold doViewChange
  split <;> simp

theorem doNoticeContentChange_keeps (s : State) : Keeps cmpParts s (doNoticeContentChange s) := by
  unfold doNoticeContentChange
  split <;> simp

theorem doRosterChange_keeps (s : State) : Keeps cmpParts s (doRosterChange s) := by
  unfold doRosterChange
  split <;> simp [takeRosterChange, correctFilter]

theorem doDeskChange_keeps (s : State) : Keeps cmpParts s (doDeskChange s) := by
  unfold doDeskChange
  split <;> simp

theorem doMinuteBoundary_keeps (s : State) : Keeps cmpParts s (doMinuteBoundary s) := by simp [doMinuteBoundary]

theorem doPurgeReport_keeps (s : State) : Keeps cmpParts s (doPurgeReport s) := by
  unfold doPurgeReport
  split <;> simp

theorem doPageAdvance_keeps (s : State) : Keeps cmpParts s (doPageAdvance s) := by simp [doPageAdvance, advancePages]

theorem issueOne_keeps (p : Fin 8) (s : State) : Keeps issueParts s (issueOne p s) := by simp

@[simp] theorem keeps_withReports (hw : .links ∈ w) (n : Fin 4) (l : List FromChannel) : Keeps w s (t.withReports n l) ↔ Keeps w s t := by
  simp [State.withReports, hw]

theorem doJobCompletedReport_keeps (n : Fin 4) (s : State) : Keeps cmpParts s (doJobCompletedReport n s) := by
  unfold doJobCompletedReport
  split <;> simp [takeReport]

theorem doJobDiscardedReport_keeps (n : Fin 4) (s : State) : Keeps cmpParts s (doJobDiscardedReport n s) := by
  unfold doJobDiscardedReport
  split <;> simp [takeReport]

theorem doJobAbandonedReport_keeps (n : Fin 4) (s : State) : Keeps cmpParts s (doJobAbandonedReport n s) := by
  unfold doJobAbandonedReport
  split <;> simp [takeReport]

theorem doJobClearedReport_keeps (n : Fin 4) (s : State) : Keeps viewParts s (doJobClearedReport n s) := by
  unfold doJobClearedReport
  split <;> simp [takeReport]

theorem doQueueRoomReport_keeps (n : Fin 4) (s : State) : Keeps cmpParts s (doQueueRoomReport n s) := by
  unfold doQueueRoomReport
  split <;> simp [endStalls]

theorem doUnpinReport_keeps (s : State) : Keeps issueParts s (doUnpinReport s) := by
  unfold doUnpinReport
  split <;> simp [resumeIssue]

@[simp] theorem keeps_withPortReports (hw : .links ∈ w) (p : Fin 8) (l : List FromPort) : Keeps w s (t.withPortReports p l) ↔ Keeps w s t := by
  simp [State.withPortReports, hw]

theorem doPresenceReportCmp_keeps (p : Fin 8) (s : State) : Keeps viewParts s (doPresenceReportCmp p s) := by
  unfold doPresenceReportCmp
  split <;> simp [takePresence]

theorem doGeometryReport_keeps (p : Fin 8) (s : State) : Keeps viewParts s (doGeometryReport p s) := by
  unfold doGeometryReport
  split <;> simp

theorem doGridClearedReport_keeps (p : Fin 8) (s : State) : Keeps viewParts s (doGridClearedReport p s) := by
  unfold doGridClearedReport
  split <;> simp

@[simp] theorem keeps_takeSwap (p : Fin 8) : Keeps issueParts s (takeSwap p t) ↔ Keeps issueParts s t := by simp [takeSwap]

theorem applyLayout_keeps (i : Nat) (b : TableBody) (s : State) : Keeps viewParts s (applyLayout i b s) := by
  unfold applyLayout
  split
  · split
    · simp
    · split <;> simp [storeLayout]
  · simp

theorem applyFilter_keeps (i : Nat) (b : TableBody) (s : State) : Keeps cmpParts s (applyFilter i b s) := by
  unfold applyFilter
  split
  · split
    · simp
    · split <;> simp [storeFilter]
  · simp

theorem applyStyle_keeps (i : Nat) (b : TableBody) (s : State) : Keeps cmpParts s (applyStyle i b s) := by
  unfold applyStyle
  split
  · split
    · simp
    · split <;> simp [storeStyle]
  · simp

theorem applyPhrase_keeps (i : Nat) (b : TableBody) (s : State) : Keeps cmpParts s (applyPhrase i b s) := by
  unfold applyPhrase
  split
  · split
    · simp
    · split_ifs <;> simp [storePhrase]
  · simp

theorem applyTemplate_keeps (i : Nat) (b : TableBody) (s : State) : Keeps cmpParts s (applyTemplate i b s) := by
  unfold applyTemplate
  split
  · split
    · simp
    · split <;> simp [storeTemplate]
  · simp

theorem applyClassMap_keeps (i : Nat) (b : TableBody) (s : State) : Keeps cmpParts s (applyClassMap i b s) := by
  unfold applyClassMap
  split
  · split
    · simp
    · split <;> simp
  · simp

theorem applyClockFormat_keeps (v : Nat) (s : State) : Keeps cmpParts s (applyClockFormat v s) := by
  unfold applyClockFormat
  split <;> simp

theorem applyBaseLayout_keeps (p v : Nat) (s : State) : Keeps viewParts s (applyBaseLayout p v s) := by
  unfold applyBaseLayout
  split
  · simp
  · split <;> simp [storeBaseLayout]

theorem resetCmp_keeps (all : Bool) (s : State) : Keeps viewParts s (resetCmp all s) := by simp [resetCmp]

end Cmp

section Tst

variable {s t : State}

theorem doUnpin_keeps (n : Fin 4) (s : State) : Keeps tstParts s (doUnpin n s) := by
  unfold doUnpin
  split
  · simp
  · simp only [takeUnpin]
    split_ifs <;> simp

theorem doPurge_keeps (x : PurgeSender) (s : State) : Keeps tstParts s (doPurge x s) := by
  unfold doPurge
  split
  · simp
  · cases x <;> simp [takePurge, Links.withPurges]

end Tst

section Blc

variable {s t : State}

@[simp] theorem keeps_setChan {w : List Part} (hw : .blc ∈ w) (n : Fin 4) (f : Channel → Channel) :
    Keeps w s (setChan n f t) ↔ Keeps w s t := by
  simp [setChan, hw]

@[simp] theorem keeps_reportJob (n : Fin 4) (x : FromChannel) (j : Job) : Keeps blcParts s (reportJob n x j t) ↔ Keeps blcParts s t := by
  unfold reportJob unpinJob
  split <;> simp

@[simp] theorem keeps_chooseLoop (k : Nat) (n : Fin 4) : Keeps blcParts s (chooseLoop k n t) ↔ Keeps blcParts s t := by
  induction k generalizing t with
  | zero => rfl
  | succ k ih =>
    unfold chooseLoop
    split
    · simp
    · simp
    · dsimp only [leaveQueue, startHead, discardHead]
      split_ifs <;> simp [ih]

@[simp] theorem keeps_choose (n : Fin 4) : Keeps blcParts s (choose n t) ↔ Keeps blcParts s t := by simp [choose]

@[simp] theorem keeps_yieldNow (n : Fin 4) : Keeps blcParts s (yieldNow n t) ↔ Keeps blcParts s t := by simp [yieldNow]

@[simp] theorem keeps_takeArrival (n : Fin 4) (j : Job) : Keeps blcParts s (takeArrival n j t) ↔ Keeps blcParts s t := by
  unfold takeArrival
  dsimp only
  split <;> simp [enqueue]

@[simp] theorem keeps_cancelQueue (n : Fin 4) (l : Lane) (p : Fin 8) : Keeps blcParts s (cancelQueue n l p t) ↔ Keeps blcParts s t := by
  simp [cancelQueue]

@[simp] theorem keeps_abandon (n : Fin 4) (j : Job) : Keeps blcParts s (abandon n j t) ↔ Keeps blcParts s t := by simp [abandon]

@[simp] theorem keeps_cancelJobs (n : Fin 4) (p : Fin 8) : Keeps blcParts s (cancelJobs n p t) ↔ Keeps blcParts s t := by
  have haside (u) : Keeps blcParts s (cancelAside n p u) ↔ Keeps blcParts s u := by
    unfold cancelAside
    split <;> simp
  have hcurrent (u) : Keeps blcParts s (cancelCurrent n p u) ↔ Keeps blcParts s u := by
    unfold cancelCurrent
    split
    · split_ifs <;> simp
    · rfl
  simp [cancelJobs, haside, hcurrent]

@[simp] theorem keeps_afterCancel (n : Fin 4) : Keeps blcParts s (afterCancel n t) ↔ Keeps blcParts s t := by
  unfold afterCancel
  dsimp only
  split_ifs <;> simp

theorem doJobArrival_keeps (n : Fin 4) (s : State) : Keeps [.blc, .cmpBlc, .links] s (doJobArrival n s) := by
  have harrival (j : Job) (u : State) : Keeps blcParts u (takeArrival n j u) := by simp
  unfold doJobArrival
  split <;> simp [State.withRequests, keeps_iff ((harrival _ _).mono (w := [.blc, .cmpBlc, .links]) (by simp))]

theorem doJobCancel_keeps (n : Fin 4) (s : State) : Keeps [.blc, .cmpBlc, .links] s (doJobCancel n s) := by
  have hcancel (p : Fin 8) (u : State) : Keeps blcParts u (afterCancel n (cancelJobs n p u)) := by simp
  unfold doJobCancel
  split <;> simp [State.withRequests, keeps_iff ((hcancel _ _).mono (w := [.blc, .cmpBlc, .links]) (by simp))]

theorem doEntryFreeNotice_keeps (s : State) : Keeps unitParts s (doEntryFreeNotice s) := by
  unfold doEntryFreeNotice
  split <;> simp

theorem doUnitGrant_keeps (s : State) : Keeps unitParts s (doUnitGrant s) := by
  unfold doUnitGrant
  split
  · split
    · unfold grantUnit
      dsimp only
      split <;> simp [beginUnit, failUnit]
    · simp
  · simp

@[simp] theorem keeps_stopStep (n : Fin 4) : Keeps blcParts s (stopStep n t) ↔ Keeps blcParts s t := by simp [stopStep]

@[simp] theorem keeps_boundary (n : Fin 4) (p : Fin 8) : Keeps blcParts s (boundary n p t) ↔ Keeps blcParts s t := by
  have hcomplete (u) : Keeps blcParts s (completeStep n u) ↔ Keeps blcParts s u := by
    unfold completeStep
    split <;> simp
  have hcancel (u) : Keeps blcParts s (cancelStep n p u) ↔ Keeps blcParts s u := by
    unfold cancelStep
    dsimp only
    split <;> simp
  have hnext (u) : Keeps blcParts s (nextStep n u) ↔ Keeps blcParts s u := by
    unfold nextStep
    dsimp only
    split
    · simp
    · split <;> simp
  simp [boundary, hcomplete, hcancel, hnext]

theorem doUnitWritten_keeps (s : State) : Keeps [.blc, .unit, .ports, .links] s (doUnitWritten s) := by
  have hboundary (n : Fin 4) (p : Fin 8) (f : Channel → Channel) (u : State) : Keeps blcParts u (boundary n p (setChan n f u)) := by
    simp
  unfold doUnitWritten
  split
  · simp
  · simp [writeUnit, keeps_iff ((hboundary _ _ _ _).mono (w := [.blc, .unit, .ports, .links]) (by simp))]

@[simp] theorem keeps_resumeChannel (n : Fin 4) : Keeps blcParts s (resumeChannel n t) ↔ Keeps blcParts s t := by
  unfold resumeChannel
  split
  · split <;> simp
  · rfl

theorem takeRun_keeps (v : Nat) (s : State) : Keeps blcParts s (takeRun v s) := by
  unfold takeRun
  split
  · unfold applyRun
    split_ifs <;> simp
  · simp

theorem takeArbitration_keeps (v : Nat) (s : State) : Keeps blcParts s (takeArbitration v s) := by
  unfold takeArbitration
  split <;> simp

theorem takeChannelClear_keeps (k : Nat) (s : State) : Keeps blcParts s (takeChannelClear k s) := by
  have hleave (n : Fin 4) (u : State) : Keeps blcParts s (leaveFault n u) ↔ Keeps blcParts s u := by simp [leaveFault]
  unfold takeChannelClear
  split
  · unfold clearChannel
    split
    · split <;> simp [hleave, endFaulted]
    · simp
  · simp

end Blc

section Pnl

variable {s t : State}

@[simp] theorem keeps_setPort {w : List Part} (hw : .ports ∈ w) (p : Fin 8) (f : Port → Port) :
    Keeps w s (setPort p f t) ↔ Keeps w s t := by
  simp [setPort, hw]

@[simp] theorem keeps_reportMode {w : List Part} (hw : .links ∈ w) (p : Fin 8) (m : Mode) :
    Keeps w s (reportMode p m t) ↔ Keeps w s t := by
  simp [reportMode, hw]

theorem doPresenceFall_keeps (p : Fin 8) (s : State) : Keeps pnlParts s (doPresenceFall p s) := by
  unfold doPresenceFall
  dsimp only
  split
  · split <;> simp [loseP]
  · simp

theorem doPanelBack_keeps (p : Fin 8) (s : State) : Keeps pnlParts s (doPanelBack p s) := by
  have hjudge (u : State) : Keeps pnlParts s (judgePresence p u) ↔ Keeps pnlParts s u := by
    simp only [judgePresence, becomeLive]
    split_ifs <;> simp
  simp [doPanelBack, State.withPulses, hjudge]

theorem disablePort_keeps (p : Fin 8) (s : State) : Keeps pnlParts s (disablePort p s) := by
  unfold disablePort
  split <;> simp

theorem enablePort_keeps (p : Fin 8) (s : State) : Keeps pnlParts s (enablePort p s) := by simp [enablePort]

theorem portSet_keeps {f : Option (Fin 8 → State → State)} (hf : ∀ g ∈ f, ∀ p u, Keeps pnlParts u (g p u)) (item p : Nat) (s : State) :
    Keeps pnlParts s (portSet item p f s) := by
  unfold portSet
  split
  · simp
  · split
    · simp
    · exact hf _ rfl _ _

theorem enableAction_keeps (v : Nat) : ∀ g ∈ enableAction v, ∀ p u, Keeps pnlParts u (g p u) := by
  intro g hg p u
  obtain ⟨b, -, rfl⟩ := Option.map_eq_some_iff.mp hg
  cases b
  · exact disablePort_keeps p u
  · exact enablePort_keeps p u

theorem geometryAction_keeps (v : Nat) : ∀ g ∈ geometryAction v, ∀ p u, Keeps pnlParts u (g p u) := by
  intro g hg p u
  unfold geometryAction at hg
  dsimp only at hg
  split at hg
  · cases hg
    simp
  · cases hg

theorem rateAction_keeps (v : Nat) : ∀ g ∈ rateAction v, ∀ p u, Keeps pnlParts u (g p u) := by
  intro g hg p u
  unfold rateAction at hg
  split at hg
  · cases hg
    simp
  · cases hg

/-- A frame start writes what the ports and, at a swap, the CMP write. -/
abbrev frameParts : List Part := [.ports, .cmp, .tst, .cmpBlc, .links]

theorem doFrameStart_keeps (p : Fin 8) (s : State) : Keeps frameParts s (doFrameStart p s) := by
  have hswap (u v : State) : Keeps frameParts u (takeSwap p v) ↔ Keeps frameParts u v :=
    keeps_iff (Keeps.mono (v := issueParts) (by simp) (by simp))
  have hpending (u : State) : Keeps frameParts u (takePending p u) := by simp [takePending]
  simp [doFrameStart, swapGrids, hswap, hpending]

theorem doLinkPhaseIdle_keeps (p : Fin 8) (s : State) : Keeps pnlParts s (doLinkPhaseIdle p s) := by simp [doLinkPhaseIdle]

theorem doPicture_keeps (s : State) : Keeps [.ports, .tif, .links] s (doPicture s) := by
  unfold doPicture
  split
  · simp
  · unfold routePicture
    split
    · simp only [offerSegment]
      split_ifs <;> simp [flagPictureDrop]
    · simp

theorem doOpenWindowsReport_keeps (p : Fin 8) (s : State) : Keeps pnlParts s (doOpenWindowsReport p s) := by
  unfold doOpenWindowsReport
  split <;> simp [State.withPortRequests]

theorem doGridClearedAnswer_keeps (p : Fin 8) (s : State) : Keeps pnlParts s (doGridClearedAnswer p s) := by
  unfold doGridClearedAnswer
  split <;> simp [State.withPortRequests]

theorem resetPnl_keeps (all : Bool) (s : State) : Keeps pnlParts s (resetPnl all s) := by simp [resetPnl, reportCleared]

end Pnl

section Tif

variable {s t : State}

/-- What a bare change of the TIF writes that leaves its FIFO, its RESET in delivery and its event queue alone. -/
theorem onTif_keeps {f : Tif → Tif}
    (hf : ∀ t, (f t).fifo = t.fifo ∧ (f t).resetting = t.resetting ∧ (f t).events = t.events ∧ (f t).dropped = t.dropped) (s : State) :
    Keeps [.tif] s (onTif f s) := by
  obtain ⟨hq, hr, he, hd⟩ := hf s.tif
  rw [keeps_onTif (by simp) (.inl hq) (.inl hr) (.inl ⟨he, hd⟩)]
  exact Keeps.refl _ _

theorem enumerate_frame (t : Tif) : (enumerate t).fifo = t.fifo ∧ (enumerate t).resetting = t.resetting
    ∧ (enumerate t).events = t.events ∧ (enumerate t).dropped = t.dropped := by
  unfold enumerate
  split
  · exact ⟨rfl, rfl, rfl, rfl⟩
  · dsimp only
    split_ifs <;> exact ⟨rfl, rfl, rfl, rfl⟩

theorem forward_frame (d : Nat) (b : List Byte) (t : Tif) : (forward d b t).fifo = t.fifo ∧ (forward d b t).resetting = t.resetting
    ∧ (forward d b t).events = t.events ∧ (forward d b t).dropped = t.dropped := by
  unfold forward
  split <;> exact ⟨rfl, rfl, rfl, rfl⟩

/-- What is received joins the FIFO, if anything, and leaves it within its bound. -/
theorem receive_frame (clock : Nat) (frame : TrunkFrame) (t : Tif) :
    ((receive clock frame t).fifo = t.fifo ∨ ∃ x, t.fifo.length < 4 ∧ (receive clock frame t).fifo = t.fifo ++ [x])
    ∧ (receive clock frame t).resetting = t.resetting ∧ (receive clock frame t).events = t.events
    ∧ (receive clock frame t).dropped = t.dropped := by
  have hgood (k d : Nat) (p b : List Byte) (t : Tif) :
      ((goodPacket clock k d p b t).fifo = t.fifo ∨ ∃ x, t.fifo.length < 4 ∧ (goodPacket clock k d p b t).fifo = t.fifo ++ [x])
      ∧ (goodPacket clock k d p b t).resetting = t.resetting ∧ (goodPacket clock k d p b t).events = t.events
      ∧ (goodPacket clock k d p b t).dropped = t.dropped := by
    obtain ⟨hf, hrest⟩ := forward_frame d b t
    unfold goodPacket
    split
    · split
      · exact ⟨.inl rfl, rfl, rfl, rfl⟩
      · unfold keepTaken
        split
        · exact ⟨.inl hf, hrest⟩
        · unfold joinFifo
          split
          · next p _ hl =>
            have hl : (forward d b t).fifo.length < 4 := hl
            rw [hf] at hl
            exact ⟨.inr ⟨⟨p, clock⟩, hl, congrArg (· ++ [_]) hf⟩, hrest⟩
          · exact ⟨.inl hf, hrest⟩
        · exact ⟨.inl hf, hrest⟩
        · exact ⟨.inl hf, hrest⟩
    · exact ⟨.inl hf, hrest⟩
  unfold receive
  dsimp only
  split
  · split
    · exact ⟨.inl rfl, rfl, rfl, rfl⟩
    · exact ⟨.inl rfl, rfl, rfl, rfl⟩
    · exact hgood ..
  · exact ⟨.inl rfl, rfl, rfl, rfl⟩

theorem doPacketReceive_keeps (frame : TrunkFrame) (s : State) : Keeps [.fifo, .tif] s (doPacketReceive frame s) := by
  obtain ⟨-, hr, he, hd⟩ := receive_frame s.lck.clock frame (enumerate s.tif)
  obtain ⟨-, hr', he', hd'⟩ := enumerate_frame s.tif
  rw [doPacketReceive, keeps_onTif (by simp) (by simp) (.inl (hr.trans hr')) (.inl ⟨he.trans he', hd.trans hd'⟩)]
  exact Keeps.refl _ _

theorem doEventOffer_keeps (b : Block) (s : State) : Keeps [.events, .tif, .links] s (doEventOffer b s) := by
  unfold doEventOffer
  split
  · simp
  · simp only [onTif, offerEvent, flagReportDrop]
    split_ifs <;> simp

theorem receivePass_frame (b : List Byte) (t : Tif) : (receivePass b t).fifo = t.fifo ∧ (receivePass b t).resetting = t.resetting
    ∧ (receivePass b t).events = t.events ∧ (receivePass b t).dropped = t.dropped := by
  unfold receivePass
  split <;> exact ⟨rfl, rfl, rfl, rfl⟩

/-- A grant of the return lane takes an event out of its queue, if anything. -/
theorem grantLane_frame (t : Tif) : (grantLane t).fifo = t.fifo ∧ (grantLane t).resetting = t.resetting
    ∧ ((grantLane t).events = t.events ∨ ∃ e, t.events = e :: (grantLane t).events) ∧ (grantLane t).dropped = t.dropped := by
  unfold grantLane grantOwn grantPass
  split_ifs
  · split
    · exact ⟨rfl, rfl, .inl rfl, rfl⟩
    · split
      · next e rest h => exact ⟨rfl, rfl, .inr ⟨e, h⟩, rfl⟩
      · exact ⟨rfl, rfl, .inl rfl, rfl⟩
  all_goals exact ⟨rfl, rfl, .inl rfl, rfl⟩

theorem returnLaneGrant_keeps (s : State) : Keeps [.events, .tif] s (onTif grantLane s) := by
  obtain ⟨hf, hr, -, -⟩ := grantLane_frame s.tif
  rw [keeps_onTif (by simp) (.inl hf) (.inl hr) (by simp)]
  exact Keeps.refl _ _

/-- What a QUERY and its answer write. -/
abbrev queryParts : List Part := [.tif, .links]

theorem takeQuery_keeps (item : Nat) (key : List Byte) (s : State) : Keeps queryParts s (takeQuery item key s) := by
  unfold takeQuery
  split <;> simp

theorem refuseUnknown_keeps (item : Nat) (s : State) : Keeps queryParts s (refuseUnknown item s) := by
  unfold refuseUnknown
  split <;> simp

theorem doQueryReadAnswer_keeps (s : State) : Keeps queryParts s (doQueryReadAnswer s) := by
  have htake (r : Read) (a : Answer) (u : State) : Keeps queryParts u (takeAnswer r a u) := by
    unfold takeAnswer
    dsimp only
    split
    · simp
    · split <;> simp
  unfold doQueryReadAnswer
  split <;> simp [htake]

end Tif

end Sys2Proof.Machine
end

section
/-! PROOFS. What every command may write, and that every command goes on. A command that the FIFO delivers first takes its packet out of
the FIFO (`Consumes`); what it does then writes the parts that `writes` names. -/

namespace Sys2Proof.Machine

/-! ## Delivery -/

/-- `t` is `s`, or `s` without the packet at the head of its FIFO, which is no RESET of a known type. -/
def Consumes (s t : State) : Prop :=
  t = s ∨ ∃ x rest, s.tif.fifo = x :: rest ∧ x.packet ≠ .reset 1 ∧ x.packet ≠ .reset 2 ∧ t = s.withFifo rest

/-- A command has run: perhaps with a packet taken out of the FIFO, it has written no parts but those of `w`. -/
def Runs (w : List Part) (s t : State) : Prop := ∃ u, Consumes s u ∧ Keeps w u t

theorem Keeps.runs {w : List Part} {s t : State} (h : Keeps w s t) : Runs w s t := ⟨s, .inl rfl, h⟩

/-- What a command that consumes a packet keeps. -/
theorem Consumes.keeps {s t : State} (h : Consumes s t) : Keeps [.fifo] s t := by
  obtain rfl | ⟨x, rest, -, -, -, rfl⟩ := h <;> simp

theorem Runs.keeps {w : List Part} {s t : State} (h : Runs w s t) : Keeps (.fifo :: w) s t := by
  obtain ⟨u, hc, hk⟩ := h
  exact (hc.keeps.mono (by simp)).trans (hk.mono (by simp))

/-- No packet that an owner picks is a RESET of a known type. -/
def SparesResets {α : Type} (pick : Packet → Option α) : Prop := pick (.reset 1) = none ∧ pick (.reset 2) = none

theorem deliver_runs {w : List Part} {b : Block} {pick : Packet → Option (Nat → State → State)} (hs : SparesResets pick)
    (hp : ∀ p act, pick p = some act → ∀ c u, Keeps w u (act c u)) (s : State) : Runs w s (deliver b pick s) := by
  unfold deliver
  split
  · exact (Keeps.refl w s).runs
  · rename_i x rest hx
    split
    · exact (Keeps.refl w s).runs
    · rename_i act hact
      split
      · refine ⟨s.withFifo rest, .inr ⟨x, rest, hx, fun e => ?_, fun e => ?_, rfl⟩, hp _ _ hact _ _⟩
        · simp [e, hs.1] at hact
        · simp [e, hs.2] at hact
      · exact (Keeps.refl w s).runs

theorem deliverTif_runs {w : List Part} {pick : Packet → Option (State → State)} (hs : SparesResets pick)
    (hp : ∀ p act, pick p = some act → ∀ u, Keeps w u (act u)) (s : State) : Runs w s (deliverTif pick s) := by
  unfold deliverTif
  split
  · exact (Keeps.refl w s).runs
  · rename_i x rest hx
    split
    · exact (Keeps.refl w s).runs
    · rename_i act hact
      split
      · refine ⟨s.withFifo rest, .inr ⟨x, rest, hx, fun e => ?_, fun e => ?_, rfl⟩, hp _ _ hact _⟩
        · simp [e, hs.1] at hact
        · simp [e, hs.2] at hact
      · exact (Keeps.refl w s).runs

theorem deliver_set_runs {w : List Part} {b : Block} {item : Nat} {act : Nat → Nat → State → State}
    (h : ∀ k v u, Keeps w u (act k v u)) (s : State) : Runs w s (deliver b (pickSet item act) s) := by
  refine deliver_runs ⟨rfl, rfl⟩ (fun p f hf c u => ?_) s
  unfold pickSet at hf
  split at hf
  · split at hf
    · cases hf
      exact h _ _ _
    · cases hf
  · cases hf

theorem deliver_table_runs {w : List Part} {b : Block} {item : Nat} {act : Nat → TableBody → State → State}
    (h : ∀ k v u, Keeps w u (act k v u)) (s : State) : Runs w s (deliver b (pickTable item act) s) := by
  refine deliver_runs ⟨rfl, rfl⟩ (fun p f hf c u => ?_) s
  unfold pickTable at hf
  split at hf
  · split at hf
    · split at hf
      · cases hf
        exact h _ _ _
      · cases hf
    · cases hf
  · cases hf

theorem deliver_desk_runs {op : Nat} {act : Fin 16 → State → State} (h : ∀ d u, Keeps slgParts u (act d u)) (s : State) :
    Runs slgParts s (deliver .slg (pickDesk op act) s) := by
  refine deliver_runs ⟨rfl, rfl⟩ (fun p f hf c u => ?_) s
  unfold pickDesk at hf
  split at hf
  · split at hf
    · rename_i dk _ _
      cases hf
      cases asFin 16 dk with
      | some d => exact h d u
      | none => simp
    · cases hf
  · cases hf

theorem deliver_lobby_runs {ok : Nat → Bool} {act : State → State} (h : ∀ u, Keeps ntcParts u (act u)) (s : State) :
    Runs ntcParts s (deliver .ntc (pickLobby ok act) s) := by
  refine deliver_runs ⟨rfl, rfl⟩ (fun p f hf c u => ?_) s
  unfold pickLobby at hf
  split at hf
  · split at hf
    · cases hf
      exact h _
    · cases hf
  · cases hf

theorem query_runs (item : Nat) (s : State) : Runs queryParts s (deliverTif (pickQuery item) s) := by
  refine deliverTif_runs ⟨rfl, rfl⟩ (fun p f hf u => ?_) s
  unfold pickQuery at hf
  split at hf
  · split at hf
    · cases hf
      exact takeQuery_keeps _ _ _
    · cases hf
  · cases hf

/-! ## Every command -/

/-- What a block's own handling of a RESET writes. -/
def resetWrites : Block → List Part
  | .tif => []
  | .lck => [.lck]
  | .sch => [.sch]
  | .slg => [.slg]
  | .ntc => ntcParts
  | .cmp => viewParts
  | .tst => [.tst]
  | .blc => [.blc]
  | .pnl => pnlParts

/-- What a command may write, besides the packet that it takes out of the FIFO. -/
def writes : Instr → List Part
  | .secondsPulse | .clockHold | .time => lckParts
  | .openAt | .windowAt | .minuteAt | .boardAt | .startAt | .endAt | .reapAt | .listing | .cancel | .remove | .raiseReport
  | .autoFreeReport | .filterLoadReport | .setListLead | .setCountdownWindow | .setBoardLead | .setLateWindow | .tableTitle => schParts
  | .listingTally | .stateChange => [.slg, .schSlg, .links]
  | .tally | .tallyStale | .hold | .release | .holdExpiry | .deskOpen | .deskClose | .deskBeat | .deskSilence | .deskBadOperation
  | .setHoldPeriod | .setSilenceLimit | .setStaleLimit | .setExactLimit | .setStep | .setPlentyLimit | .setFastPct
  | .setSoldoutLifetime => slgParts
  | .raise | .autoRaise _ | .withdraw | .force | .lobbyOpen | .lobbyClosed | .lobbyBadMode | .noticeExpiry | .saleEnd
  | .presenceReportNtc _ | .setEnableMask | .setClosedMask | .setNoticeHold | .setNoticeLayout => ntcParts
  | .minuteBoundary | .noticeContentChange | .rosterChange | .deskChange | .pageAdvance | .purgeReport | .jobCompletedReport _
  | .jobDiscardedReport _ | .jobAbandonedReport _ | .queueRoomReport _ | .setClockFormat | .tableFilter | .tableStyle | .tablePhrase
  | .tableTemplate | .tableClassMap => cmpParts
  | .presenceReportCmp _ | .viewChange | .jobClearedReport _ | .geometryReport _ | .gridClearedReport _ | .setBaseLayout
  | .tableLayout => viewParts
  | .jobIssue _ | .unpinReport => issueParts
  | .purge _ | .unpin _ => tstParts
  | .jobArrival _ | .jobCancel _ => [.blc, .cmpBlc, .links]
  | .unitWritten => [.blc, .unit, .ports, .links]
  | .entryFreeNotice | .unitGrant => unitParts
  | .setArbitration | .setChannelsRun | .setChannelClear => blcParts
  | .openWindowsReport _ | .linkPhaseIdle _ | .presenceFall _ | .presenceRise _ | .panelBack _ | .gridClearedAnswer _
  | .setPanelEnable | .setPanelGeometry | .setPanelRate => pnlParts
  | .frameStart _ => frameParts
  | .picture => [.ports, .tif, .links]
  | .packetReceive _ => [.fifo, .tif]
  | .enumerate | .passBufferReceive _ | .returnReadyChange _ | .reportSent => [.tif]
  | .returnLaneGrant | .setLinkClear => [.events, .tif]
  | .eventOffer _ => [.events, .tif, .links]
  | .setUnknownItem | .tableUnknownItem | .badResetType => [.links]
  | .queryIdent | .queryLink | .queryClock | .querySetting | .queryShowing | .queryTitle | .queryRoster | .queryLedger | .queryHold
  | .queryDesk | .queryNotice | .queryPanelNotices | .queryNoticeMap | .queryLayout | .queryFilter | .queryBaseLayout | .queryStyle
  | .queryPhrase | .queryTemplate | .queryClassMap | .queryPanelBuild | .queryTile | .queryTileStore | .queryChannels | .queryChannel
  | .queryPanel | .queryUnknownItem | .queryReadAnswer => queryParts
  | .resetAll | .resetOps => [.resetting, .events, .tif, .links, .taken]
  | .resetTake b => [.fifo, .resetting, .taken] ++ resetWrites b
  | .pinReset =>
    [.lck, .sch, .slg, .ntc, .cmp, .tst, .blc, .unit, .ports, .fifo, .resetting, .events, .tif, .schSlg, .cmpBlc, .links, .taken, .inReset]
  | .resetNRises => [.inReset]

theorem running_runs {w : List Part} {s : State} {f : State → State} (h : Runs w s (f s)) :
    ∃ t, running s f = .next t ∧ Runs w s t := by
  cases hr : s.inReset with
  | false => exact ⟨f s, running_next f hr, h⟩
  | true => exact ⟨s, running_inReset f hr, (Keeps.refl w s).runs⟩

theorem onReset_fifo (all : Bool) (t : Tif) : (Tif.onReset all t).fifo = t.fifo := by cases all <;> rfl

theorem beginReset_keeps (all : Bool) (s : State) : Keeps [.resetting, .events, .tif, .links, .taken] s (beginReset all s) := by
  rw [beginReset, countReset, keeps_withTaken (by simp), keeps_onTif (by simp) (.inl (onReset_fifo all _)) (by simp) (by simp)]
  simp

theorem resetTaken_keeps (b : Block) (r : Resetting) (s : State) : Keeps [.fifo, .resetting] s (onTif (Tif.resetTaken b r) s) := by
  refine ⟨fun p hp => ?_⟩
  unfold onTif Tif.resetTaken
  dsimp only
  split <;> cases p <;> simp_all [Part.same]

theorem resetBlock_keeps (b : Block) (all : Bool) (s : State) : Keeps (resetWrites b) s (resetBlock b all s) := by
  cases b with
  | ntc => exact resetNtc_keeps all s
  | cmp => exact resetCmp_keeps all s
  | pnl => exact resetPnl_keeps all s
  | blc => cases all <;> simp [resetBlock, resetWrites, Blc.onReset]
  | _ => simp [resetBlock, resetWrites]

theorem doResetTake_keeps (b : Block) (s : State) : Keeps ([.fifo, .resetting, .taken] ++ resetWrites b) s (doResetTake b s) := by
  have hblock : Keeps ([.fifo, .resetting, .taken] ++ resetWrites b) s (countReset b s) := by simp [countReset]
  unfold doResetTake
  split
  · simp
  · split
    · exact (hblock.trans ((resetBlock_keeps b _ _).mono (List.subset_append_right _ _))).trans
        ((resetTaken_keeps b _ _).mono (by simp))
    · simp

theorem pickHold_keeps (p : Packet) (act : Nat → State → State) (h : pickHold p = some act) (c : Nat) (u : State) :
    Keeps slgParts u (act c u) := by
  unfold pickHold at h
  split at h <;> cases h
  exact takeHold_keeps ..

theorem pickRelease_keeps (p : Packet) (act : Nat → State → State) (h : pickRelease p = some act) (c : Nat) (u : State) :
    Keeps slgParts u (act c u) := by
  unfold pickRelease at h
  split at h <;> cases h
  exact takeRelease_keeps ..

theorem pickTally_keeps (p : Packet) (act : Nat → State → State) (h : pickTally p = some act) (c : Nat) (u : State) :
    Keeps slgParts u (act c u) := by
  unfold pickTally at h
  split at h <;> cases h
  exact takeTally_keeps ..

theorem pickBadOperation_keeps (p : Packet) (act : Nat → State → State) (h : pickBadOperation p = some act) (c : Nat) (u : State) :
    Keeps slgParts u (act c u) := by
  unfold pickBadOperation at h
  split at h
  · split at h <;> cases h
    simp
  · cases h

theorem pickTime_keeps (p : Packet) (act : Nat → State → State) (h : pickTime p = some act) (c : Nat) (u : State) :
    Keeps lckParts u (act c u) := by
  unfold pickTime at h
  split at h <;> cases h
  exact setTime_keeps ..

theorem pickListing_keeps (p : Packet) (act : Nat → State → State) (h : pickListing p = some act) (c : Nat) (u : State) :
    Keeps schParts u (act c u) := by
  unfold pickListing at h
  split at h <;> cases h
  exact applyListing_keeps ..

theorem pickCancel_keeps (p : Packet) (act : Nat → State → State) (h : pickCancel p = some act) (c : Nat) (u : State) :
    Keeps schParts u (act c u) := by
  unfold pickCancel at h
  split at h <;> cases h
  exact applyCancel_keeps ..

theorem pickRemove_keeps (p : Packet) (act : Nat → State → State) (h : pickRemove p = some act) (c : Nat) (u : State) :
    Keeps schParts u (act c u) := by
  unfold pickRemove at h
  split at h <;> cases h
  exact applyRemove_keeps ..

theorem pickRaise_keeps (p : Packet) (act : Nat → State → State) (h : pickRaise p = some act) (c : Nat) (u : State) :
    Keeps ntcParts u (act c u) := by
  unfold pickRaise at h
  split at h <;> cases h
  exact takeRaise_keeps ..

theorem pickWithdraw_keeps (p : Packet) (act : Nat → State → State) (h : pickWithdraw p = some act) (c : Nat) (u : State) :
    Keeps ntcParts u (act c u) := by
  unfold pickWithdraw at h
  split at h <;> cases h
  exact takeWithdraw_keeps ..

theorem pickForce_keeps (p : Packet) (act : Nat → State → State) (h : pickForce p = some act) (c : Nat) (u : State) :
    Keeps ntcParts u (act c u) := by
  unfold pickForce at h
  split at h <;> cases h
  exact takeForce_keeps ..

theorem pickUnknownSet_keeps (p : Packet) (act : State → State) (h : pickUnknownSet p = some act) (u : State) :
    Keeps [.links] u (act u) := by
  unfold pickUnknownSet at h
  split at h
  · split at h <;> cases h
    simp
  · cases h

theorem pickUnknownTable_keeps (p : Packet) (act : State → State) (h : pickUnknownTable p = some act) (u : State) :
    Keeps [.links] u (act u) := by
  unfold pickUnknownTable at h
  split at h
  · split at h <;> cases h
    simp
  · cases h

theorem pickBadReset_keeps (p : Packet) (act : State → State) (h : pickBadReset p = some act) (u : State) :
    Keeps [.links] u (act u) := by
  unfold pickBadReset at h
  split at h
  · split at h <;> cases h
    simp
  · cases h

theorem pickLinkClear_keeps (p : Packet) (act : State → State) (h : pickLinkClear p = some act) (u : State) :
    Keeps [.events, .tif] u (act u) := by
  unfold pickLinkClear at h
  split at h
  · split at h <;> cases h
    simp [clearLink]
  · cases h

theorem pickUnknownQuery_keeps (p : Packet) (act : State → State) (h : pickUnknownQuery p = some act) (u : State) :
    Keeps queryParts u (act u) := by
  unfold pickUnknownQuery at h
  split at h
  · split at h <;> cases h
    exact refuseUnknown_keeps ..
  · cases h

/-- Every command goes on, having written what `writes` names. -/
theorem exec_runs (c : Instr) (s : State) : ∃ t, exec c s = .next t ∧ Runs (writes c) s t := by
  cases c with
  | secondsPulse => exact running_runs (doSecondsPulse_keeps s).runs
  | clockHold => exact running_runs (doClockHold_keeps s).runs
  | time => exact running_runs (deliver_runs ⟨rfl, rfl⟩ pickTime_keeps s)
  | openAt => exact running_runs (fireHead_keeps openEffect_keeps _ _ s).runs
  | windowAt => exact running_runs (fireHead_keeps countdownEffect_keeps _ _ s).runs
  | minuteAt => exact running_runs (fireHead_keeps countdownEffect_keeps _ _ s).runs
  | boardAt => exact running_runs (fireHead_keeps boardEffect_keeps _ _ s).runs
  | startAt => exact running_runs (fireHead_keeps startEffect_keeps _ _ s).runs
  | endAt => exact running_runs (fireHead_keeps endEffect_keeps _ _ s).runs
  | reapAt => exact running_runs (fireHead_keeps reapEffect_keeps _ _ s).runs
  | listing => exact running_runs (deliver_runs ⟨rfl, rfl⟩ pickListing_keeps s)
  | cancel => exact running_runs (deliver_runs ⟨rfl, rfl⟩ pickCancel_keeps s)
  | remove => exact running_runs (deliver_runs ⟨rfl, rfl⟩ pickRemove_keeps s)
  | raiseReport => exact running_runs (doRaiseReport_keeps s).runs
  | autoFreeReport => exact running_runs (doAutoFreeReport_keeps s).runs
  | filterLoadReport => exact running_runs (doFilterLoadReport_keeps s).runs
  | setListLead | setCountdownWindow | setBoardLead | setLateWindow =>
    exact running_runs (deliver_set_runs (fun _ _ u => applySchSetting_keeps _ u) s)
  | tableTitle => exact running_runs (deliver_table_runs applyTitle_keeps s)
  | listingTally => exact running_runs (doListingTally_keeps s).runs
  | stateChange => exact running_runs (doStateChange_keeps s).runs
  | tally => exact running_runs (deliver_runs ⟨rfl, rfl⟩ pickTally_keeps s)
  | tallyStale => exact running_runs (doTallyStale_keeps s).runs
  | hold => exact running_runs (deliver_runs ⟨rfl, rfl⟩ pickHold_keeps s)
  | release => exact running_runs (deliver_runs ⟨rfl, rfl⟩ pickRelease_keeps s)
  | holdExpiry => exact running_runs (doHoldExpiry_keeps s).runs
  | deskOpen => exact running_runs (deliver_desk_runs openDesk_keeps s)
  | deskClose => exact running_runs (deliver_desk_runs closeDesk_keeps s)
  | deskBeat => exact running_runs (deliver_desk_runs beatDesk_keeps s)
  | deskSilence => exact running_runs (doDeskSilence_keeps s).runs
  | deskBadOperation => exact running_runs (deliver_runs ⟨rfl, rfl⟩ pickBadOperation_keeps s)
  | setHoldPeriod | setSilenceLimit | setSoldoutLifetime => exact running_runs (deliver_set_runs (fun _ _ u => by simp [writes]) s)
  | setStaleLimit => exact running_runs (deliver_set_runs (fun _ v u => applyStaleLimit_keeps v u) s)
  | setExactLimit | setPlentyLimit | setFastPct =>
    exact running_runs (deliver_set_runs (fun _ _ u => applyFigureSetting_keeps _ u) s)
  | setStep =>
    refine running_runs (deliver_set_runs (fun _ v u => ?_) s)
    unfold applyStep
    split
    · exact applyFigureSetting_keeps _ u
    · simp [writes]
  | raise => exact running_runs (deliver_runs ⟨rfl, rfl⟩ pickRaise_keeps s)
  | autoRaise x => exact running_runs (doAutoRaise_keeps x s).runs
  | withdraw => exact running_runs (deliver_runs ⟨rfl, rfl⟩ pickWithdraw_keeps s)
  | force => exact running_runs (deliver_runs ⟨rfl, rfl⟩ pickForce_keeps s)
  | lobbyOpen | lobbyClosed => exact running_runs (deliver_lobby_runs (setLobby_keeps _) s)
  | lobbyBadMode => exact running_runs (deliver_lobby_runs (fun u => by simp [ntcParts]) s)
  | noticeExpiry => exact running_runs (doNoticeExpiry_keeps s).runs
  | saleEnd => exact running_runs (doSaleEnd_keeps s).runs
  | presenceReportNtc p => exact running_runs (doPresenceReportNtc_keeps p s).runs
  | setEnableMask | setClosedMask | setNoticeHold =>
    exact running_runs (deliver_set_runs (fun _ _ u => panelSet_keeps _ _ _ u) s)
  | setNoticeLayout => exact running_runs (deliver_set_runs applyNoticeLayout_keeps s)
  | minuteBoundary => exact running_runs (doMinuteBoundary_keeps s).runs
  | presenceReportCmp p => exact running_runs (doPresenceReportCmp_keeps p s).runs
  | viewChange => exact running_runs (doViewChange_keeps s).runs
  | noticeContentChange => exact running_runs (doNoticeContentChange_keeps s).runs
  | rosterChange => exact running_runs (doRosterChange_keeps s).runs
  | deskChange => exact running_runs (doDeskChange_keeps s).runs
  | pageAdvance => exact running_runs (doPageAdvance_keeps s).runs
  | jobIssue p => exact running_runs (issueOne_keeps p s).runs
  | purgeReport => exact running_runs (doPurgeReport_keeps s).runs
  | unpinReport => exact running_runs (doUnpinReport_keeps s).runs
  | jobCompletedReport n => exact running_runs (doJobCompletedReport_keeps n s).runs
  | jobDiscardedReport n => exact running_runs (doJobDiscardedReport_keeps n s).runs
  | jobAbandonedReport n => exact running_runs (doJobAbandonedReport_keeps n s).runs
  | jobClearedReport n => exact running_runs (doJobClearedReport_keeps n s).runs
  | queueRoomReport n => exact running_runs (doQueueRoomReport_keeps n s).runs
  | geometryReport p => exact running_runs (doGeometryReport_keeps p s).runs
  | gridClearedReport p => exact running_runs (doGridClearedReport_keeps p s).runs
  | setClockFormat => exact running_runs (deliver_set_runs (fun _ v u => applyClockFormat_keeps v u) s)
  | setBaseLayout => exact running_runs (deliver_set_runs applyBaseLayout_keeps s)
  | tableLayout => exact running_runs (deliver_table_runs applyLayout_keeps s)
  | tableFilter => exact running_runs (deliver_table_runs applyFilter_keeps s)
  | tableStyle => exact running_runs (deliver_table_runs applyStyle_keeps s)
  | tablePhrase => exact running_runs (deliver_table_runs applyPhrase_keeps s)
  | tableTemplate => exact running_runs (deliver_table_runs applyTemplate_keeps s)
  | tableClassMap => exact running_runs (deliver_table_runs applyClassMap_keeps s)
  | purge x => exact running_runs (doPurge_keeps x s).runs
  | unpin n => exact running_runs (doUnpin_keeps n s).runs
  | jobArrival n => exact running_runs (doJobArrival_keeps n s).runs
  | jobCancel n => exact running_runs (doJobCancel_keeps n s).runs
  | unitWritten => exact running_runs (doUnitWritten_keeps s).runs
  | entryFreeNotice => exact running_runs (doEntryFreeNotice_keeps s).runs
  | unitGrant => exact running_runs (doUnitGrant_keeps s).runs
  | setArbitration => exact running_runs (deliver_set_runs (fun _ v u => takeArbitration_keeps v u) s)
  | setChannelsRun => exact running_runs (deliver_set_runs (fun _ v u => takeRun_keeps v u) s)
  | setChannelClear => exact running_runs (deliver_set_runs (fun k _ u => takeChannelClear_keeps k u) s)
  | openWindowsReport p => exact running_runs (doOpenWindowsReport_keeps p s).runs
  | linkPhaseIdle p => exact ⟨_, rfl, (doLinkPhaseIdle_keeps p s).runs⟩
  | presenceFall p =>
    cases h : s.inReset with
    | false => exact ⟨_, if_neg (by simp [h]), (doPresenceFall_keeps p s).runs⟩
    | true => exact ⟨_, if_pos h, Keeps.runs (by simp [writes])⟩
  | presenceRise p => exact ⟨_, rfl, Keeps.runs (by simp [writes])⟩
  | panelBack p => exact running_runs (doPanelBack_keeps p s).runs
  | gridClearedAnswer p => exact running_runs (doGridClearedAnswer_keeps p s).runs
  | setPanelEnable => exact running_runs (deliver_set_runs (fun _ v u => portSet_keeps (enableAction_keeps v) _ _ u) s)
  | setPanelGeometry => exact running_runs (deliver_set_runs (fun _ v u => portSet_keeps (geometryAction_keeps v) _ _ u) s)
  | setPanelRate => exact running_runs (deliver_set_runs (fun _ v u => portSet_keeps (rateAction_keeps v) _ _ u) s)
  | frameStart p => exact ⟨_, rfl, (doFrameStart_keeps p s).runs⟩
  | picture => exact running_runs (doPicture_keeps s).runs
  | packetReceive f => exact running_runs (doPacketReceive_keeps f s).runs
  | enumerate => exact running_runs (onTif_keeps enumerate_frame s).runs
  | passBufferReceive b => exact running_runs (onTif_keeps (receivePass_frame b) s).runs
  | returnReadyChange _ | reportSent => exact running_runs (Keeps.runs (by simp [writes]))
  | returnLaneGrant => exact running_runs (returnLaneGrant_keeps s).runs
  | setLinkClear => exact running_runs (deliverTif_runs ⟨rfl, rfl⟩ pickLinkClear_keeps s)
  | eventOffer b => exact running_runs (doEventOffer_keeps b s).runs
  | setUnknownItem => exact running_runs (deliverTif_runs ⟨rfl, rfl⟩ pickUnknownSet_keeps s)
  | tableUnknownItem => exact running_runs (deliverTif_runs ⟨rfl, rfl⟩ pickUnknownTable_keeps s)
  | badResetType => exact running_runs (deliverTif_runs ⟨rfl, rfl⟩ pickBadReset_keeps s)
  | queryUnknownItem => exact running_runs (deliverTif_runs ⟨rfl, rfl⟩ pickUnknownQuery_keeps s)
  | queryReadAnswer => exact running_runs (doQueryReadAnswer_keeps s).runs
  | resetAll | resetOps =>
    refine running_runs (Keeps.runs ?_)
    split
    · exact beginReset_keeps _ s
    · simp [writes]
  | resetTake b =>
    exact running_runs (doResetTake_keeps b s).runs
  | pinReset => exact ⟨_, rfl, Keeps.runs ⟨fun p hp => by cases p <;> first | exact absurd hp (by decide) | rfl⟩⟩
  | resetNRises => exact ⟨_, rfl, Keeps.runs (by simp [writes])⟩
  | _ => exact running_runs (query_runs _ s)

/-- What a command leaves, by the parts that it writes. -/
theorem exec_keeps {c : Instr} {s t : State} (h : exec c s = .next t) : Keeps (.fifo :: writes c) s t := by
  obtain ⟨u, hu, hk⟩ := exec_runs c s
  cases hu.symm.trans h
  exact hk.keeps

/-- Settles O2: by `exec_runs`, and no command writes the queue of commands. -/
theorem everyCommandGoesOn : Obligations.EveryCommandGoesOn := by
  unfold Obligations.EveryCommandGoesOn
  intro c s
  obtain ⟨t, ht, -⟩ := exec_runs c s
  refine ⟨t, ht, (exec_keeps ht).pending ?_⟩
  cases c with
  | resetTake b => cases b <;> decide
  | _ => exact of_decide_eq_true rfl

/-- Settles O1: a step is its command, and an empty queue leaves the machine as it is. -/
theorem stepTakesTheFront : Obligations.StepTakesTheFront := by
  unfold Obligations.StepTakesTheFront
  constructor
  · intro c rest s h
    simp only [step, h]
    rfl
  · intro s h
    simp only [step, h]

end Sys2Proof.Machine
end

section
/-! PROOFS. Invariants: one that rests on some parts only is kept by every command that does not write them; a step keeps what every
command keeps. -/

namespace Sys2Proof.Machine

/-- What is said of a machine is said of its parts in `d` alone. -/
def RestsOn (d : List Part) (I : State → Prop) : Prop := ∀ s t : State, (∀ p ∈ d, p.same s t) → I s → I t

section Invariants

variable {d w : List Part} {I : State → Prop} {s t : State}

/-- A command that writes none of these parts keeps the invariant. -/
theorem RestsOn.keeps (h : RestsOn d I) (hk : Keeps w s t) (hd : ∀ p ∈ d, p ∉ w) (hs : I s) : I t :=
  h s t (fun p hp => hk.same p (hd p hp)) hs

theorem RestsOn.exec {c : Instr} (h : RestsOn d I) (hc : exec c s = .next t) (hd : ∀ p ∈ d, p ∉ .fifo :: writes c) (hs : I s) : I t :=
  h.keeps (exec_keeps hc) hd hs

/-- A step keeps what every command keeps. -/
theorem step_of_exec (h : RestsOn d I) (hd : .pending ∉ d) (he : ∀ c s t, I s → Machine.exec c s = .next t → I t) (s t : State)
    (hs : I s) (hst : step s = .next t) : I t := by
  unfold step at hst
  split at hst
  · cases hst
    exact hs
  · rename_i c rest _
    refine he c _ t (h s (s.withPending rest) (fun p hp => ?_) hs) hst
    cases p <;> first | rfl | exact absurd hp hd

/-- What a block's step leaves is the machine as it was, or what the block's own operation leaves. -/
theorem running_preserves {f : State → State} (hf : s.inReset = false → I s → I (f s)) (hs : I s) (h : running s f = .next t) : I t := by
  unfold running at h
  split at h
  · cases h
    exact hs
  · rename_i hr
    cases h
    exact hf (by simpa using hr) hs

theorem deliver_preserves {b : Block} {pick : Packet → Option (Nat → State → State)} (hs : I s)
    (hfifo : ∀ x rest, s.tif.fifo = x :: rest → I (s.withFifo rest))
    (hpick : ∀ p act, pick p = some act → ∀ c u, I u → I (act c u)) : I (deliver b pick s) := by
  unfold deliver
  split
  · exact hs
  · rename_i x rest hx
    split
    · exact hs
    · rename_i act hact
      split
      · exact hpick _ _ hact _ _ (hfifo x rest hx)
      · exact hs

theorem deliver_set_preserves {b : Block} {item : Nat} {act : Nat → Nat → State → State} (hs : I s)
    (hfifo : ∀ x rest, s.tif.fifo = x :: rest → I (s.withFifo rest)) (hact : ∀ k v u, I u → I (act k v u)) :
    I (deliver b (pickSet item act) s) := by
  refine deliver_preserves hs hfifo (fun p f hf c u hu => ?_)
  unfold pickSet at hf
  split at hf
  · split at hf <;> cases hf
    exact hact _ _ _ hu
  · cases hf

theorem deliver_table_preserves {b : Block} {item : Nat} {act : Nat → TableBody → State → State} (hs : I s)
    (hfifo : ∀ x rest, s.tif.fifo = x :: rest → I (s.withFifo rest)) (hact : ∀ k v u, I u → I (act k v u)) :
    I (deliver b (pickTable item act) s) := by
  refine deliver_preserves hs hfifo (fun p f hf c u hu => ?_)
  unfold pickTable at hf
  split at hf
  · split at hf
    · split at hf <;> cases hf
      exact hact _ _ _ hu
    · cases hf
  · cases hf

theorem foldl_preserves {α : Type} {f : State → α → State} (l : List α) (hf : ∀ a ∈ l, ∀ u, I u → I (f u a)) (hs : I s) :
    I (l.foldl f s) := by
  induction l generalizing s with
  | nil => exact hs
  | cons a l ih => exact ih (fun b hb => hf b (List.mem_cons_of_mem _ hb)) (hf a List.mem_cons_self s hs)

end Invariants

end Sys2Proof.Machine
end

section
/-! PROOFS. Tile slots and the use list (R119, R120): `SlotsOk` is `TilesOk` said of the two tables, and each operation of the store keeps it. -/

namespace Sys2Proof.Machine

/-- Slots and use list agree (tied to `TilesOk` by `tilesOk_iff`). -/
structure SlotsOk (slots : Tab 96 Tile) (l : List (Fin 96)) : Prop where
  tile : ∀ i, TileOk (slots.get i)
  nodup : l.Nodup
  mem : ∀ i, i ∈ l ↔ (slots.get i).state = .valid
  key : ∀ i j, (slots.get i).state = .valid → (slots.get j).state = .valid → (slots.get i).key = (slots.get j).key → i = j

theorem tilesOk_iff (s : State) : TilesOk s ↔ SlotsOk s.tst.slots s.tst.useList :=
  ⟨fun ⟨h1, h2, h3, h4⟩ => ⟨h1, h2, h3, h4⟩, fun ⟨h1, h2, h3, h4⟩ => ⟨h1, h2, h3, h4⟩⟩

theorem mem_dropUse {i j : Fin 96} {l : List (Fin 96)} : j ∈ dropUse i l ↔ j ∈ l ∧ j ≠ i := by simp [dropUse]

section Tiles

variable {slots : Tab 96 Tile} {l : List (Fin 96)} {t : Tst} {i : Fin 96} {key : Fin 96 × Fin 4}

/-- A slot that becomes VALID, with a key that no other VALID slot holds, goes to the end of the use list. -/
theorem SlotsOk.use {x : Tile} (h : SlotsOk slots l) (hx : TileOk x) (hv : x.state = .valid)
    (hk : ∀ j, j ≠ i → (slots.get j).state = .valid → (slots.get j).key ≠ x.key) :
    SlotsOk (slots.set i x) (dropUse i l ++ [i]) where
  tile j := by
    rw [Tab.get_set]
    split
    · exact hx
    · exact h.tile j
  nodup := by
    refine List.Nodup.append (h.nodup.filter _) (List.nodup_singleton i) ?_
    simp [dropUse]
  mem j := by
    rw [List.mem_append, List.mem_singleton, mem_dropUse, h.mem, Tab.get_set]
    by_cases hj : i = j <;> simp [hj, hv, eq_comm]
  key j k := by
    rw [Tab.get_set, Tab.get_set]
    split <;> split <;> intro hj hk' he
    · simp_all
    · exact absurd he.symm (hk k (by simp_all [eq_comm]) hk')
    · exact absurd he (hk j (by simp_all [eq_comm]) hj)
    · exact h.key j k hj hk' he

/-- A slot that ceases to be VALID leaves the use list. -/
theorem SlotsOk.leave {x : Tile} (h : SlotsOk slots l) (hx : TileOk x) (hv : x.state ≠ .valid) :
    SlotsOk (slots.set i x) (dropUse i l) where
  tile j := by
    rw [Tab.get_set]
    split
    · exact hx
    · exact h.tile j
  nodup := h.nodup.filter _
  mem j := by
    rw [mem_dropUse, h.mem, Tab.get_set]
    by_cases hj : i = j <;> simp [hj, hv, eq_comm]
  key j k := by
    rw [Tab.get_set, Tab.get_set]
    split <;> split <;> intro hj hk' he
    · simp_all
    · exact absurd hj hv
    · exact absurd hk' hv
    · exact h.key j k hj hk' he

/-- A slot that keeps its state and its key keeps its place. -/
theorem SlotsOk.stay {x : Tile} (h : SlotsOk slots l) (hx : TileOk x) (hv : x.state = .valid ↔ (slots.get i).state = .valid)
    (hk : x.key = (slots.get i).key) : SlotsOk (slots.set i x) l where
  tile j := by
    rw [Tab.get_set]
    split
    · exact hx
    · exact h.tile j
  nodup := h.nodup
  mem j := by
    rw [h.mem, Tab.get_set]
    split
    · next e => rw [hv, e]
    · rfl
  key j k := by
    rw [Tab.get_set, Tab.get_set]
    split <;> split <;> intro hj hk' he
    · simp_all
    · next e _ => exact e ▸ h.key i k (hv.1 hj) hk' (hk ▸ he)
    · next _ e => exact e ▸ h.key j i hj (hv.1 hk') (hk ▸ he)
    · exact h.key j k hj hk' he

theorem validSlot_some (h : validSlot t key = some i) : (t.slots.get i).state = .valid ∧ (t.slots.get i).key = some key := by
  simpa using List.find?_some h

theorem validSlot_none (h : validSlot t key = none) (j : Fin 96) (hj : (t.slots.get j).state = .valid) :
    (t.slots.get j).key ≠ some key := by
  have := List.find?_eq_none.1 h j (List.mem_finRange j)
  simpa [hj] using this

theorem SlotsOk.hit (h : SlotsOk t.slots t.useList) (hi : validSlot t key = some i) (hp : (t.slots.get i).pins < 16) :
    SlotsOk (hitTile i t).slots (hitTile i t).useList := by
  obtain ⟨hv, hk⟩ := validSlot_some hi
  obtain ⟨_, hf, -, -⟩ := h.tile i
  refine h.use ⟨?_, hf, ?_, ?_⟩ hv fun j hj hjv e => hj (h.key j i hjv hv e)
  · exact hp
  · simp [hv]
  · simp [hv]

theorem SlotsOk.condemned (h : SlotsOk t.slots t.useList) (hi : 1 ≤ (t.slots.get i).pins) :
    SlotsOk (condemn i t).slots (condemn i t).useList := by
  obtain ⟨hp, hf, -, -⟩ := h.tile i
  exact h.leave ⟨hp, hf, by simp, fun _ => hi⟩ (by simp)

/-- With the full tile of the key condemned, no VALID slot holds the key. -/
theorem SlotsOk.condemnFull (h : SlotsOk t.slots t.useList) (hfull : ∀ i, validSlot t key = some i → 16 ≤ (t.slots.get i).pins) :
    SlotsOk (condemnFull t (validSlot t key)).slots (condemnFull t (validSlot t key)).useList
      ∧ ∀ j, ((condemnFull t (validSlot t key)).slots.get j).state = .valid →
          ((condemnFull t (validSlot t key)).slots.get j).key ≠ some key := by
  cases hi : validSlot t key with
  | none => exact ⟨h, validSlot_none hi⟩
  | some i =>
    obtain ⟨hv, hk⟩ := validSlot_some hi
    refine ⟨h.condemned (by have := hfull i hi; omega), fun j hj he => ?_⟩
    simp only [Machine.condemnFull, condemn, Tab.get_modify] at hj he
    split at hj
    · cases hj
    · next hij =>
      rw [if_neg hij] at he
      exact hij (h.key i j hv hj (hk.trans he.symm))

theorem missSlot_slots {u : Tst} (h : missSlot t = some (i, u)) : u.slots = t.slots ∧ u.useList = t.useList := by
  unfold missSlot at h
  split at h
  · cases h
    exact ⟨rfl, rfl⟩
  · obtain ⟨j, -, hj⟩ := Option.map_eq_some_iff.1 h
    cases hj
    exact ⟨rfl, rfl⟩

theorem validSlot_congr {u : Tst} (h : u.slots = t.slots) : validSlot u key = validSlot t key := by simp only [validSlot, h]

theorem SlotsOk.miss (h : SlotsOk t.slots t.useList) (cells : List Cell)
    (hfull : ∀ i, validSlot t key = some i → 16 ≤ (t.slots.get i).pins) :
    SlotsOk (missTile key cells t).1.slots (missTile key cells t).1.useList := by
  unfold missTile
  split
  · exact h
  · rename_i i u hu
    obtain ⟨hs, hl⟩ := missSlot_slots hu
    rw [← hs, ← hl] at h
    have hfull' : ∀ i, validSlot u key = some i → 16 ≤ (u.slots.get i).pins := by
      rw [validSlot_congr hs, hs]
      exact hfull
    obtain ⟨hc, hfree⟩ := h.condemnFull hfull'
    rw [← validSlot_congr hs]
    exact hc.use ⟨by simp, by simp only; omega, by simp, by simp⟩ rfl fun j _ hj => hfree j hj

/-- A lookup keeps the store well formed. -/
theorem SlotsOk.lookup (h : SlotsOk t.slots t.useList) (cells : List Cell) :
    SlotsOk (lookup key cells t).1.slots (lookup key cells t).1.useList := by
  unfold Machine.lookup
  split
  · rename_i i hi
    split
    · next hp => exact h.hit hi hp
    · next hp =>
      refine h.miss cells fun j hj => ?_
      cases hi.symm.trans hj
      exact Nat.le_of_not_lt hp
  · rename_i hn
    exact h.miss cells fun j hj => by simp [hn] at hj

theorem tileOk_freed {x : Tile} (h : TileOk x) : TileOk (freedTile x) := ⟨by simp [freedTile], h.2.1, by simp [freedTile], by simp [freedTile]⟩

/-- A tile with a pin less keeps its state and its key, but for a PURGING one that becomes FREE. -/
theorem SlotsOk.unpin (h : SlotsOk slots l) (hp : 0 < (slots.get i).pins) : SlotsOk (slots.set i (unpinned (slots.get i))) l := by
  obtain ⟨hpins, hfmt, hfree, hpurging⟩ := h.tile i
  have hused : (slots.get i).state ≠ .free := fun e => by
    obtain ⟨h0, -⟩ := hfree e
    omega
  unfold unpinned
  split
  · next hx =>
    have hout : dropUse i l = l := List.filter_eq_self.2 fun j hj => by
      have : j ≠ i := fun e => by simp [e, (h.mem i), hx.1] at hj
      simpa using this
    have := h.leave (i := i) (tileOk_freed (h.tile i)) (by simp [freedTile])
    rwa [hout] at this
  · next hx =>
    refine h.stay ⟨?_, hfmt, fun e => absurd e hused, fun e => ?_⟩ Iff.rfl rfl
    · simp only
      omega
    · have := hpurging e
      have : (slots.get i).pins ≠ 1 := fun hone => hx ⟨e, hone⟩
      show 1 ≤ (slots.get i).pins - 1
      omega

theorem purgedTile_of_valid {slot : Fin 96} {x : Tile} (h : (purgedTile slot x).state = .valid) : purgedTile slot x = x := by
  unfold purgedTile at h ⊢
  split
  · next hx =>
    rw [if_pos hx] at h
    split at h <;> cases h
  · rfl

theorem tileOk_purged {x : Tile} (h : TileOk x) (slot : Fin 96) : TileOk (purgedTile slot x) := by
  obtain ⟨hpins, hfmt, hfree, hpurging⟩ := h
  unfold purgedTile
  split
  · split
    · exact tileOk_freed ⟨hpins, hfmt, hfree, hpurging⟩
    · exact ⟨hpins, hfmt, by simp, fun _ => by simp only; omega⟩
  · exact ⟨hpins, hfmt, hfree, hpurging⟩

theorem SlotsOk.purge (h : SlotsOk t.slots t.useList) (slot : Fin 96) :
    SlotsOk (purgeTiles slot t).slots (purgeTiles slot t).useList where
  tile j := by
    simp only [purgeTiles, Tab.get_map]
    exact tileOk_purged (h.tile j) slot
  nodup := h.nodup.filter _
  mem j := by
    simp only [purgeTiles, List.mem_filter, Tab.get_map, beq_iff_eq, h.mem]
    exact ⟨And.right, fun hv => ⟨purgedTile_of_valid hv ▸ hv, hv⟩⟩
  key j k := by
    simp only [purgeTiles, Tab.get_map]
    intro hj hk he
    rw [purgedTile_of_valid hj, purgedTile_of_valid hk] at he
    rw [purgedTile_of_valid hj] at hj
    rw [purgedTile_of_valid hk] at hk
    exact h.key j k hj hk he

theorem SlotsOk.reset (h : SlotsOk t.slots t.useList) : SlotsOk t.onReset.slots t.onReset.useList where
  tile j := by
    simp only [Tst.onReset, Tab.get_map]
    exact tileOk_freed (h.tile j)
  nodup := List.nodup_nil
  mem j := by simp [Tst.onReset, freedTile, Tst.reset]
  key j k := by simp [Tst.onReset, freedTile]

end Tiles

theorem tilesOk_restsOn : RestsOn [.tst] TilesOk := fun s t h hs => by
  have htst : t.tst = s.tst := h .tst (by simp)
  unfold TilesOk
  rw [htst]
  exact hs

theorem tilesOk_reset : TilesOk State.reset := by
  rw [tilesOk_iff]
  exact ⟨fun i => by simp [State.reset, Tst.reset, TileOk], List.nodup_nil, fun i => by simp [State.reset, Tst.reset], fun i j => by
    simp [State.reset, Tst.reset]⟩

section Commands

variable {s : State}

theorem tilesOk_issueOne (p : Fin 8) (h : TilesOk s) : TilesOk (issueOne p s) := by
  have hkeeps {u v : State} (hk : Keeps viewParts u v) (hu : TilesOk u) : TilesOk v := tilesOk_restsOn.keeps hk (by decide) hu
  have hlookup (slot : Fin 96) (st : Fin 4) : TilesOk (lookupTile slot st s).1 := by
    rw [tilesOk_iff] at h ⊢
    exact h.lookup _
  have hrow (i : Fin 8) (x : Pane) : TilesOk (issueRow p i x s) := by
    unfold issueRow
    dsimp only
    split
    · exact hkeeps (by simp) h
    · rename_i slot st _
      have ht := hlookup slot st
      split <;> rename_i hl <;> rw [hl] at ht <;> exact hkeeps (by simp) ht
  unfold issueOne issueNext
  dsimp only
  split_ifs
  · exact hkeeps (by simp) h
  · exact hkeeps (by simp) h
  · split
    · exact hkeeps (by simp) h
    · split
      · exact hrow _ _
      · exact hkeeps (by simp) h
  · exact hkeeps (by simp) h
  · exact h

theorem tilesOk_frameStart (p : Fin 8) (h : TilesOk s) : TilesOk (doFrameStart p s) := by
  have hpnl {u v : State} (hk : Keeps [.ports, .cmp, .links] u v) (hu : TilesOk u) : TilesOk v :=
    tilesOk_restsOn.keeps hk (by decide) hu
  have hpending : TilesOk (takePending p s) := hpnl (by simp [takePending]) h
  unfold doFrameStart
  dsimp only
  split
  · have hsent : TilesOk (swapGrids p (takePending p s)) := tilesOk_issueOne p (hpnl (u := takePending p s) (by simp) hpending)
    exact hpnl (by simp) hsent
  · exact hpnl (by simp) hpending

theorem tilesOk_unpin (n : Fin 4) (h : TilesOk s) : TilesOk (doUnpin n s) := by
  unfold doUnpin
  split
  · exact h
  · simp only [takeUnpin, sendFromTst]
    rw [tilesOk_iff] at h
    split_ifs with hx
    · exact (tilesOk_iff _).2 (h.unpin hx.2)
    · exact (tilesOk_iff _).2 (h.unpin hx.2)
    · exact (tilesOk_iff _).2 h

theorem tilesOk_purge (x : PurgeSender) (h : TilesOk s) : TilesOk (doPurge x s) := by
  unfold doPurge
  split
  · exact h
  · dsimp only
    split
    · rw [tilesOk_iff] at h
      exact (tilesOk_iff _).2 (h.purge _)
    · exact h

theorem tilesOk_resetTake (b : Block) (h : TilesOk s) : TilesOk (doResetTake b s) := by
  cases b with
  | tst =>
    unfold doResetTake
    split
    · exact h
    · split
      · rw [tilesOk_iff] at h
        exact (tilesOk_iff _).2 h.reset
      · exact h
  | _ => exact tilesOk_restsOn.keeps (doResetTake_keeps _ s) (of_decide_eq_true rfl) h

end Commands

theorem tilesOk_exec (c : Instr) (s t : State) (h : TilesOk s) (hc : exec c s = .next t) : TilesOk t := by
  cases c with
  | jobIssue p => exact running_preserves (fun _ => tilesOk_issueOne p) h hc
  | unpinReport =>
    refine running_preserves (fun _ _ => ?_) h hc
    unfold doUnpinReport
    split
    · refine foldl_preserves _ (fun p _ u hu => ?_) (tilesOk_restsOn.keeps (w := [.links]) (by simp) (by decide) h)
      exact tilesOk_issueOne p (tilesOk_restsOn.keeps (w := [.cmp]) (by simp) (by decide) hu)
    · exact h
  | frameStart p =>
    cases hc
    exact tilesOk_frameStart p h
  | unpin n => exact running_preserves (fun _ => tilesOk_unpin n) h hc
  | purge x => exact running_preserves (fun _ => tilesOk_purge x) h hc
  | resetTake b => exact running_preserves (fun _ => tilesOk_resetTake b) h hc
  | pinReset =>
    cases hc
    exact tilesOk_reset
  | _ => exact tilesOk_restsOn.exec hc (of_decide_eq_true rfl) h

/-- Settles O12: every command keeps the tile slots and the use list. -/
theorem tilesStayOk : Obligations.TilesStayOk := by
  unfold Obligations.TilesStayOk
  exact step_of_exec tilesOk_restsOn (by decide) tilesOk_exec

end Sys2Proof.Machine
end

section
/-! PROOFS. What a command can do to a port, said once: `PortMove` lists the changes of a port, and `exec_ports` says that every command
leaves each port as some of them leave it. The invariants of the ports are then proved move by move. -/

namespace Sys2Proof.Machine

/-- One change of a port. `r` says that RESET_N is low, and `W` which runs of cells are written. -/
inductive PortMove (r : Bool) (W : List (Nat × Cell) → Prop) : Port → Port → Prop
  | lower (x : Port) (h : x.mode ≠ .live ∨ r = true) : PortMove r W x { x with level := false }
  | raise (x : Port) : PortMove r W x { x with level := true }
  | count (x : Port) (n : Nat) : PortMove r W x { x with presence := n }
  | fall (x : Port) (h : x.mode = .live) : PortMove r W x { x.drain.blankLink with mode := .waiting, level := false }
  | back (x : Port) (hr : r = false) (hm : x.mode = .waiting) (hl : x.level = true) : PortMove r W x { x with mode := .live, presence := 2 }
  | darken (x : Port) (h : x.mode = .dark) : PortMove r W x { x with enable := false }
  | disable (x : Port) (h : x.mode = .waiting) : PortMove r W x { x.silenceLink with enable := false, mode := .dark, presence := 0 }
  | disableLive (x : Port) : PortMove r W x { x.drain.silenceLink with enable := false, mode := .dark }
  | enable (x : Port) : PortMove r W x
      (if x.mode = .dark then { x with enable := true, mode := .waiting, presence := 0 } else { x with enable := true })
  | geometry (x : Port) (columns rows : Nat) (hc : columns ≤ 64) (hr : rows ≤ 36) :
      PortMove r W x { x with geometryPending := some (columns, rows) }
  | rate (x : Port) (v : Nat) : PortMove r W x { x with ratePending := some v }
  | pending (x : Port) : PortMove r W x x.applyPending
  | swap (x : Port) (h : x.mode = .live) : PortMove r W x { x with activeOne := !x.activeOne, mute := false }
  | begin (x : Port) : PortMove r W x x.beginFrame
  | idle (x : Port) : PortMove r W x x.linkIdle
  | gated (x : Port) : PortMove r W x x.countGated
  | buffered (x : Port) (g : Segment) (hg : gateFor x g.window = true) (hb : x.buffer.length < 2) : PortMove r W x (x.buffered g)
  | dropped (x : Port) (n : Nat) : PortMove r W x { x with dropped := n }
  | windows (x : Port) (w : BitVec 2) : PortMove r W x { x with windows := w }
  | unhold (x : Port) : PortMove r W x { x with swapHold := false }
  | written (x : Port) (cells : List (Nat × Cell)) (h : W cells) : PortMove r W x (x.withShadow (x.shadow.writeAll cells))
  | ops (x : Port) (c : Cell) : PortMove r W x (x.onOps c)
  | reset (x : Port) : PortMove r W x (Port.reset x.level)

/-- Every port of `t` is what some changes leave of the port of `s`. -/
def PortsMoved (r : Bool) (W : List (Nat × Cell) → Prop) (s t : State) : Prop :=
  ∀ p, Relation.ReflTransGen (PortMove r W) (s.ports.get p) (t.ports.get p)

section Moves

variable {r : Bool} {W : List (Nat × Cell) → Prop} {s t u : State}

theorem PortsMoved.refl (s : State) : PortsMoved r W s s := fun _ => .refl

theorem PortsMoved.trans (h : PortsMoved r W s t) (k : PortsMoved r W t u) : PortsMoved r W s u := fun p => (h p).trans (k p)

theorem PortsMoved.of_eq (h : t.ports = s.ports) : PortsMoved r W s t := fun p => by rw [h]

/-- A command that leaves the ports alone moves none of them. -/
theorem Keeps.portsMoved {w : List Part} (h : Keeps w s t) (hw : .ports ∉ w := by decide) : PortsMoved r W s t := .of_eq (h.ports hw)

theorem portsMoved_setPort {p : Fin 8} {f : Port → Port} (h : PortMove r W (s.ports.get p) (f (s.ports.get p))) :
    PortsMoved r W s (setPort p f s) := fun q => by
  simp only [setPort, State.withPorts_ports, Tab.get_modify]
  split
  · next e => exact e ▸ .single h
  · exact .refl

theorem portsMoved_reportMode {p : Fin 8} {m : Mode} : PortsMoved r W s (reportMode p m t) ↔ PortsMoved r W s t := Iff.rfl

theorem portsMoved_post {b : Block} {c : EventKind} {k : Nat} {l : List Nat} : PortsMoved r W s (post b c k l t) ↔ PortsMoved r W s t :=
  Iff.rfl

theorem portsMoved_withTif {x : Tif} : PortsMoved r W s (t.withTif x) ↔ PortsMoved r W s t := Iff.rfl

/-- A port changed, and then requests sent. -/
theorem PortsMoved.then (h : PortsMoved r W s t) {w : List Part} (hk : Keeps w t u) (hw : .ports ∉ w := by decide) :
    PortsMoved r W s u := h.trans (hk.portsMoved hw)

theorem presenceFall_moves (p : Fin 8) (s : State) : PortsMoved r W s (doPresenceFall p s) := by
  unfold doPresenceFall
  dsimp only
  split
  · split
    · next hm =>
      exact (portsMoved_setPort (.count _ 0)).trans (t := setPort p (fun x => { x with presence := 0 }) s) <| by
        have : setPort p (fun x => { x with level := false, presence := 0 }) s
            = setPort p (fun x => { x with level := false }) (setPort p (fun x => { x with presence := 0 }) s) := by
          simp [setPort, State.withPorts, Tab.modify_eq_set, Tab.set_set]
        rw [this]
        refine portsMoved_setPort (.lower _ (.inl ?_))
        have hm : (s.ports.get p).mode = .waiting := hm
        simp [setPort, hm]
    · next hm =>
      unfold loseP
      rw [portsMoved_reportMode, portsMoved_post]
      exact portsMoved_setPort (.fall _ hm)
    · next hm => exact portsMoved_setPort (.lower _ (.inl (by rw [show (s.ports.get p).mode = .dark from hm]; simp)))
  · exact .refl s

theorem panelBack_moves (p : Fin 8) (s : State) (hr : r = false) : PortsMoved r W s (doPanelBack p s) := by
  have hjudge (u : State) (hu : u.ports = s.ports) (hm : (portOf s p).mode = .waiting) : PortsMoved r W u (judgePresence p u) := by
    unfold judgePresence
    dsimp only
    split_ifs with hl
    · exact portsMoved_setPort (.count _ 0)
    · exact portsMoved_setPort (.count _ 1)
    · unfold becomeLive
      rw [portsMoved_reportMode, portsMoved_post]
      refine portsMoved_setPort (.back _ hr ?_ ?_)
      · rw [hu]; exact hm
      · simpa [portOf] using hl
  unfold doPanelBack
  dsimp only
  split
  · split
    · next hm => exact (Keeps.portsMoved (w := [.links]) (by simp [State.withPulses])).trans (hjudge _ rfl hm)
    · exact Keeps.portsMoved (w := [.links]) (by simp [State.withPulses])
  · exact .refl s

theorem disablePort_moves (p : Fin 8) (s : State) : PortsMoved r W s (disablePort p s) := by
  unfold disablePort
  split
  · next hm => exact portsMoved_setPort (.darken _ hm)
  · next hm => exact portsMoved_setPort (.disable _ hm)
  · rw [portsMoved_reportMode]
    exact portsMoved_setPort (.disableLive _)

theorem portSet_moves {f : Option (Fin 8 → State → State)} (hf : ∀ g ∈ f, ∀ p u, PortsMoved r W u (g p u)) (item p : Nat) (s : State) :
    PortsMoved r W s (portSet item p f s) := by
  unfold portSet
  split
  · exact Keeps.portsMoved (w := [.links]) (by simp)
  · split
    · exact Keeps.portsMoved (w := [.links]) (by simp)
    · exact hf _ rfl _ _

theorem enableAction_moves (v : Nat) : ∀ g ∈ enableAction v, ∀ p u, PortsMoved r W u (g p u) := by
  intro g hg p u
  obtain ⟨b, -, rfl⟩ := Option.map_eq_some_iff.mp hg
  cases b
  · exact disablePort_moves p u
  · exact portsMoved_setPort (.enable _)

theorem geometryAction_moves (v : Nat) : ∀ g ∈ geometryAction v, ∀ p u, PortsMoved r W u (g p u) := by
  intro g hg p u
  unfold geometryAction at hg
  dsimp only at hg
  split at hg
  · next h =>
    obtain ⟨-, hc, -, hr⟩ := h
    cases hg
    exact portsMoved_setPort (.geometry _ _ _ hc hr)
  · cases hg

theorem rateAction_moves (v : Nat) : ∀ g ∈ rateAction v, ∀ p u, PortsMoved r W u (g p u) := by
  intro g hg p u
  unfold rateAction at hg
  split at hg
  · cases hg
    exact portsMoved_setPort (.rate _ v)
  · cases hg

theorem frameStart_moves (p : Fin 8) (s : State) : PortsMoved r W s (doFrameStart p s) := by
  have hset : PortsMoved r W s (setPort p Port.applyPending s) := portsMoved_setPort (.pending _)
  have hports : (takePending p s).ports = (setPort p Port.applyPending s).ports := by
    unfold takePending
    dsimp only
    split <;> rfl
  have hpending : PortsMoved r W s (takePending p s) := hset.trans (.of_eq hports)
  unfold doFrameStart
  dsimp only
  refine PortsMoved.trans ?_ (portsMoved_setPort (.begin _))
  split
  · next h =>
    obtain ⟨hread, -, -⟩ := h
    have hlive : (s.ports.get p).mode = .live := by
      simp only [readsBuild, Bool.and_eq_true, beq_iff_eq] at hread
      exact hread.1.2
    have hlive' : ((takePending p s).ports.get p).mode = .live := by
      rw [hports]
      simpa [setPort, Port.applyPending] using hlive
    have hswap : PortsMoved r W (takePending p s) (setPort p (fun x => { x with activeOne := !x.activeOne, mute := false })
        (takePending p s)) := portsMoved_setPort (.swap _ hlive')
    exact hpending.trans (hswap.then (w := issueParts) (by simp [swapGrids]))
  · exact hpending

theorem picture_moves (s : State) : PortsMoved r W s (doPicture s) := by
  unfold doPicture
  split
  · exact .refl s
  · rename_i f rest _
    refine (Keeps.portsMoved (w := [.tif]) (t := s.withTif { s.tif with pictures := rest }) (by simp)).trans ?_
    unfold routePicture
    split
    · simp only [offerSegment]
      split_ifs with hg hb
      · exact portsMoved_setPort (.gated _)
      · exact portsMoved_setPort (.buffered _ _ (by simpa [portOf] using hg) hb)
      · rw [portsMoved_withTif]
        exact portsMoved_setPort (.dropped _ _)
    · exact Keeps.portsMoved (w := [.links]) (by simp)

theorem unitWritten_moves (s : State) (hW : ∀ u ∈ s.blc.unit, W u.cells) : PortsMoved r W s (doUnitWritten s) := by
  unfold doUnitWritten
  split
  · exact .refl s
  · rename_i u hu
    have hwrite : PortsMoved r W s (writeUnit u s) :=
      (portsMoved_setPort (p := u.panel) (f := fun p => p.withShadow (p.shadow.writeAll u.cells)) (.written _ _ (hW u hu))).then
        (w := [.blc, .unit]) (by simp [writeUnit, setPort])
    dsimp only
    split
    · exact hwrite.then (w := blcParts) (by simp)
    · exact hwrite

theorem resetTake_moves (b : Block) (s : State) : PortsMoved r W s (doResetTake b s) := by
  have hpnl (all : Bool) (u : State) : PortsMoved r W u (resetPnl all u) := by
    have hports : PortsMoved r W u (u.withPorts (resetPorts all u)) := fun p => by
      cases all with
      | false => simpa [resetPorts, portOf] using .single (.ops _ _)
      | true => simpa [resetPorts] using .single (.reset _)
    unfold resetPnl
    dsimp only
    split
    · exact hports
    · exact hports.then (w := [.links]) (by simp [reportCleared])
  cases b with
  | pnl =>
    unfold doResetTake
    split
    · exact .refl s
    · split
      · exact ((Keeps.portsMoved (w := [.taken]) (by simp [countReset])).trans (hpnl _ _)).then (resetTaken_keeps _ _ _)
      · exact .refl s
  | _ => exact (doResetTake_keeps _ s).portsMoved (of_decide_eq_true rfl)

theorem running_moves {f : State → State} (hf : s.inReset = false → PortsMoved r W s (f s)) (h : running s f = .next t) :
    PortsMoved r W s t := by
  unfold running at h
  split at h
  · cases h
    exact .refl s
  · next hr =>
    cases h
    exact hf (by simpa using hr)

theorem deliver_set_moves {b : Block} {item : Nat} {act : Nat → Nat → State → State} (hact : ∀ k v u, PortsMoved r W u (act k v u))
    (s : State) : PortsMoved r W s (deliver b (pickSet item act) s) :=
  deliver_set_preserves (I := PortsMoved r W s) (.refl s) (fun x rest _ => Keeps.portsMoved (w := [.fifo]) (by simp))
    fun k v _ hu => hu.trans (hact k v _)

/-- Every command leaves each port as some changes leave it. -/
theorem exec_ports {c : Instr} (hc : exec c s = .next t) (hW : ∀ u ∈ s.blc.unit, W u.cells) : PortsMoved s.inReset W s t := by
  cases c with
  | frameStart p =>
    cases hc
    exact frameStart_moves p s
  | linkPhaseIdle p =>
    cases hc
    unfold doLinkPhaseIdle
    split
    · exact .refl s
    · exact portsMoved_setPort (.idle _)
  | presenceFall p =>
    cases hr : s.inReset with
    | false =>
      cases (if_neg (by simp [hr])).symm.trans hc
      exact presenceFall_moves p s
    | true =>
      cases (if_pos hr).symm.trans hc
      exact portsMoved_setPort (.lower _ (.inr rfl))
  | presenceRise p =>
    cases hc
    exact portsMoved_setPort (.raise _)
  | panelBack p => exact running_moves (panelBack_moves p s) hc
  | openWindowsReport p =>
    refine running_moves (fun _ => ?_) hc
    unfold doOpenWindowsReport
    split
    · dsimp only
      split
      · exact Keeps.portsMoved (w := [.links]) (by simp [State.withPortRequests])
      · exact (Keeps.portsMoved (w := [.links]) (by simp [State.withPortRequests])).trans (portsMoved_setPort (.windows _ _))
    · exact .refl s
  | gridClearedAnswer p =>
    refine running_moves (fun _ => ?_) hc
    unfold doGridClearedAnswer
    split
    · dsimp only
      split
      · exact Keeps.portsMoved (w := [.links]) (by simp [State.withPortRequests])
      · exact (Keeps.portsMoved (w := [.links]) (by simp [State.withPortRequests])).trans (portsMoved_setPort (.unhold _))
    · exact .refl s
  | setPanelEnable => exact running_moves (fun _ => deliver_set_moves (fun p v u => portSet_moves (enableAction_moves v) 21 p u) s) hc
  | setPanelGeometry => exact running_moves (fun _ => deliver_set_moves (fun p v u => portSet_moves (geometryAction_moves v) _ p u) s) hc
  | setPanelRate => exact running_moves (fun _ => deliver_set_moves (fun p v u => portSet_moves (rateAction_moves v) _ p u) s) hc
  | picture => exact running_moves (fun _ => picture_moves s) hc
  | unitWritten => exact running_moves (fun _ => unitWritten_moves s hW) hc
  | resetTake b => exact running_moves (fun _ => resetTake_moves b s) hc
  | pinReset =>
    cases hc
    intro p
    simpa using .single (.reset _)
  | _ => exact (exec_keeps hc).portsMoved (of_decide_eq_true rfl)

/-- What every change of a port keeps, every command keeps of all of them. -/
theorem PortsMoved.preserves {P : Port → Prop} (hP : ∀ x y, PortMove r W x y → P x → P y) (h : PortsMoved r W s t)
    (hs : ∀ p, P (s.ports.get p)) (p : Fin 8) : P (t.ports.get p) := by
  have hp := h p
  generalize t.ports.get p = y at hp ⊢
  induction hp with
  | refl => exact hs p
  | tail _ hmove ih => exact hP _ _ hmove ih

end Moves

/-! ## What a port does with its picture buffer -/

/-- What a port leaves of its buffer when it looks at it: a segment whose gate is open in sending and those behind it, or nothing. -/
theorem takeUp_cases (x : Port) (l : List Segment) :
    (∃ n, takeUp x l = { x with gated := n, buffer := [], phase := .idle })
      ∨ ∃ n g rest, gateFor x g.window = true ∧ rest.length < l.length
          ∧ takeUp x l = { x with gated := n, buffer := rest, segment := some g, phase := .segment } := by
  induction l generalizing x with
  | nil => exact .inl ⟨x.gated, rfl⟩
  | cons g l ih =>
    unfold takeUp
    split
    · next hg => exact .inr ⟨x.gated, g, l, hg, Nat.lt_succ_self _, rfl⟩
    · obtain ⟨n, h⟩ | ⟨n, g', rest, hg, hl, h⟩ := ih x.countGated
      · exact .inl ⟨n, h⟩
      · exact .inr ⟨n, g', rest, hg, Nat.lt_succ_of_lt hl, h⟩

end Sys2Proof.Machine
end

section
/-! PROOFS. The clock, and the bounds of the queues: what the LCK does keeps the clock in its range (R1, R2, R3), and the FIFO, the event
queue and the picture buffers grow only below their depth (R164, R176, R187). -/

namespace Sys2Proof.Machine

/-- A RESET keeps what the taking block's own handling of it keeps, if that says nothing of the RESETs taken. -/
theorem RestsOn.resetTake {d : List Part} {I : State → Prop} {b : Block} {s : State} (h : RestsOn d I)
    (hd : ∀ p ∈ d, p ∉ [Part.fifo, .resetting, .taken]) (hb : ∀ all u, I u → I (resetBlock b all u)) (hs : I s) :
    I (doResetTake b s) := by
  unfold doResetTake
  split
  · exact hs
  · split
    · rename_i r _ _
      refine h.keeps (resetTaken_keeps b r _) (fun p hp hw => hd p hp (by simp at hw ⊢; tauto)) (hb _ _ ?_)
      exact h.keeps (w := [.taken]) (by simp [countReset]) (fun p hp hw => hd p hp (by simp at hw ⊢; tauto)) hs
    · exact hs

/-- The clock's part of `ClockOk`. -/
def LckOk (c : Lck) : Prop := c.clock ≤ 129599 ∧ (c.held = true ↔ c.clock = 129599) ∧ (c.holdDue = true → c.held = true)

theorem clockOk_iff (s : State) : ClockOk s ↔ LckOk s.lck := Iff.rfl

theorem clockOk_restsOn : RestsOn [.lck] ClockOk := fun s t h hs => by
  have hlck : t.lck = s.lck := h .lck (by simp)
  rw [clockOk_iff, hlck]
  exact hs

theorem LckOk.advance {c : Lck} (h : LckOk c) : LckOk c.advance := by
  unfold Lck.advance
  split_ifs with hheld htop
  · exact h
  · exact ⟨le_refl 129599, by decide, by decide⟩
  · obtain ⟨hr, hh, hd⟩ := h
    have htop : c.clock + 1 ≠ 129599 := htop
    have hlt : c.clock ≠ 129599 := fun e => hheld (hh.2 e)
    refine ⟨?_, ?_, fun hdue => absurd (hd hdue) hheld⟩
    · show c.clock + 1 ≤ 129599
      omega
    · simpa using htop

theorem LckOk.write {c : Lck} {v : Nat} (hv : v ≤ 129599) : LckOk (c.write v) := by
  unfold Lck.write
  split
  · next h => exact ⟨hv, iff_of_true rfl h, fun _ => rfl⟩
  · next h => exact ⟨hv, iff_of_false (by simp) h, by simp⟩

theorem clockOk_secondsPulse {s : State} (h : ClockOk s) : ClockOk (doSecondsPulse s) := by
  have hadv : ClockOk (advanceClock s) := by
    refine clockOk_restsOn.keeps (w := [.links, .sch]) (s := s.withLck s.lck.advance) ?_ (by decide) (LckOk.advance h)
    unfold advanceClock raiseMinute
    dsimp only
    split <;> simp
  refine clockOk_restsOn.keeps (w := [.links]) (s := if s.lck.held then s else advanceClock s) ?_ (by decide) ?_
  · simp [doSecondsPulse, distributePulse]
  · split
    · exact h
    · exact hadv

theorem clockOk_clockHold {s : State} (h : ClockOk s) : ClockOk (doClockHold s) := by
  obtain ⟨hr, hh, hd⟩ := h
  unfold doClockHold
  split
  · next hdue =>
    refine clockOk_restsOn.keeps (w := [.links]) (s := s.withLck ⟨s.lck.clock, true, false⟩) (by simp) (by decide) ?_
    exact ⟨hr, by simpa using hh.1 (hd hdue), by simp⟩
  · exact ⟨hr, hh, hd⟩

theorem clockOk_setTime (v : Nat) (s : State) : ClockOk (setTime v s) := by
  refine clockOk_restsOn.keeps (w := [.links, .sch]) (s := s.withLck (s.lck.write (min v Config.clockTop))) ?_ (by decide)
    (LckOk.write (Nat.min_le_right v 129599))
  simp [setTime, raiseMinute, purgeOnSale]

theorem clockOk_resetTake (b : Block) {s : State} (h : ClockOk s) : ClockOk (doResetTake b s) := by
  refine clockOk_restsOn.resetTake (by decide) (fun all u hu => ?_) h
  cases b with
  | lck =>
    rw [clockOk_iff]
    cases all with
    | false => exact hu
    | true => exact ⟨Nat.zero_le _, by simp [resetBlock, Lck.onReset], by simp [resetBlock, Lck.onReset]⟩
  | _ => exact clockOk_restsOn.keeps (resetBlock_keeps _ all u) (of_decide_eq_true rfl) hu

theorem clockOk_reset : ClockOk State.reset := by decide

theorem clockOk_exec (c : Instr) (s t : State) (h : ClockOk s) (hc : exec c s = .next t) : ClockOk t := by
  cases c with
  | secondsPulse => exact running_preserves (fun _ => clockOk_secondsPulse) h hc
  | clockHold => exact running_preserves (fun _ => clockOk_clockHold) h hc
  | time =>
    refine running_preserves (fun _ _ => deliver_preserves h (fun _ _ _ => h) fun p act hp c u _ => ?_) h hc
    unfold pickTime at hp
    split at hp <;> cases hp
    exact clockOk_setTime _ u
  | resetTake b => exact running_preserves (fun _ => clockOk_resetTake b) h hc
  | pinReset =>
    cases hc
    exact clockOk_reset
  | _ => exact clockOk_restsOn.exec hc (of_decide_eq_true rfl) h

/-! ## The queues -/

/-- The parse FIFO, the event queue and the dropped count are within their bounds. -/
def TrunkOk (t : Tif) : Prop := t.fifo.length ≤ 4 ∧ t.events.length ≤ 16 ∧ t.dropped ≤ 255

theorem trunkOk_restsOn : RestsOn [.fifo, .events] fun s => TrunkOk s.tif := fun s t h hs => by
  have hf : t.tif.fifo = s.tif.fifo := h .fifo (by simp)
  have he : t.tif.events = s.tif.events ∧ t.tif.dropped = s.tif.dropped :=
    ⟨congrArg Prod.fst (h .events (by simp)), congrArg Prod.snd (h .events (by simp))⟩
  have hs : TrunkOk s.tif := hs
  unfold TrunkOk at hs
  show t.tif.fifo.length ≤ 4 ∧ t.tif.events.length ≤ 16 ∧ t.tif.dropped ≤ 255
  rwa [hf, he.1, he.2]

section Trunk

variable {t : Tif}

theorem TrunkOk.rest {x : Taken} {rest : List Taken} (h : TrunkOk t) (hx : t.fifo = x :: rest) : TrunkOk { t with fifo := rest } := by
  obtain ⟨hf, he, hd⟩ := h
  rw [hx, List.length_cons] at hf
  exact ⟨Nat.le_of_succ_le hf, he, hd⟩

theorem TrunkOk.receive (clock : Nat) (frame : TrunkFrame) (h : TrunkOk t) : TrunkOk (receive clock frame (enumerate t)) := by
  obtain ⟨hf, he, hd⟩ := h
  obtain ⟨hf0, -, he0, hd0⟩ := enumerate_frame t
  obtain ⟨hfifo, -, he1, hd1⟩ := receive_frame clock frame (enumerate t)
  refine ⟨?_, by rwa [he1, he0], by rwa [hd1, hd0]⟩
  obtain hfifo | ⟨x, hlt, hfifo⟩ := hfifo
  · rwa [hfifo, hf0]
  · rw [hfifo, List.length_append, List.length_singleton]
    exact hlt

theorem TrunkOk.offerEvent (e : Event) (h : TrunkOk t) : TrunkOk (offerEvent e t) := by
  obtain ⟨hf, he, hd⟩ := h
  unfold Machine.offerEvent
  split
  · next hl => exact ⟨hf, (List.length_append ..).trans_le (Nat.succ_le_of_lt hl), hd⟩
  · exact ⟨hf, he, Nat.min_le_left _ _⟩

theorem TrunkOk.grantOwn (h : TrunkOk t) : TrunkOk (grantOwn t) := by
  obtain ⟨hf, he, hd⟩ := h
  unfold Machine.grantOwn
  split
  · exact ⟨hf, he, hd⟩
  · split
    · rename_i e rest hr
      rw [hr, List.length_cons] at he
      exact ⟨hf, Nat.le_of_succ_le he, hd⟩
    · exact ⟨hf, he, hd⟩

theorem TrunkOk.grantLane (h : TrunkOk t) : TrunkOk (grantLane t) := by
  unfold Machine.grantLane
  split_ifs
  · exact h.grantOwn
  · exact h
  · exact h
  · exact h

theorem TrunkOk.clearLink (h : TrunkOk t) : TrunkOk (clearLink t) := by
  obtain ⟨hf, he, -⟩ := h
  exact ⟨hf, he, Nat.zero_le _⟩

theorem TrunkOk.onReset (all : Bool) (h : TrunkOk t) : TrunkOk (t.onReset all) := by
  obtain ⟨hf, -, hd⟩ := h
  have hcut : TrunkOk { t with
      slot := .empty, read := keepRead t.read, events := [], lastOwn := false, resetting := some ⟨all, otherBlocks⟩ } :=
    ⟨hf, Nat.zero_le _, hd⟩
  unfold Tif.onReset
  split
  · exact hcut.clearLink
  · exact hcut

theorem TrunkOk.resetTaken (b : Block) (r : Resetting) (h : TrunkOk t) : TrunkOk (t.resetTaken b r) := by
  obtain ⟨hf, he, hd⟩ := h
  unfold Tif.resetTaken
  dsimp only
  split
  · exact ⟨(List.drop_sublist 1 t.fifo).length_le.trans hf, he, hd⟩
  · exact ⟨hf, he, hd⟩

end Trunk

theorem Consumes.trunkOk {s t : State} (hc : Consumes s t) (h : TrunkOk s.tif) : TrunkOk t.tif := by
  obtain rfl | ⟨x, rest, hx, -, -, rfl⟩ := hc
  · exact h
  · exact h.rest hx

/-- A command that at most consumes a packet, and leaves the FIFO and the events alone, keeps the bounds. -/
theorem trunkOk_of_writes {c : Instr} {s t : State} (h : TrunkOk s.tif) (hc : exec c s = .next t)
    (hw : ∀ p ∈ ([.fifo, .events] : List Part), p ∉ writes c) : TrunkOk t.tif := by
  obtain ⟨v, hv, u, hu, hk⟩ := exec_runs c s
  cases hv.symm.trans hc
  exact trunkOk_restsOn.keeps hk hw (hu.trunkOk h)

theorem trunkOk_eventOffer (b : Block) {s : State} (h : TrunkOk s.tif) : TrunkOk (doEventOffer b s).tif := by
  unfold doEventOffer
  split
  · exact h
  · exact h.offerEvent _

theorem trunkOk_linkClear {s : State} (h : TrunkOk s.tif) : TrunkOk (deliverTif pickLinkClear s).tif := by
  unfold deliverTif
  split
  · exact h
  · rename_i x rest hx
    split
    · exact h
    · rename_i act hact
      split
      · unfold pickLinkClear at hact
        split at hact
        · split at hact <;> cases hact
          exact (h.rest hx).clearLink
        · cases hact
      · exact h

theorem trunkOk_resetTake (b : Block) {s : State} (h : TrunkOk s.tif) : TrunkOk (doResetTake b s).tif := by
  unfold doResetTake
  split
  · exact h
  · split
    · refine TrunkOk.resetTaken b _ (trunkOk_restsOn.keeps (resetBlock_keeps b _ _) ?_ ?_)
      · cases b <;> decide
      · exact h
    · exact h

theorem trunkOk_exec (c : Instr) (s t : State) (h : TrunkOk s.tif) (hc : exec c s = .next t) : TrunkOk t.tif := by
  cases c with
  | packetReceive f => exact running_preserves (I := fun s => TrunkOk s.tif) (fun _ h => h.receive _ f) h hc
  | eventOffer b => exact running_preserves (I := fun s => TrunkOk s.tif) (fun _ => trunkOk_eventOffer b) h hc
  | returnLaneGrant => exact running_preserves (I := fun s => TrunkOk s.tif) (fun _ h => h.grantLane) h hc
  | setLinkClear => exact running_preserves (I := fun s => TrunkOk s.tif) (fun _ => trunkOk_linkClear) h hc
  | resetAll | resetOps =>
    refine running_preserves (I := fun s => TrunkOk s.tif) (fun _ h => ?_) h hc
    split
    · exact h.onReset _
    · exact h
  | resetTake b => exact running_preserves (I := fun s => TrunkOk s.tif) (fun _ => trunkOk_resetTake b) h hc
  | pinReset =>
    cases hc
    exact ⟨Nat.zero_le _, Nat.zero_le _, Nat.zero_le _⟩
  | _ => exact trunkOk_of_writes h hc (of_decide_eq_true rfl)

/-- Every change of a port keeps its picture buffer within its bound. -/
theorem PortMove.buffer {r : Bool} {W : List (Nat × Cell) → Prop} {x y : Port} (h : PortMove r W x y) (hx : x.buffer.length ≤ 2) :
    y.buffer.length ≤ 2 := by
  have htake (z : Port) (l : List Segment) (hl : l.length ≤ 2) : (takeUp z l).buffer.length ≤ 2 := by
    obtain ⟨n, e⟩ | ⟨n, g, rest, -, hlt, e⟩ := takeUp_cases z l
    · rw [e]
      simp
    · rw [e]
      simp only
      omega
  cases h with
  | enable => split <;> exact hx
  | begin =>
    unfold Port.beginFrame
    split_ifs <;> exact hx
  | idle =>
    unfold Port.linkIdle
    split
    · exact hx
    · exact htake _ _ hx
    · split
      · exact hx
      · exact htake _ _ hx
  | buffered g _ hb =>
    unfold Port.buffered
    dsimp only
    split
    · exact htake _ _ (by simpa using hb)
    · simpa using hb
  | written => 
    unfold Port.withShadow
    split <;> exact hx
  | fall | disableLive | ops | reset => simp [Port.drain, Port.blankLink, Port.silenceLink, Port.onOps, Port.reset]
  | _ => exact hx

/-- Settles O6: every command keeps the clock in its range, and every queue within its bound. -/
theorem clockAndQueuesStayOk : Obligations.ClockAndQueuesStayOk := by
  unfold Obligations.ClockAndQueuesStayOk
  refine ⟨step_of_exec clockOk_restsOn (by decide) clockOk_exec, ?_⟩
  have hrests : RestsOn [.fifo, .events, .ports] QueuesOk := fun s t h hs => by
    obtain ⟨hf, he, hd, hp⟩ := hs
    obtain ⟨hf', he', hd'⟩ := trunkOk_restsOn s t (fun p hp => h p (by simp at hp ⊢; tauto)) ⟨hf, he, hd⟩
    have hports : t.ports = s.ports := h .ports (by simp)
    exact ⟨hf', he', hd', hports ▸ hp⟩
  refine step_of_exec hrests (by decide) fun c s t hs hc => ?_
  obtain ⟨hf, he, hd, hp⟩ := hs
  obtain ⟨hf', he', hd'⟩ := trunkOk_exec c s t ⟨hf, he, hd⟩ hc
  exact ⟨hf', he', hd', (exec_ports (W := fun _ => True) hc fun _ _ => trivial).preserves (fun _ _ => PortMove.buffer) hp⟩

end Sys2Proof.Machine
end

section
/-! PROOFS. The ports and their grids: every change of a port keeps its grids in canonical form and the port well formed, and a unit is
granted only where it lies on the grid (R137, R150 to R153, R165). -/

namespace Sys2Proof.Machine

section Moves

variable {r : Bool} {W : List (Nat × Cell) → Prop} {x y : Port}

/-- The cells of a unit lie on the grid. -/
def OnGrid (cells : List (Nat × Cell)) : Prop := ∀ ac ∈ cells, ac.1 < 2304

theorem GridOk.written {cells : List (Nat × Cell)} (hc : OnGrid cells) (h : GridOk x) :
    GridOk (x.withShadow (x.shadow.writeAll cells)) := by
  obtain ⟨h0, h1, hrest⟩ := h
  unfold Port.withShadow Port.shadow
  split
  · exact ⟨Grid.wf_writeAll h0 hc, h1, hrest⟩
  · exact ⟨h0, Grid.wf_writeAll h1 hc, hrest⟩

theorem GridOk.applyPending (h : GridOk x) : GridOk x.applyPending := by
  obtain ⟨h0, h1, hc, hr, hp⟩ := h
  unfold Port.applyPending
  cases hg : x.geometryPending with
  | none => exact ⟨h0, h1, hc, hr, by simp⟩
  | some g =>
    obtain ⟨hc', hr'⟩ := hp g hg
    exact ⟨h0, h1, hc', hr', by simp⟩

/-- What a port does with its picture buffer leaves its geometry, its grids and its mode alone. -/
theorem GridOk.takeUp (l : List Segment) (h : GridOk x) : GridOk (takeUp x l) := by
  obtain ⟨n, e⟩ | ⟨n, g, rest, -, -, e⟩ := takeUp_cases x l <;> rw [e] <;> exact h

/-- Every change of a port keeps its grids in canonical form and its geometry in range. -/
theorem PortMove.gridOk (h : PortMove r OnGrid x y) (hx : GridOk x) : GridOk y := by
  cases h with
  | enable => split <;> exact hx
  | geometry columns rows hc hr =>
    obtain ⟨h0, h1, hc0, hr0, -⟩ := hx
    exact ⟨h0, h1, hc0, hr0, fun g hg => by
      cases hg
      exact ⟨hc, hr⟩⟩
  | pending => exact hx.applyPending
  | begin =>
    unfold Port.beginFrame
    split_ifs <;> exact hx
  | idle =>
    unfold Port.linkIdle
    split
    · exact hx
    · exact GridOk.takeUp _ hx
    · split
      · exact hx
      · exact GridOk.takeUp _ hx
  | buffered g =>
    unfold Port.buffered
    dsimp only
    split
    · exact GridOk.takeUp _ hx
    · exact hx
  | written cells hc => exact hx.written hc
  | ops c =>
    obtain ⟨-, -, hrest⟩ := hx
    exact ⟨Grid.wf_filled c, Grid.wf_filled c, hrest⟩
  | reset => exact ⟨rfl, rfl, (by decide : Config.columns ≤ 64), (by decide : Config.rows ≤ 36), by simp [Port.reset]⟩
  | _ => exact hx

/-! ## The ports stay well formed -/

/-- A well formed port, that is not LIVE while RESET_N is low (`r`). -/
def PortFit (r : Bool) (x : Port) : Prop := PortOk x ∧ (r = true → x.mode ≠ .live)

/-- A port whose link is IDLE looks at its buffer: what it sends then, it sends LIVE and with an open gate. -/
theorem PortOk.takeUp (l : List Segment) (h : PortOk { x with buffer := [], segment := none, phase := .idle, frame := none })
    (hf : x.frame = none) (hw : x.frameWaiting = none) (hs : x.segment = none) : PortOk (takeUp x l) := by
  obtain ⟨hdark, hsilent, hlevel, hnot, -, -, -, -⟩ := h
  obtain ⟨n, e⟩ | ⟨n, g, rest, hg, -, e⟩ := takeUp_cases x l
  · rw [e]
    exact ⟨hdark, fun _ => rfl, hlevel, fun hm => ⟨(hnot hm).1, rfl, hs⟩, by simp [hf], by simp [hs], by simp [hw], by simp⟩
  · rw [e]
    have hlive : x.mode = .live := by
      simp only [gateFor, Bool.and_eq_true, beq_iff_eq] at hg
      exact hg.1.1
    exact ⟨hdark, by simp [hlive], hlevel, by simp [hlive], by simp [hf], by simp, by simp [hw], by simp⟩

theorem takeUp_mode (l : List Segment) : (takeUp x l).mode = x.mode := by
  obtain ⟨n, e⟩ | ⟨n, g, rest, -, -, e⟩ := takeUp_cases x l <;> rw [e]

theorem PortOk.linkIdle (h : PortOk x) : PortOk x.linkIdle := by
  obtain ⟨hdark, hsilent, hlevel, hnot, hgrid, hseg, hwait, hbuf⟩ := h
  unfold Port.linkIdle
  split
  · exact ⟨hdark, hsilent, hlevel, hnot, hgrid, hseg, hwait, hbuf⟩
  · next hp =>
    have hs : x.segment = none := by simpa [hp] using hseg
    have hw : x.frameWaiting = none := by simpa [hp] using hwait
    refine PortOk.takeUp _ ⟨hdark, fun _ => rfl, hlevel, fun hm => ⟨(hnot hm).1, rfl, rfl⟩, ?_, ?_, ?_, ?_⟩ rfl hw hs <;> simp [hw]
  · next hp =>
    have hf : x.frame = none := by simpa [hp] using hgrid
    have hlive : x.mode = .live := by
      by_contra hm
      simp [(hnot hm).2.2, hp] at hseg
    split
    · next f hw => exact ⟨hdark, by simp [hlive], hlevel, by simp [hlive], by simp, by simp, by simp, by simp⟩
    · next hw =>
      refine PortOk.takeUp _ ⟨hdark, fun _ => rfl, hlevel, fun hm => absurd hlive hm, ?_, ?_, ?_, ?_⟩ hf hw rfl <;> simp [hw]

theorem PortOk.buffered {g : Segment} (hg : gateFor x g.window = true) (h : PortOk x) : PortOk (x.buffered g) := by
  obtain ⟨hdark, hsilent, hlevel, hnot, hgrid, hseg, hwait, hbuf⟩ := h
  have hlive : x.mode = .live := by
    simp only [gateFor, Bool.and_eq_true, beq_iff_eq] at hg
    exact hg.1.1
  unfold Port.buffered
  dsimp only
  split
  · next hp =>
    have hf : x.frame = none := by simpa [hp] using hgrid
    have hs : x.segment = none := by simpa [hp] using hseg
    have hw : x.frameWaiting = none := by simpa [hp] using hwait
    refine PortOk.takeUp _ ⟨hdark, fun _ => rfl, hlevel, fun hm => absurd hlive hm, ?_, ?_, ?_, ?_⟩ hf hw hs <;> simp [hw]
  · next hp => exact ⟨hdark, hsilent, hlevel, fun hm => absurd hlive hm, hgrid, hseg, hwait, fun _ => hp⟩

theorem PortOk.beginFrame (h : PortOk x) : PortOk x.beginFrame := by
  obtain ⟨hdark, hsilent, hlevel, hnot, hgrid, hseg, hwait, hbuf⟩ := h
  unfold Port.beginFrame
  split_ifs with hd hp
  · exact ⟨hdark, hsilent, hlevel, hnot, hgrid, hseg, hwait, hbuf⟩
  · exact ⟨hdark, hsilent, hlevel, hnot, hgrid, hseg, fun _ => hp, hbuf⟩
  · have hs : x.segment = none := by simpa [hp] using hseg
    have hw : x.frameWaiting = none := by simpa [hp] using hwait
    exact ⟨hdark, fun e => absurd e hd, hlevel, hnot, by simp, by simp [hs], by simp [hw], by simp⟩

theorem PortOk.fall (h : PortOk x) (hd : x.mode = .live) : PortOk { x.drain.blankLink with mode := .waiting, level := false } := by
  obtain ⟨hdark, hsilent, hlevel, hnot, hgrid, hseg, hwait, hbuf⟩ := h
  unfold Port.drain Port.blankLink
  cases hf : x.frame <;> cases hw : x.frameWaiting <;>
    exact ⟨by simpa [hd] using hdark, by simp, by simp, by simp, by simp, by simp, by simp, by simp⟩

/-- Every change of a port keeps it well formed. -/
theorem PortMove.portFit (h : PortMove r W x y) (hx : PortFit r x) : PortFit r y := by
  obtain ⟨hok, hreset⟩ := hx
  have hfields := hok
  obtain ⟨hdark, hsilent, hlevel, hnot, hgrid, hseg, hwait, hbuf⟩ := hfields
  cases h with
  | lower hm =>
    have hm : x.mode ≠ .live := hm.elim id hreset
    exact ⟨⟨hdark, hsilent, fun e => absurd e hm, hnot, hgrid, hseg, hwait, hbuf⟩, hreset⟩
  | raise => exact ⟨⟨hdark, hsilent, fun _ => rfl, hnot, hgrid, hseg, hwait, hbuf⟩, hreset⟩
  | fall hm => exact ⟨hok.fall hm, fun _ => by simp⟩
  | back hr hm hl =>
    refine ⟨⟨?_, by simp, fun _ => hl, by simp, hgrid, hseg, hwait, hbuf⟩, by simp [hr]⟩
    simpa [hm] using hdark
  | darken hm => exact ⟨⟨by simp [hm], hsilent, hlevel, hnot, hgrid, hseg, hwait, hbuf⟩, hreset⟩
  | disable hm =>
    obtain ⟨hmute, hb, hs⟩ := hnot (by simp [hm])
    exact ⟨⟨by simp, fun _ => rfl, by simp, fun _ => ⟨hmute, hb, hs⟩, by simp [Port.silenceLink], by simp [Port.silenceLink, hs],
      by simp [Port.silenceLink], by simp [Port.silenceLink, hb]⟩, by simp⟩
  | disableLive =>
    refine ⟨⟨?_, ?_, ?_, ?_, ?_, ?_, ?_, ?_⟩, ?_⟩ <;> simp [Port.drain, Port.silenceLink]
  | enable =>
    split
    · next hm =>
      exact ⟨⟨by simp, by simp, by simp, fun _ => hnot (by simp [hm]), hgrid, hseg, hwait, hbuf⟩, by simp⟩
    · next hm => exact ⟨⟨by simp [hm], hsilent, hlevel, hnot, hgrid, hseg, hwait, hbuf⟩, hreset⟩
  | pending =>
    exact ⟨⟨hdark, hsilent, hlevel, fun hm => ⟨by simp [Port.applyPending, (hnot hm).1], (hnot hm).2⟩, hgrid, hseg, hwait, hbuf⟩, hreset⟩
  | swap hm => exact ⟨⟨hdark, hsilent, hlevel, fun e => absurd hm e, hgrid, hseg, hwait, hbuf⟩, hreset⟩
  | begin =>
    refine ⟨hok.beginFrame, ?_⟩
    unfold Port.beginFrame
    split_ifs <;> exact hreset
  | idle =>
    refine ⟨hok.linkIdle, ?_⟩
    unfold Port.linkIdle
    split
    · exact hreset
    · rwa [takeUp_mode]
    · split
      · exact hreset
      · rwa [takeUp_mode]
  | buffered g hg =>
    refine ⟨hok.buffered hg, ?_⟩
    unfold Port.buffered
    dsimp only
    split
    · rwa [takeUp_mode]
    · exact hreset
  | written =>
    unfold Port.withShadow
    split <;> exact ⟨hok, hreset⟩
  | ops => exact ⟨⟨hdark, fun _ => rfl, hlevel, fun hm => ⟨rfl, rfl, rfl⟩, by simp [Port.onOps], by simp [Port.onOps],
      by simp [Port.onOps], by simp [Port.onOps]⟩, hreset⟩
  | reset => exact ⟨⟨by simp [Port.reset], by simp [Port.reset], by simp [Port.reset], by simp [Port.reset], by simp [Port.reset],
      by simp [Port.reset], by simp [Port.reset], by simp [Port.reset]⟩, by simp [Port.reset]⟩
  | _ => exact ⟨hok, hreset⟩

end Moves

/-! ## The unit in writing -/

/-- The unit in writing lies on the grid. -/
def UnitOk (s : State) : Prop := ∀ u ∈ s.blc.unit, OnGrid u.cells

theorem unitOk_restsOn : RestsOn [.unit] UnitOk := fun s t h hs => by
  have hu : t.blc.unit = s.blc.unit := h .unit (by simp)
  unfold UnitOk
  rw [hu]
  exact hs

/-- Cells within a geometry of at most 36 rows of 64 columns have addresses on the grid. -/
theorem onGrid_of_inGeometry {columns rows : Nat} {j : Job} (hc : columns ≤ 64) (hr : rows ≤ 36) (h : inGeometry columns rows j = true)
    (cells : List Cell) : OnGrid (((unitCells j).map (cellAddress j)).zip cells) := by
  intro ac hac
  obtain ⟨i, hi, he⟩ := List.mem_map.1 (List.of_mem_zip (a := ac.1) (b := ac.2) hac).1
  have hin := List.all_eq_true.1 h i hi
  simp only [Bool.and_eq_true, decide_eq_true_eq] at hin
  obtain ⟨hrow, hcol⟩ := hin
  have haddr : cellAddress j i = (cellPlace j i).1 * 64 + (cellPlace j i).2 := rfl
  omega

theorem unitOk_unitGrant {s : State} (hp : ∀ p, GridOk (s.ports.get p)) (h : UnitOk s) : UnitOk (doUnitGrant s) := by
  unfold doUnitGrant
  split
  · split
    · rename_i n _ _ _ j _
      unfold grantUnit checkUnit
      dsimp only
      split
      · next cells hcells =>
        split at hcells
        · next hin =>
          intro u hu
          obtain ⟨-, -, hc, hr, -⟩ := hp j.panel
          have : u = ⟨n, j.panel, ((unitCells j).map (cellAddress j)).zip cells⟩ := by simpa [beginUnit, eq_comm] using hu
          rw [this]
          exact onGrid_of_inGeometry hc hr hin cells
        · cases hcells
      · exact unitOk_restsOn.keeps (w := blcParts) (by simp [failUnit]) (by decide) h
    · exact h
  · exact h

theorem unitOk_entryFreeNotice {s : State} (h : UnitOk s) : UnitOk (doEntryFreeNotice s) := by
  unfold doEntryFreeNotice
  split
  · exact h
  · intro u hu
    obtain ⟨v, hv, rfl⟩ := Option.map_eq_some_iff.1 hu
    have hon : OnGrid v.cells := h v hv
    unfold blankUnit
    split
    · intro ac hac
      obtain ⟨bc, hbc, rfl⟩ := List.mem_map.1 hac
      exact hon bc hbc
    · exact hon

theorem unitOk_unitWritten {s : State} (h : UnitOk s) : UnitOk (doUnitWritten s) := by
  unfold doUnitWritten
  split
  · exact h
  · rename_i u _
    have hnone : UnitOk (writeUnit u s) := by simp [UnitOk, writeUnit]
    dsimp only
    split
    · exact unitOk_restsOn.keeps (w := blcParts) (by simp) (by decide) hnone
    · exact hnone

theorem unitOk_exec (c : Instr) (s t : State) (hp : ∀ p, GridOk (s.ports.get p)) (h : UnitOk s) (hc : exec c s = .next t) : UnitOk t := by
  cases c with
  | unitGrant => exact running_preserves (fun _ => unitOk_unitGrant hp) h hc
  | entryFreeNotice => exact running_preserves (fun _ => unitOk_entryFreeNotice) h hc
  | unitWritten => exact running_preserves (fun _ => unitOk_unitWritten) h hc
  | resetTake b => exact running_preserves (fun _ => unitOk_restsOn.keeps (doResetTake_keeps b s) (by cases b <;> decide)) h hc
  | pinReset =>
    cases hc
    intro u hu
    cases hu
  | _ => exact unitOk_restsOn.exec hc (of_decide_eq_true rfl) h

theorem gridsOk_exec (c : Instr) (s t : State) (h : GridsOk s) (hc : exec c s = .next t) : GridsOk t := by
  obtain ⟨hp, hu⟩ := h
  exact ⟨(exec_ports hc hu).preserves (fun _ _ => PortMove.gridOk) hp, unitOk_exec c s t hp hu hc⟩

theorem portsOk_exec (c : Instr) (s t : State) (h : PortsOk s) (hc : exec c s = .next t) : PortsOk t := by
  obtain ⟨hok, hreset⟩ := h
  have hmoved := (exec_ports (W := fun _ => True) hc fun _ _ => trivial).preserves (fun _ _ => PortMove.portFit)
    fun p => ⟨hok p, fun hr => hreset hr p⟩
  refine ⟨fun p => (hmoved p).1, fun hr p => ?_⟩
  cases c with
  | pinReset =>
    cases hc
    simp [Port.reset]
  | resetNRises =>
    cases hc
    cases hr
  | resetTake b =>
    have hin : t.inReset = s.inReset := (exec_keeps hc).inReset (by cases b <;> decide)
    exact (hmoved p).2 (hin ▸ hr)
  | _ =>
    have hin : t.inReset = s.inReset := (exec_keeps hc).inReset (of_decide_eq_true rfl)
    exact (hmoved p).2 (hin ▸ hr)

/-- Settles O8: every command keeps the grids, the unit in writing and the ports as they are to be. -/
theorem gridsAndPortsStayOk : Obligations.GridsAndPortsStayOk := by
  unfold Obligations.GridsAndPortsStayOk
  have hgrids : RestsOn [.ports, .unit] GridsOk := fun s t h hs => by
    have hp : t.ports = s.ports := h .ports (by simp)
    have hu : t.blc.unit = s.blc.unit := h .unit (by simp)
    unfold GridsOk
    rw [hp, hu]
    exact hs
  have hports : RestsOn [.ports, .inReset] PortsOk := fun s t h hs => by
    have hp : t.ports = s.ports := h .ports (by simp)
    have hr : t.inReset = s.inReset := h .inReset (by simp)
    unfold PortsOk
    rw [hp, hr]
    exact hs
  exact ⟨step_of_exec hgrids (by decide) gridsOk_exec, step_of_exec hports (by decide) portsOk_exec⟩

end Sys2Proof.Machine
end

section
/-! PROOFS. The Blit Channels: every operation on a channel is `State.channelled`, the channel replaced and its reports and unpins sent
(R140); what a channel chooses (R135), and what an arrival does (R134). -/

namespace Sys2Proof.Machine

section Channelled

variable (s : State) (n : Fin 4) (c : Channel) (r : List FromChannel) (u : List TileRef)

@[simp] theorem chan_channelled_same : chan (s.channelled n c r u) n = c := by simp [chan, State.channelled]

theorem chan_channelled_ne {m : Fin 4} (h : m ≠ n) : chan (s.channelled n c r u) m = chan s m := by
  simp [chan, State.channelled, Tab.get_set_ne _ _ h.symm]

@[simp] theorem channelled_ports : (s.channelled n c r u).ports = s.ports := rfl
@[simp] theorem channelled_run : (s.channelled n c r u).blc.run = s.blc.run := rfl
@[simp] theorem channelled_unit : (s.channelled n c r u).blc.unit = s.blc.unit := rfl
@[simp] theorem channelled_cmpBlc : (s.channelled n c r u).links.cmpBlc = s.links.cmpBlc := rfl

@[simp] theorem portLive_channelled (p : Fin 8) : portLive (s.channelled n c r u) p = portLive s p := rfl

@[simp] theorem startedJob_channelled (j : Job) : startedJob (s.channelled n c r u) j = startedJob s j := rfl

/-- A channel as it is, with nothing sent, is no change. -/
theorem channelled_self : s.channelled n (chan s n) [] [] = s := by
  simp [State.channelled, chan, Tab.set_get, Tab.modify_id]

/-- The links that a machine has besides those of its channels' reports are no matter to them. -/
theorem setChan_eq (f : Channel → Channel) : setChan n f s = s.channelled n (f (chan s n)) [] [] := by
  simp [setChan, State.channelled, State.withBlc, chan, Tab.modify_id, ← Tab.modify_eq_set]

theorem sendReport_eq (x : FromChannel) : sendReport n x s = s.channelled n (chan s n) [x] [] := by
  simp [sendReport, State.channelled, State.withLinks, chan, Tab.set_get, Tab.modify_id]

theorem reportJob_eq (x : FromChannel) (j : Job) : reportJob n x j s = s.channelled n (chan s n) [x] (unpinsOf j) := by
  unfold reportJob unpinJob unpinsOf
  cases j.source <;> simp [sendUnpin, sendReport, State.channelled, State.withLinks, chan, Tab.set_get, Tab.modify_id]

theorem leaveQueue_eq (lane : Lane) (rest : List Job) :
    leaveQueue n lane rest s = s.channelled n ((chan s n).withQueue lane rest) [.room lane] [] := by
  simp [leaveQueue, setChan_eq, sendReport_eq, State.channelled_channelled]

theorem discardHead_eq (j : Job) :
    discardHead n j s = s.channelled n (countDiscarded (chan s n)) [.discarded j.panel j.number] (unpinsOf j) := by
  simp [discardHead, setChan_eq, reportJob_eq, State.channelled_channelled]

theorem abandon_eq (j : Job) :
    abandon n j s = s.channelled n (countAbandoned (chan s n)) [.abandoned j.panel j.number] (unpinsOf j) := by
  simp [abandon, setChan_eq, reportJob_eq, State.channelled_channelled]

end Channelled

/-! ## What a channel chooses (R135) -/

section Choice

variable {c : Channel}

theorem choiceOf_announce {j : Job} {rest : List Job} (h : c.announce = j :: rest) : choiceOf c = .head .announce j rest := by
  simp [choiceOf, h]

theorem choiceOf_aside {j : Job} (ha : c.announce = []) (h : c.aside = some j) : choiceOf c = .aside j := by
  simp [choiceOf, ha, h]

theorem choiceOf_normal {j : Job} {rest : List Job} (ha : c.announce = []) (h : c.aside = none) (hn : c.normal = j :: rest) :
    choiceOf c = .head .normal j rest := by
  simp [choiceOf, ha, h, hn]

theorem choiceOf_nothing (ha : c.announce = []) (h : c.aside = none) (hn : c.normal = []) : choiceOf c = .nothing := by
  simp [choiceOf, ha, h, hn]

/-- The number of jobs in a channel's queues. -/
def queued (c : Channel) : Nat := c.normal.length + c.announce.length

/-- The head that is chosen leaves its queue. -/
theorem queued_of_head {lane : Lane} {j : Job} {rest : List Job} (h : choiceOf c = .head lane j rest) :
    queueOf c lane = j :: rest ∧ queued c = queued (c.withQueue lane rest) + 1 := by
  unfold choiceOf at h
  split at h
  · rename_i ha
    cases h
    simp [queueOf, queued, Channel.withQueue, ha, Nat.add_assoc]
  · split at h
    · cases h
    · split at h
      · rename_i hn
        cases h
        simp [queueOf, queued, Channel.withQueue, hn, Nat.add_right_comm]
      · cases h

variable {n : Fin 4} {s : State}

/-- Fuel beyond the number of queued jobs makes no difference. -/
theorem chooseLoop_fuel (k l : Nat) (hk : queued (chan s n) < k) (hl : queued (chan s n) < l) : chooseLoop k n s = chooseLoop l n s := by
  induction k generalizing l s with
  | zero => omega
  | succ k ih =>
    cases l with
    | zero => omega
    | succ l =>
      unfold chooseLoop
      split
      · rfl
      · rfl
      · rename_i lane j rest hc
        obtain ⟨-, hq⟩ := queued_of_head hc
        have hnext : queued (chan (discardHead n j (leaveQueue n lane rest s)) n) + 1 = queued (chan s n) := by
          rw [discardHead_eq, leaveQueue_eq, chan_channelled_same, chan_channelled_same, hq]
          rfl
        dsimp only
        split
        · rfl
        · exact ih l (by omega) (by omega)

theorem choose_nothing (h : choiceOf (chan s n) = .nothing) :
    choose n s = s.channelled n { chan s n with state := .idle, phase := .none } [] [] := by
  rw [choose, chooseLoop, h]
  exact setChan_eq ..

theorem choose_aside {j : Job} (h : choiceOf (chan s n) = .aside j) :
    choose n s = s.channelled n { (chan s n).request j with aside := none } [] [] := by
  rw [choose, chooseLoop, h]
  exact setChan_eq ..

theorem choose_live {lane : Lane} {j : Job} {rest : List Job} (h : choiceOf (chan s n) = .head lane j rest)
    (hl : portLive s j.panel = true) :
    choose n s = s.channelled n (((chan s n).withQueue lane rest).request (startedJob s j)) [.room lane] [] := by
  rw [choose, chooseLoop, h]
  simp [leaveQueue_eq, hl, startHead, setChan_eq, State.channelled_channelled]

theorem choose_lost {lane : Lane} {j : Job} {rest : List Job} (h : choiceOf (chan s n) = .head lane j rest)
    (hl : portLive s j.panel = false) :
    choose n s = choose n (s.channelled n (countDiscarded ((chan s n).withQueue lane rest))
      [.room lane, .discarded j.panel j.number] (unpinsOf j)) := by
  obtain ⟨-, hq⟩ := queued_of_head h
  have heq : discardHead n j (leaveQueue n lane rest s) = s.channelled n (countDiscarded ((chan s n).withQueue lane rest))
      [.room lane, .discarded j.panel j.number] (unpinsOf j) := by
    simp [leaveQueue_eq, discardHead_eq, State.channelled_channelled]
  have hlt : queued ((chan s n).withQueue lane rest) < queued (chan s n) := by omega
  rw [choose, chooseLoop, h]
  simp only [leaveQueue_eq, portLive_channelled, hl, Bool.false_eq_true, if_false]
  rw [← leaveQueue_eq, heq]
  refine chooseLoop_fuel _ _ ?_ ?_
  · rw [chan_channelled_same]
    exact hlt
  · exact Nat.lt_succ_self _

end Choice

/-! ## Arrivals (R134) -/

/-- A channel with a job more at the end of the queue of the job's lane. -/
def Channel.joined (c : Channel) (j : Job) : Channel := c.withQueue j.lane (queueOf c j.lane ++ [j])

section Arrival

variable {n : Fin 4} {j : Job} {s : State}

theorem takeArrival_start (h : (chan s n).state = .idle) (hr : s.blc.run = true) :
    takeArrival n j s = choose n (s.channelled n { (chan s n).joined j with state := .active } [] []) := by
  simp [takeArrival, h, hr, enqueue, setChan_eq, State.channelled_channelled, Channel.joined]

theorem takeArrival_stop (h : (chan s n).state = .idle) (hr : s.blc.run = false) :
    takeArrival n j s = s.channelled n { (chan s n).joined j with state := .stopped } [] [] := by
  simp [takeArrival, h, hr, enqueue, setChan_eq, State.channelled_channelled, Channel.joined]

theorem yieldNow_eq : yieldNow n s
    = choose n (s.channelled n { chan s n with aside := (chan s n).current, current := none, phase := .none } [] []) := by
  rw [yieldNow, setChan_eq]

/-- An arrival makes the channel yield (R139). -/
def Yields (c : Channel) (j : Job) : Prop := c.phase = .requesting ∧ currentNormal c = true ∧ j.lane = .announce

theorem takeArrival_yield (h : (chan s n).state = .active) (hy : Yields (chan s n) j) :
    takeArrival n j s = choose n (s.channelled n
      { (chan s n).joined j with aside := (chan s n).current, current := none, phase := .none } [] []) := by
  obtain ⟨hp, hc, hl⟩ := hy
  simp [takeArrival, h, hp, hc, hl, enqueue, yieldNow_eq, setChan_eq, State.channelled_channelled, Channel.joined, Channel.withQueue]

theorem takeArrival_wait (h : (chan s n).state = .active → ¬ Yields (chan s n) j) (hi : (chan s n).state ≠ .idle) :
    takeArrival n j s = s.channelled n ((chan s n).joined j) [] [] := by
  unfold takeArrival
  dsimp only
  split
  · next e => exact absurd e hi
  · next e => exact (if_neg (h e)).trans (setChan_eq ..)
  · exact setChan_eq ..

end Arrival

theorem exec_jobArrival {n : Fin 4} {j : Job} {rest : List ToChannel} {s : State} (hr : s.inReset = false)
    (h : s.links.cmpBlc.get n = .job j :: rest) :
    exec (.jobArrival n) s = .next (takeArrival n j { s with links := { s.links with cmpBlc := s.links.cmpBlc.set n rest } }) := by
  show running s (doJobArrival n) = _
  rw [running_next _ hr, doJobArrival, h]
  rfl

/-- Settles O45: the choice by its order, each head lost leaving a shorter queue to choose from; an arrival by the channel's state. -/
theorem jobsArriveAndStart : Obligations.JobsArriveAndStart := by
  unfold Obligations.JobsArriveAndStart
  constructor
  · intro n s c live started lost
    have hlive (j : Job) : live j ↔ portLive s j.panel = true := by simp [live, portLive]
    have hlost (j : Job) : ¬ live j ↔ portLive s j.panel = false := by simp [hlive]
    refine ⟨fun j rest ha => ⟨fun hl => ?_, fun hl => ?_⟩, fun ha j hj => ?_, fun ha hj j rest hn => ⟨fun hl => ?_, fun hl => ?_⟩,
      fun ha hj hn => ?_⟩
    · exact choose_live (choiceOf_announce ha) ((hlive j).1 hl)
    · exact choose_lost (choiceOf_announce ha) ((hlost j).1 hl)
    · exact choose_aside (choiceOf_aside ha hj)
    · exact choose_live (choiceOf_normal ha hj hn) ((hlive j).1 hl)
    · exact choose_lost (choiceOf_normal ha hj hn) ((hlost j).1 hl)
    · exact choose_nothing (choiceOf_nothing ha hj hn)
  · intro n j rest s hr h s' c waits yields
    have hy : yields ↔ Yields (chan s' n) j := by
      show _ ↔ c.phase = .requesting ∧ currentNormal c = true ∧ j.lane = .announce
      unfold currentNormal
      cases hc : c.current <;> simp [yields, hc]
    have hwaits (d : Channel) (hn : d.normal = c.normal) (ha : d.announce = c.announce) : waits d = d.joined j := by
      simp only [waits, Channel.joined, Channel.withQueue, queueOf]
      cases j.lane <;> simp [hn, ha]
    have hjoined (d : Channel) (st : ChanState) : { d.joined j with state := st } = Channel.joined { d with state := st } j := by
      unfold Channel.joined Channel.withQueue queueOf
      cases j.lane <;> rfl
    have hparked : ({ c.joined j with aside := c.current, current := none, phase := .none } : Channel)
        = Channel.joined { c with aside := c.current, current := none, phase := .none } j := by
      unfold Channel.joined Channel.withQueue queueOf
      cases j.lane <;> rfl
    rw [exec_jobArrival hr h]
    refine ⟨fun hi hrun => ?_, fun hi hrun => ?_, fun ha hyes => ?_, fun ha hno => ?_, fun hst => ?_⟩
    · rw [takeArrival_start (s := s') hi hrun]
      exact congrArg (fun d => Host.Outcome.next (choose n (s'.channelled n d [] []))) ((hjoined c _).trans (hwaits { c with state := .active } rfl rfl).symm)
    · rw [takeArrival_stop (s := s') hi hrun]
      exact congrArg (fun d => Host.Outcome.next (s'.channelled n d [] [])) ((hjoined c _).trans (hwaits { c with state := .stopped } rfl rfl).symm)
    · rw [takeArrival_yield (s := s') ha (hy.1 hyes)]
      exact congrArg (fun d => Host.Outcome.next (choose n (s'.channelled n d [] []))) (hparked.trans (hwaits { c with aside := c.current, current := none, phase := .none } rfl rfl).symm)
    · have hst : (chan s' n).state = .active := ha
      rw [takeArrival_wait (s := s') (fun _ e => hno (hy.2 e)) (by simp [hst]), hwaits _ rfl rfl]
      rfl
    · have hst' : (chan s' n).state = .stopped ∨ (chan s' n).state = .fault := hst
      rw [takeArrival_wait (s := s') (fun e => by simp [e] at hst') (fun e => by simp [e] at hst'), hwaits _ rfl rfl]
      rfl

end Sys2Proof.Machine
end

section
/-! PROOFS. Cancels (R141), entry-free notices (R132), the arbiter and its grant (R136, R137), and the unit boundary (R138, R139). -/

namespace Sys2Proof.Machine

section Cancel

variable {n : Fin 4} {p : Fin 8} {s : State}

theorem Channel.withQueue_self (c : Channel) (lane : Lane) : c.withQueue lane (queueOf c lane) = c := by cases lane <;> rfl

/-- Jobs reported one after the other. -/
theorem foldl_reportJob (x : Job → FromChannel) (l : List Job) (s : State) :
    l.foldl (fun s j => reportJob n (x j) j s) s = s.channelled n (chan s n) (l.map x) (l.flatMap unpinsOf) := by
  induction l generalizing s with
  | nil => exact (channelled_self s n).symm
  | cons j l ih => rw [List.foldl_cons, ih, reportJob_eq, chan_channelled_same, State.channelled_channelled]; rfl

theorem discards_of_ne {lane : Lane} {l : List Job} (h : l ≠ []) :
    discards lane l = l.map (fun j => .discarded j.panel j.number) ++ [.room lane] := by
  cases l with
  | nil => exact absurd rfl h
  | cons => rfl

theorem cancelQueue_eq (lane : Lane) : cancelQueue n lane p s = s.channelled n
    ((chan s n).withQueue lane ((queueOf (chan s n) lane).filter fun j => !(j.panel == p)))
    (discards lane ((queueOf (chan s n) lane).filter fun j => j.panel == p))
    (((queueOf (chan s n) lane).filter fun j => j.panel == p).flatMap unpinsOf) := by
  unfold cancelQueue
  dsimp only
  split
  · next h =>
    rw [List.isEmpty_iff] at h
    have hall : (queueOf (chan s n) lane).filter (fun j => !(j.panel == p)) = queueOf (chan s n) lane :=
      List.filter_eq_self.2 fun j hj => by simpa using List.filter_eq_nil_iff.1 h j hj
    rw [h, hall, Channel.withQueue_self]
    exact (channelled_self s n).symm
  · next h =>
    rw [discards_of_ne (by simpa [List.isEmpty_iff] using h)]
    simp [foldl_reportJob, setChan_eq, sendReport_eq, State.channelled_channelled]
    rfl

/-- The jobs that a channel abandons of a panel, counted. -/
def Channel.abandoning (c : Channel) (l : List Job) : Channel :=
  { c with counts := { c.counts with abandoned := l.foldl (fun k _ => more k) c.counts.abandoned } }

theorem cancelAside_eq : cancelAside n p s = s.channelled n
    (Channel.abandoning { chan s n with aside := (chan s n).aside.filter fun j => !(j.panel == p) }
      ((chan s n).aside.filter fun j => j.panel == p).toList)
    (((chan s n).aside.filter fun j => j.panel == p).toList.map fun j => .abandoned j.panel j.number)
    (((chan s n).aside.filter fun j => j.panel == p).toList.flatMap unpinsOf) := by
  have hself := (channelled_self s n).symm
  unfold cancelAside
  split
  · next j hj =>
    split
    · next hp =>
      have hin : (chan s n).aside.filter (fun j => j.panel == p) = some j := by simp [hj, Option.filter_some, hp]
      have hout : (chan s n).aside.filter (fun j => !(j.panel == p)) = none := by simp [hj, Option.filter_some, hp]
      rw [hin, hout, abandon_eq, setChan_eq, State.channelled_channelled, chan_channelled_same]
      simp [Channel.abandoning, countAbandoned]
      rfl
    · next hp =>
      have hin : (chan s n).aside.filter (fun j => j.panel == p) = none := by simp [hj, Option.filter_some, hp]
      have hout : (chan s n).aside.filter (fun j => !(j.panel == p)) = (chan s n).aside := by simp [hj, Option.filter_some, hp]
      rw [hin, hout]
      exact hself
  · next hj =>
    have hin : (chan s n).aside.filter (fun j => j.panel == p) = none := by simp [hj]
    have hout : (chan s n).aside.filter (fun j => !(j.panel == p)) = (chan s n).aside := by simp [hj]
    rw [hin, hout]
    exact hself

/-- The current job of a panel that a cancel reaches: none in FAULT. -/
def Channel.cancelled (c : Channel) (p : Fin 8) : Option Job :=
  (c.current.filter fun j => j.panel == p).filter fun _ => c.state != .fault

/-- What a cancel ends at once of the current job: one in writing waits for its boundary. -/
def Channel.cutShort (c : Channel) (p : Fin 8) : Option Job := (c.cancelled p).filter fun _ => c.phase != .writing

/-- A channel with its current job cancelled. -/
def Channel.cancelCurrent (c : Channel) (p : Fin 8) : Channel :=
  Channel.abandoning { c with
    current := if (c.cutShort p).isSome then none else c.current
    phase := if (c.cutShort p).isSome then .none else c.phase
    cancelPending := if (c.cancelled p).isSome ∧ c.phase = .writing then c.cancelPending ||| (1#8 <<< p.val) else c.cancelPending }
    (c.cutShort p).toList

theorem cancelCurrent_eq : cancelCurrent n p s = s.channelled n ((chan s n).cancelCurrent p)
    (((chan s n).cutShort p).toList.map fun j => .abandoned j.panel j.number) (((chan s n).cutShort p).toList.flatMap unpinsOf) := by
  have hself := channelled_self s n
  unfold cancelCurrent
  split
  · next j hj =>
    split_ifs with hskip hw
    · have hc : (chan s n).cancelled p = none := by
        unfold Channel.cancelled
        rcases hskip with h | h <;> simp [hj, h]
      have hcut : (chan s n).cutShort p = none := by simp [Channel.cutShort, hc]
      conv_lhs => rw [← hself]
      simp [Channel.cancelCurrent, Channel.abandoning, hc, hcut]
    · rw [not_or, not_not] at hskip
      have hc : (chan s n).cancelled p = some j := by simp [Channel.cancelled, hj, hskip]
      have hcut : (chan s n).cutShort p = none := by simp [Channel.cutShort, hw]
      rw [setChan_eq]
      simp [Channel.cancelCurrent, Channel.abandoning, hc, hcut, hw, addPanel]
    · rw [not_or, not_not] at hskip
      have hc : (chan s n).cancelled p = some j := by simp [Channel.cancelled, hj, hskip]
      have hcut : (chan s n).cutShort p = some j := by simp [Channel.cutShort, hc, hw]
      rw [abandon_eq, setChan_eq, State.channelled_channelled]
      simp [Channel.cancelCurrent, Channel.abandoning, hcut, hw, countAbandoned]
      rfl
  · next hj =>
    have hc : (chan s n).cancelled p = none := by simp [Channel.cancelled, hj]
    have hcut : (chan s n).cutShort p = none := by simp [Channel.cutShort, hc]
    conv_lhs => rw [← hself]
    simp [Channel.cancelCurrent, Channel.abandoning, hc, hcut]

/-- The jobs of a panel that a cancel abandons: the aside job, and the current one unless it is in writing or faulted. -/
def Channel.abandoned (c : Channel) (p : Fin 8) : List Job := (c.aside.filter fun j => j.panel == p).toList ++ (c.cutShort p).toList

/-- A channel without the jobs of a panel. -/
def Channel.without (c : Channel) (p : Fin 8) : Channel :=
  Channel.abandoning { c with
    announce := c.announce.filter fun j => !(j.panel == p)
    normal := c.normal.filter fun j => !(j.panel == p)
    aside := c.aside.filter fun j => !(j.panel == p)
    current := if (c.cutShort p).isSome then none else c.current
    phase := if (c.cutShort p).isSome then .none else c.phase
    cancelPending := if (c.cancelled p).isSome ∧ c.phase = .writing then c.cancelPending ||| (1#8 <<< p.val) else c.cancelPending }
    (c.abandoned p)

/-- A cancel of a panel's jobs, in one step. -/
theorem cancelJobs_eq : cancelJobs n p s = s.channelled n ((chan s n).without p)
    (discards .announce ((chan s n).announce.filter fun j => j.panel == p)
      ++ discards .normal ((chan s n).normal.filter fun j => j.panel == p)
      ++ ((chan s n).abandoned p).map fun j => .abandoned j.panel j.number)
    (((((chan s n).announce.filter fun j => j.panel == p) ++ (chan s n).normal.filter fun j => j.panel == p)
      ++ (chan s n).abandoned p).flatMap unpinsOf) := by
  rw [cancelJobs, cancelQueue_eq, cancelQueue_eq, cancelAside_eq, cancelCurrent_eq]
  simp only [State.channelled_channelled, chan_channelled_same]
  congr 1
  · simp [Channel.cancelCurrent, Channel.without, Channel.abandoning, Channel.abandoned, Channel.withQueue, queueOf,
      Channel.cutShort, Channel.cancelled]
  · simp [Channel.abandoned, Channel.abandoning, Channel.withQueue, queueOf, Channel.cutShort, Channel.cancelled]
  · simp [Channel.abandoned, Channel.abandoning, Channel.withQueue, queueOf, Channel.cutShort, Channel.cancelled]

theorem afterCancel_eq : afterCancel n s =
    if (chan s n).state = .active ∧ (chan s n).current = none then choose n s
    else if (chan s n).state = .stopped ∧ hasWork (chan s n) = false then
      s.channelled n { chan s n with state := .idle } [] []
    else s := by
  simp [afterCancel, setChan_eq]

theorem exec_jobCancel {rest : List ToChannel} (hr : s.inReset = false) (h : s.links.cmpBlc.get n = .cancel p :: rest) :
    exec (.jobCancel n) s
      = .next (afterCancel n (cancelJobs n p { s with links := { s.links with cmpBlc := s.links.cmpBlc.set n rest } })) := by
  show running s (doJobCancel n) = _
  rw [running_next _ hr, doJobCancel, h]
  rfl

end Cancel

theorem blankJob_notice {e : Fin 24} {j : Job} {line ink paper : Nat} (h : j.source = .notice e line ink paper) :
    blankJob e j = { j with
      line := j.line.map fun l => l.take j.done ++ List.replicate (l.length - j.done) ⟨32, ink, paper, false, false, false⟩ } := by
  simp [blankJob, noticeInk, h, spaceCell, List.map_const']

theorem blankJob_other {e : Fin 24} {j : Job} (h : ∀ line ink paper, j.source ≠ .notice e line ink paper) : blankJob e j = j := by
  have hink : noticeInk e j = none := by
    unfold noticeInk
    split
    · next f line ink paper hs =>
      exact if_neg fun he : f = e => h line ink paper (he ▸ hs)
    · rfl
  simp [blankJob, hink]

/-- Settles O46: a cancel in one step (`cancelJobs_eq`), and the blanking of a job by its source. -/
theorem jobsAreCancelledOrBlanked : Obligations.JobsAreCancelledOrBlanked := by
  unfold Obligations.JobsAreCancelledOrBlanked
  refine ⟨?_, ?_, fun e j => ⟨fun _ _ _ => blankJob_notice, blankJob_other⟩⟩
  · intro n p rest s hr h s' c its aside current cut ended gone d t
    have hd : (chan s' n).without p = d := rfl
    have ht : cancelJobs n p s' = t d := cancelJobs_eq
    have hchan : chan (t d) n = d := chan_channelled_same ..
    rw [exec_jobCancel hr h, ht, afterCancel_eq, hchan]
    have hstate : d.state = c.state := rfl
    refine ⟨fun ha hn => ?_, fun hs hw => ?_, fun ha hs => ?_⟩
    · rw [if_pos ⟨ha, hn⟩]
    · have hst : ¬ (d.state = .active ∧ d.current = none) := by simp [hstate, hs]
      rw [if_neg hst, if_pos ⟨hs, hw⟩]
      simp [t, State.channelled_channelled]
    · rw [if_neg fun e => ha e.1 e.2, if_neg]
      rintro ⟨e, hw⟩
      simp [hs e] at hw
  · intro e rest s hr h
    show running s doEntryFreeNotice = _
    rw [running_next _ hr, doEntryFreeNotice, h]
    simp only [State.withLinks, State.withBlc, Tab.map_eq_make]
    rfl

end Sys2Proof.Machine
end

section
/-! PROOFS. The arbiter and its grant (R136, R137, R144), and the unit boundary (R138, R139). -/

namespace Sys2Proof.Machine

/-! ## The arbiter (R136) -/

/-- How far a channel stands behind the one at which the arbiter begins to look. -/
def askPlace (b : Blc) (n : Fin 4) : Nat := if b.rotating then (n.val + 3 - b.lastGranted.val) % 4 else n.val

/-- The channel so far behind the one at which the arbiter begins to look. -/
def looked (b : Blc) (k : Nat) : Fin 4 := ⟨(firstLooked b + k) % 4, Nat.mod_lt _ (by decide)⟩

section Arbiter

variable (b : Blc) (lane : Lane)

theorem askPlace_lt (n : Fin 4) : askPlace b n < 4 := by
  unfold askPlace
  split
  · exact Nat.mod_lt _ (by decide)
  · exact n.isLt

theorem looked_askPlace (n : Fin 4) : looked b (askPlace b n) = n := by
  ext
  show (firstLooked b + askPlace b n) % 4 = n.val
  unfold askPlace firstLooked
  split <;> omega

theorem askPlace_looked {k : Nat} (h : k < 4) : askPlace b (looked b k) = k := by
  have hval : (looked b k).val = (firstLooked b + k) % 4 := rfl
  unfold askPlace
  rw [hval]
  unfold firstLooked
  split <;> omega

theorem requesters_eq : requesters b (firstLooked b) lane
    = ((List.range 4).map (looked b)).filter fun n => requests (b.channels.get n) lane := rfl

theorem requesters_eq_nil : requesters b (firstLooked b) lane = [] ↔ ∀ n, ¬ requests (b.channels.get n) lane = true := by
  rw [requesters_eq, List.filter_eq_nil_iff]
  refine ⟨fun h n => h n (List.mem_map.2 ⟨askPlace b n, List.mem_range.2 (askPlace_lt b n), looked_askPlace b n⟩), fun h n _ => h n⟩

/-- The first that the arbiter comes upon is the one of the least place. -/
theorem requesters_head (n : Fin 4) : (requesters b (firstLooked b) lane).head? = some n
    ↔ requests (b.channels.get n) lane = true ∧ ∀ m, requests (b.channels.get m) lane = true → askPlace b n ≤ askPlace b m := by
  rw [requesters_eq, List.head?_filter, List.find?_map, Option.map_eq_some_iff]
  constructor
  · rintro ⟨k, hk, rfl⟩
    obtain ⟨hask, hmem, hbefore⟩ := List.find?_range_eq_some.1 hk
    refine ⟨hask, fun m hm => ?_⟩
    rw [askPlace_looked b (List.mem_range.1 hmem)]
    by_contra hlt
    have := hbefore (askPlace b m) (by omega)
    simp [looked_askPlace, hm] at this
  · rintro ⟨hask, hleast⟩
    refine ⟨askPlace b n, List.find?_range_eq_some.2 ⟨?_, List.mem_range.2 (askPlace_lt b n), fun k hk => ?_⟩, looked_askPlace b n⟩
    · simpa [looked_askPlace] using hask
    · by_contra hasks
      have := hleast (looked b k) (by simpa using hasks)
      rw [askPlace_looked b (hk.trans (askPlace_lt b n))] at this
      omega

theorem granted_eq :
    granted b = (requesters b (firstLooked b) .announce).head?.or (requesters b (firstLooked b) .normal).head? := by
  unfold granted
  cases requesters b (firstLooked b) .announce with
  | cons => rfl
  | nil => cases requesters b (firstLooked b) .normal <;> rfl

theorem granted_none : granted b = none
    ↔ ∀ n, ¬ requests (b.channels.get n) .announce = true ∧ ¬ requests (b.channels.get n) .normal = true := by
  rw [granted_eq, Option.or_eq_none_iff, List.head?_eq_none_iff, List.head?_eq_none_iff, requesters_eq_nil, requesters_eq_nil, forall_and]

theorem granted_some (n : Fin 4) : granted b = some n ↔
    (requests (b.channels.get n) .announce = true ∧ ∀ m, requests (b.channels.get m) .announce = true → askPlace b n ≤ askPlace b m)
    ∨ ((∀ m, ¬ requests (b.channels.get m) .announce = true) ∧ requests (b.channels.get n) .normal = true
      ∧ ∀ m, requests (b.channels.get m) .normal = true → askPlace b n ≤ askPlace b m) := by
  rw [granted_eq, Option.or_eq_some_iff, requesters_head, requesters_head, List.head?_eq_none_iff, requesters_eq_nil]

end Arbiter

/-! ## The grant (R137, R144) -/

theorem inGeometry_iff (columns rows : Nat) (j : Job) : inGeometry columns rows j = true
    ↔ ∀ k, k < min 8 (j.count - j.done) → (cellPlace j (j.done + k)).1 < rows ∧ (cellPlace j (j.done + k)).2 < columns := by
  have hsize : unitSize j = min 8 (j.count - j.done) := rfl
  simp [inGeometry, unitCells, hsize]

theorem doUnitGrant_none {s : State} (h : s.blc.unit ≠ none ∨ granted s.blc = none) : doUnitGrant s = s := by
  unfold doUnitGrant
  split
  · next hu hg => rcases h with h | h <;> simp_all
  · rfl

theorem exec_unitGrant {s : State} {n : Fin 4} {j : Job} (hr : s.inReset = false) (hu : s.blc.unit = none) (hg : granted s.blc = some n)
    (hj : (s.blc.channels.get n).current = some j) : exec .unitGrant s = .next (grantUnit n j s) := by
  show running s doUnitGrant = _
  rw [running_next _ hr, doUnitGrant, hu, hg]
  simp only [chan, hj]

theorem grantUnit_ok {s : State} {n : Fin 4} {j : Job} {cells : List Cell}
    (hin : inGeometry (s.ports.get j.panel).columns (s.ports.get j.panel).rows j = true) (hc : unitContent s j = some cells) :
    grantUnit n j s = beginUnit n j cells (s.withBlc { s.blc with lastGranted := n }) := by
  have hc' : unitContent (s.withBlc { s.blc with lastGranted := n }) j = some cells := hc
  simp [grantUnit, checkUnit, hin, hc']

theorem grantUnit_outOfGrid {s : State} {n : Fin 4} {j : Job}
    (hin : ¬ inGeometry (s.ports.get j.panel).columns (s.ports.get j.panel).rows j = true) :
    grantUnit n j s = failUnit n .outOfGrid j (s.withBlc { s.blc with lastGranted := n }) := by
  simp [grantUnit, checkUnit, hin]

theorem grantUnit_noSource {s : State} {n : Fin 4} {j : Job}
    (hin : inGeometry (s.ports.get j.panel).columns (s.ports.get j.panel).rows j = true) (hc : unitContent s j = none) :
    grantUnit n j s = failUnit n .noSource j (s.withBlc { s.blc with lastGranted := n }) := by
  have hc' : unitContent (s.withBlc { s.blc with lastGranted := n }) j = none := hc
  simp [grantUnit, checkUnit, hin, hc']

theorem unitCells_eq (j : Job) : unitCells j = (List.range (min 8 (j.count - j.done))).map fun k => j.done + k := rfl

/-- The line of a job, read cell by cell, is a part of it. -/
theorem map_getD_eq_take_drop (l : List Cell) (start k : Nat) (h : start + k ≤ l.length) :
    ((List.range k).map fun i => l.getD (start + i) Cell.blank) = (l.drop start).take k := by
  apply List.ext_getElem
  · simp; omega
  · intro i hi _
    have hi : i < k := by simpa using hi
    simp [List.getElem?_eq_getElem (show start + i < l.length by omega)]

/-- Settles O47: the arbiter by `granted_none` and `granted_some`; the grant by what the check of the unit says. -/
theorem unitIsGranted : Obligations.UnitIsGranted := by
  unfold Obligations.UnitIsGranted
  refine ⟨fun b => ⟨granted_none b, granted_some b⟩, fun s hr h => ?_, fun n j s hr hu hg hj => ?_, fun j s => ?_⟩
  · show running s doUnitGrant = _
    rw [running_next _ hr, doUnitGrant_none h]
  · intro c x size inside fails
    have hin : inGeometry x.columns x.rows j = true ↔ inside := inGeometry_iff ..
    rw [exec_unitGrant hr hu hg hj]
    refine ⟨fun cells hi hc => ?_, fun hi => ?_, fun hi hc => ?_⟩
    · rw [grantUnit_ok (hin.2 hi) hc]
      simp [beginUnit, setChan, State.withBlc, unitCells_eq, Function.comp_def, Tab.modify_eq_set, c, size]
    · show exec .unitGrant s = _
      rw [exec_unitGrant hr hu hg hj, grantUnit_outOfGrid (mt hin.1 hi)]
      rfl
    · show exec .unitGrant s = _
      rw [exec_unitGrant hr hu hg hj, grantUnit_noSource (hin.2 hi) hc]
      rfl
  · intro size
    have hsize : unitSize j = size := rfl
    refine ⟨fun c h => ?_, fun r h => ?_, fun h => ?_, fun l hl hlen hf ht hc => ?_, fun i h => ?_, fun i k h => ?_, fun i => rfl⟩
    · simp only [unitContent, h, unitCells_eq, List.map_map]
      simp [Function.comp_def, List.map_const', size]
    · simp [unitContent, h, readTile, holdsRef, hsize]
    · simp [unitContent, h, unitCells_eq, size, Function.comp_def, Port.active]
    · unfold unitContent
      split
      · next h => exact absurd h (hf _)
      · next h => exact absurd h (ht _)
      · next h => exact absurd h hc
      · rw [hl, unitCells_eq, List.map_map]
        exact congrArg some (map_getD_eq_take_drop l j.done size hlen)
    · simp [cellPlace, h]
    · simp [cellPlace, h]

end Sys2Proof.Machine
end

section
/-! PROOFS. The unit boundary (R138, R139): the unit written, the job completed, cancelled or going on, and what the channel then does. -/

namespace Sys2Proof.Machine

/-- Every place but that of a write reads as before, in any list. -/
theorem Grid.read_write_of_ne (g : Grid) {a b : Nat} (c : Cell) (h : a ≠ b) : (g.write a c).read b = g.read b := by
  induction g with
  | nil =>
    unfold Grid.write
    split
    · rfl
    · simp [Grid.read, h]
  | cons x g ih =>
    obtain ⟨k, d⟩ := x
    unfold Grid.write
    split_ifs with h1 h2 h3 h4
    · rfl
    · simp [Grid.read, h]
    · simp [Grid.read, ← h3, h]
    · simp [Grid.read, ← h3, h]
    · simp [Grid.read, ih]

theorem Grid.read_writeAll_of_ne (g : Grid) {cells : List (Nat × Cell)} {b : Nat} (h : ∀ ac ∈ cells, ac.1 ≠ b) :
    (g.writeAll cells).read b = g.read b := by
  induction cells generalizing g with
  | nil => rfl
  | cons x cells ih =>
    refine (ih (g.write x.1 x.2) fun ac hac => h ac (List.mem_cons_of_mem _ hac)).trans ?_
    exact Grid.read_write_of_ne g x.2 (h x List.mem_cons_self)

/-- The last write to a place of a grid in canonical form is what reads back there. -/
theorem Grid.read_writeAll_last {g : Grid} (h : g.wf = true) {before after : List (Nat × Cell)} {a : Nat} {c : Cell}
    (hb : ∀ ac ∈ before, ac.1 < 2304) (ha : ∀ ac ∈ after, ac.1 ≠ a) : (g.writeAll (before ++ (a, c) :: after)).read a = c := by
  have hsplit : g.writeAll (before ++ (a, c) :: after) = Grid.writeAll ((g.writeAll before).write a c) after := by
    simp [Grid.writeAll, List.foldl_append]
  rw [hsplit, Grid.read_writeAll_of_ne _ ha, Grid.read_write (Grid.wf_writeAll h hb), if_pos rfl]

section Boundary

variable {n : Fin 4} {p : Fin 8} {s : State} {j : Job}

/-- A channel whose current job `j` has reached the end of a unit of panel `p`: the job completed, cancelled, or going on. -/
def Channel.atBoundary (c : Channel) (p : Fin 8) (j : Job) : Channel :=
  let over' := j.done = j.count
  let cut := ¬ over' ∧ c.cancelPending.getLsbD j.panel.val = true
  { c with
    current := if over' ∨ cut then none else some j
    cancelPending := c.cancelPending &&& ~~~(1#8 <<< p.val)
    counts := { c.counts with
      completed := if over' then more c.counts.completed else c.counts.completed
      abandoned := if cut then more c.counts.abandoned else c.counts.abandoned } }

/-- What a channel reports of its current job at the end of a unit. -/
def Channel.boundaryReports (c : Channel) (j : Job) : List FromChannel :=
  let over' := j.done = j.count
  let cut := ¬ over' ∧ c.cancelPending.getLsbD j.panel.val = true
  if over' then [.completed j.panel j.number] else if cut then [.abandoned j.panel j.number] else []

/-- The tile that a job ended at the end of a unit unpins. -/
def Channel.boundaryUnpins (c : Channel) (j : Job) : List TileRef :=
  let over' := j.done = j.count
  let cut := ¬ over' ∧ c.cancelPending.getLsbD j.panel.val = true
  if over' ∨ cut then unpinsOf j else []

/-- Steps 1 and 2 of R138 together. -/
theorem cancelStep_completeStep (h : (chan s n).current = some j) : cancelStep n p (completeStep n s)
    = s.channelled n ((chan s n).atBoundary p j) ((chan s n).boundaryReports j) ((chan s n).boundaryUnpins j) := by
  by_cases hover : j.done = j.count
  · have hc : completeStep n s = s.channelled n (countCompleted { chan s n with current := none })
        [.completed j.panel j.number] (unpinsOf j) := by
      simp [completeStep, h, hover, reportJob_eq, setChan_eq, State.channelled_channelled]
    rw [hc]
    simp [cancelStep, setChan_eq, State.channelled_channelled, countCompleted, Channel.atBoundary, Channel.boundaryReports,
      Channel.boundaryUnpins, hover, dropPanel]
    rfl
  · have hc : completeStep n s = s := by simp [completeStep, h, hover]
    rw [hc]
    by_cases hcut : (chan s n).cancelPending.getLsbD j.panel.val = true
    · simp [cancelStep, h, hcut, abandon_eq, setChan_eq, State.channelled_channelled, countAbandoned, Channel.atBoundary,
        Channel.boundaryReports, Channel.boundaryUnpins, hover, dropPanel]
      rfl
    · rw [Bool.not_eq_true] at hcut
      simp only [cancelStep, h, hcut, Bool.false_eq_true, if_false]
      simp only [Channel.atBoundary, Channel.boundaryReports, Channel.boundaryUnpins, hover, hcut, not_false_eq_true, true_and, or_self,
        Bool.false_eq_true, if_false, setChan_eq, dropPanel, h]

theorem stopStep_eq : stopStep n s
    = s.channelled n { chan s n with state := if hasWork (chan s n) then .stopped else .idle, phase := .none } [] [] := by
  rw [stopStep, setChan_eq]

theorem nextStep_yield (hc : currentNormal (chan s n) = true) (ha : (chan s n).announce ≠ []) : nextStep n s
    = choose n (s.channelled n { chan s n with aside := (chan s n).current, current := none, phase := .none } [] []) := by
  have ha' : (chan s n).announce.isEmpty = false := by simpa [List.isEmpty_iff] using ha
  simp [nextStep, hc, ha', yieldNow_eq]

theorem nextStep_more (h : (chan s n).current = some j) (hy : ¬ (currentNormal (chan s n) = true ∧ (chan s n).announce ≠ [])) :
    nextStep n s = s.channelled n { chan s n with phase := .requesting } [] [] := by
  have hy' : ¬ (currentNormal (chan s n) = true ∧ (chan s n).announce.isEmpty = false) := by simpa [List.isEmpty_iff] using hy
  simp only [nextStep, if_neg hy', h, setChan_eq]

theorem nextStep_choose (h : (chan s n).current = none) : nextStep n s = choose n s := by
  simp [nextStep, h, currentNormal]

theorem withShadow_writeAll (x : Port) (cells : List (Nat × Cell)) : x.withShadow (x.shadow.writeAll cells)
    = if x.activeOne then { x with grid0 := x.grid0.writeAll cells } else { x with grid1 := x.grid1.writeAll cells } := by
  cases h : x.activeOne <;> simp [Port.withShadow, Port.shadow, h]

theorem exec_unitWritten {u : WritingUnit} (hr : s.inReset = false) (hu : s.blc.unit = some u) : exec .unitWritten s
    = .next (if (chan s u.channel).phase = .writing then
        boundary u.channel u.panel (setChan u.channel (advanceDone u.cells.length) (writeUnit u s))
      else writeUnit u s) := by
  show running s doUnitWritten = _
  rw [running_next _ hr, doUnitWritten, hu]

end Boundary

/-- Settles O48: the writes by `Grid.read_writeAll_of_ne` and `Grid.read_writeAll`, and the boundary in two steps, what becomes of the
job and what the channel then does. -/
theorem unitIsWritten : Obligations.UnitIsWritten := by
  unfold Obligations.UnitIsWritten
  intro u s hr hu n c s'
  have hs' : writeUnit u s = s' := by simp [writeUnit, s', State.withPorts, State.withBlc, withShadow_writeAll]
  rw [exec_unitWritten hr hu, hs']
  refine ⟨fun q a h => ?_, fun hg before a cell after hcells hlast => ?_, fun hw => ?_, ?_⟩
  · show ((s.ports.modify u.panel _).get q).grid0.read a = _ ∧ ((s.ports.modify u.panel _).get q).grid1.read a = _
    rw [Tab.get_modify]
    split
    · next hq =>
      have hne : ∀ ac ∈ u.cells, ac.1 ≠ a := h.resolve_left fun e => e hq.symm
      split
      · exact ⟨Grid.read_writeAll_of_ne _ hne, rfl⟩
      · exact ⟨rfl, Grid.read_writeAll_of_ne _ hne⟩
    · exact ⟨rfl, rfl⟩
  · intro x
    have hcells' : ∀ ac ∈ before, ac.1 < 2304 := fun ac hac => hg.2 u hu ac (by simp [hcells, hac])
    obtain ⟨h0, h1, -⟩ := hg.1 u.panel
    have hx : x = (s.ports.get u.panel).withShadow ((s.ports.get u.panel).shadow.writeAll u.cells) := by
      rw [withShadow_writeAll]
      exact Tab.get_modify_same ..
    rw [hx, hcells, withShadow_writeAll]
    cases hone : (s.ports.get u.panel).activeOne
    · exact Grid.read_writeAll_last h1 hcells' hlast
    · exact Grid.read_writeAll_last h0 hcells' hlast
  · exact congrArg Host.Outcome.next (if_neg hw)
  · intro j hw hj job over' cut d t goes
    have hw' : (chan s u.channel).phase = .writing := hw
    have hadv : setChan u.channel (advanceDone u.cells.length) s'
        = s'.channelled n (advanceDone u.cells.length c) [] [] := setChan_eq ..
    have hjob : (chan (s'.channelled n (advanceDone u.cells.length c) [] []) n).current = some job := by
      simp [advanceDone, countUnit, hj, job]
    have hd : (advanceDone u.cells.length c).atBoundary u.panel job = d := rfl
    have hu' : cancelStep n u.panel (completeStep n (s'.channelled n (advanceDone u.cells.length c) [] [])) = t d := by
      rw [cancelStep_completeStep hjob, State.channelled_channelled, chan_channelled_same, hd]
      rfl
    have hchan : chan (t d) n = d := chan_channelled_same ..
    have hrun : (t d).blc.run = s.blc.run := rfl
    have ht (e : Channel) : (t d).channelled n e [] [] = t e := by simp [t, State.channelled_channelled]
    rw [if_pos hw', hadv, boundary, hu', hrun]
    have hcur (hg : goes) : d.current = some job := if_neg (by simpa [goes, not_or] using hg)
    refine ⟨fun hr => ?_, fun hr hg hl ha => ?_, fun hr hg hl => ?_, fun hr hg => ?_⟩
    · rw [hr, if_neg (by simp), stopStep_eq, hchan, ht]
    · rw [hr, if_pos rfl, nextStep_yield, hchan, ht, hcur hg]
      · rw [hchan, currentNormal, hcur hg]
        exact beq_iff_eq.2 hl
      · rw [hchan]
        exact ha
    · rw [hr, if_pos rfl, nextStep_more (j := job), hchan, ht]
      · rw [hchan, hcur hg]
      · rw [hchan]
        rintro ⟨hn, ha⟩
        rcases hl with hl | hl
        · have hlane : job.lane = .announce := hl
          simp [currentNormal, hcur hg, hlane] at hn
        · exact ha hl
    · rw [hr, if_pos rfl, nextStep_choose]
      rw [hchan]
      exact if_pos (by tauto)

end Sys2Proof.Machine
end

section
/-! PROOFS. The channels stay as their states say (R133, R136, R139): what each operation leaves of the channel that it is done to. -/

namespace Sys2Proof.Machine

/-! ## A channel that chooses -/

section Channels

variable {n : Fin 4} {s : State} {c d : Channel} {j : Job}

/-- What a choice leaves of a channel: its queues no longer, and a channel without a current job running on, with a job or IDLE. -/
structure Chosen (c d : Channel) : Prop where
  normal : d.normal.length ≤ c.normal.length
  announce : d.announce.length ≤ c.announce.length
  ok : c.state = .active → c.current = none → LanesOk c → ChannelOk true d ∧ LanesOk d ∧ d.phase ≠ .writing

theorem Chosen.trans {e : Channel} (h : Chosen d e) (hn : d.normal.length ≤ c.normal.length) (ha : d.announce.length ≤ c.announce.length)
    (hok : c.state = .active → c.current = none → LanesOk c → d.state = .active ∧ d.current = none ∧ LanesOk d) : Chosen c e where
  normal := h.normal.trans hn
  announce := h.announce.trans ha
  ok hs hc hl := by
    obtain ⟨hs', hc', hl'⟩ := hok hs hc hl
    exact h.ok hs' hc' hl'

/-- A channel that requests the port for a job, its queues no longer than before. -/
theorem Chosen.request (hn : d.normal.length ≤ c.normal.length) (ha : d.announce.length ≤ c.announce.length) (hs : d.state = c.state)
    (hl : LanesOk c → LanesOk (d.request j)) : Chosen c (d.request j) where
  normal := hn
  announce := ha
  ok hact _ hlanes := by
    have hact' : d.state = .active := hs.trans hact
    refine ⟨⟨?_, ?_, ?_, ?_⟩, hl hlanes, by simp [Channel.request]⟩ <;> simp [Channel.request, hact']

theorem lanesOk_queueHead {lane : Lane} {rest : List Job} (h : choiceOf c = .head lane j rest) (hl : LanesOk c) :
    LanesOk (c.withQueue lane rest) ∧ j.lane = lane ∧ (lane = .normal → c.aside = none) := by
  obtain ⟨hn, ha, has, hc⟩ := hl
  unfold choiceOf at h
  split at h
  · rename_i he
    cases h
    rw [he] at ha
    exact ⟨⟨hn, fun k hk => ha k (List.mem_cons_of_mem _ hk), has, hc⟩, ha _ List.mem_cons_self, by simp⟩
  · split at h
    · cases h
    · split at h
      · rename_i hno _ _ _ he
        cases h
        rw [he] at hn
        exact ⟨⟨fun k hk => hn k (List.mem_cons_of_mem _ hk), ha, has, hc⟩, hn _ List.mem_cons_self, fun _ => hno⟩
      · cases h

theorem lanesOk_startHead {lane : Lane} {rest : List Job} (h : choiceOf c = .head lane j rest) (hl : LanesOk c) (k : Job)
    (hk : k.lane = j.lane) : LanesOk ((c.withQueue lane rest).request k) := by
  obtain ⟨⟨hn, ha, has, -⟩, hlane, hno⟩ := lanesOk_queueHead h hl
  refine ⟨hn, ha, has, fun hcur => ?_⟩
  have hnormal : lane = .normal := by
    rw [← hlane, ← hk]
    simpa [currentNormal, Channel.request] using hcur
  have := hno hnormal
  cases lane <;> simpa [Channel.withQueue, Channel.request] using this

theorem withQueue_lengths {lane : Lane} {rest : List Job} (h : queueOf c lane = j :: rest) :
    (c.withQueue lane rest).normal.length ≤ c.normal.length ∧ (c.withQueue lane rest).announce.length ≤ c.announce.length := by
  cases lane <;> simp_all [queueOf, Channel.withQueue]

/-- A channel that chooses: some channel replaces it, with what is reported and unpinned. -/
theorem choose_spec (n : Fin 4) (s : State) : ∃ d r u, choose n s = s.channelled n d r u ∧ Chosen (chan s n) d := by
  induction hq : queued (chan s n) using Nat.strong_induction_on generalizing s with
  | _ k ih =>
    cases hc : choiceOf (chan s n) with
    | nothing =>
      refine ⟨_, _, _, choose_nothing hc, le_rfl, le_rfl, fun _ hcur hl => ?_⟩
      have hnone : (chan s n).announce = [] ∧ (chan s n).aside = none ∧ (chan s n).normal = [] := by
        unfold choiceOf at hc
        split at hc
        · cases hc
        · split at hc
          · cases hc
          · split at hc
            · cases hc
            · exact ⟨‹_›, ‹_›, ‹_›⟩
      obtain ⟨ha, has, hn⟩ := hnone
      exact ⟨⟨fun _ => ⟨by simp [hasWork, hcur, ha, has, hn], rfl⟩, by simp, by simp, by simp⟩, hl, by simp⟩
    | aside j =>
      have haside : (chan s n).aside = some j := by
        unfold choiceOf at hc
        split at hc
        · cases hc
        · split at hc
          · cases hc
            assumption
          · split at hc <;> cases hc
      refine ⟨_, _, _, choose_aside hc, Chosen.request (d := { chan s n with aside := none }) le_rfl le_rfl rfl fun hl => ?_⟩
      obtain ⟨hn, ha, -, -⟩ := hl
      exact ⟨hn, ha, by simp [Channel.request], fun _ => rfl⟩
    | head lane j rest =>
      obtain ⟨hqueue, hlt⟩ := queued_of_head hc
      obtain ⟨hn, ha⟩ := withQueue_lengths hqueue
      have hstate : ((chan s n).withQueue lane rest).state = (chan s n).state := by cases lane <;> rfl
      have hcur : ((chan s n).withQueue lane rest).current = (chan s n).current := by cases lane <;> rfl
      cases hl : portLive s j.panel with
      | true =>
        exact ⟨_, _, _, choose_live hc hl, Chosen.request hn ha hstate fun hlanes => lanesOk_startHead hc hlanes _ rfl⟩
      | false =>
        obtain ⟨d, r, u, hd, hchosen⟩ := ih _ (by rw [← hq, hlt]; exact Nat.lt_succ_self _)
          (s.channelled n (countDiscarded ((chan s n).withQueue lane rest)) [.room lane, .discarded j.panel j.number] (unpinsOf j))
          (by rw [chan_channelled_same]; rfl)
        rw [chan_channelled_same] at hchosen
        refine ⟨d, _, _, (choose_lost hc hl).trans (hd.trans (State.channelled_channelled ..)), hchosen.trans hn ha ?_⟩
        exact fun hs hnone hlanes => ⟨hstate.trans hs, hcur.trans hnone, (lanesOk_queueHead hc hlanes).1⟩

/-! ## Channels that fit their states -/

/-- Channel `n` is as its state says, in a machine whose unit in writing is that of channel `unit`. -/
structure ChanFits (run : Bool) (unit : Option (Fin 4)) (n : Fin 4) (c : Channel) : Prop where
  ok : ChannelOk run c
  lanes : LanesOk c
  writing : c.phase = .writing → unit = some n

theorem channelsOk_iff (s : State) :
    ChannelsOk s ↔ ∀ n, ChanFits s.blc.run (s.blc.unit.map fun u => u.channel) n (chan s n) :=
  ⟨fun h n => ⟨(h n).1, (h n).2.1, (h n).2.2⟩, fun h n => ⟨(h n).ok, (h n).lanes, (h n).writing⟩⟩

/-- One channel replaced: the others fit as before. -/
theorem chanFits_channelled {run : Fin 4 → Bool} {unit : Option (Fin 4)} {r : List FromChannel} {u : List TileRef}
    (h : ∀ m, m ≠ n → ChanFits (run m) unit m (chan s m)) (hd : ChanFits (run n) unit n d) (m : Fin 4) :
    ChanFits (run m) unit m (chan (s.channelled n d r u) m) := by
  by_cases hm : m = n
  · rw [hm, chan_channelled_same]
    exact hd
  · rw [chan_channelled_ne _ _ _ _ _ hm]
    exact h m hm

/-- A channel that runs on without a current job chooses, and then fits its state. -/
theorem chanFits_choose {run : Fin 4 → Bool} {unit : Option (Fin 4)} {r : List FromChannel} {u : List TileRef}
    (h : ∀ m, m ≠ n → ChanFits (run m) unit m (chan s m)) (hrun : run n = true) (hs : d.state = .active) (hc : d.current = none)
    (hl : LanesOk d) (m : Fin 4) : ChanFits (run m) unit m (chan (choose n (s.channelled n d r u)) m) := by
  obtain ⟨e, q, v, he, -, -, hok⟩ := choose_spec n (s.channelled n d r u)
  rw [chan_channelled_same] at hok
  obtain ⟨hok, hlanes, hw⟩ := hok hs hc hl
  rw [he, State.channelled_channelled]
  exact chanFits_channelled h ⟨hrun ▸ hok, hlanes, fun hp => absurd hp hw⟩ m

theorem ChannelsOk.channelled {r : List FromChannel} {u : List TileRef} (h : ChannelsOk s)
    (hd : ChanFits s.blc.run (s.blc.unit.map fun u => u.channel) n d) : ChannelsOk (s.channelled n d r u) :=
  (channelsOk_iff _).2 (chanFits_channelled (run := fun _ => s.blc.run) (fun m _ => (channelsOk_iff s).1 h m) hd)

theorem choose_frame (n : Fin 4) (s : State) : (choose n s).blc.run = s.blc.run ∧ (choose n s).blc.unit = s.blc.unit
    ∧ (choose n s).links.cmpBlc = s.links.cmpBlc := by
  obtain ⟨e, q, v, he, -⟩ := choose_spec n s
  rw [he]
  exact ⟨rfl, rfl, rfl⟩

theorem ChannelsOk.choose {r : List FromChannel} {u : List TileRef} (h : ChannelsOk s) (hrun : s.blc.run = true)
    (hs : d.state = .active) (hc : d.current = none) (hl : LanesOk d) : ChannelsOk (choose n (s.channelled n d r u)) := by
  obtain ⟨hrun', hunit, -⟩ := choose_frame n (s.channelled n d r u)
  rw [channelsOk_iff, hrun', hunit]
  exact chanFits_choose (run := fun _ => s.blc.run) (fun m _ => (channelsOk_iff s).1 h m) hrun hs hc hl

/-! ## Arrivals -/

theorem LanesOk.joined (h : LanesOk c) (j : Job) : LanesOk (c.joined j) := by
  obtain ⟨hn, ha, has, hc⟩ := h
  unfold Channel.joined Channel.withQueue queueOf
  cases hj : j.lane
  · exact ⟨by simpa [or_imp, forall_and, hj] using hn, ha, has, hc⟩
  · exact ⟨hn, by simpa [or_imp, forall_and, hj] using ha, has, hc⟩

theorem hasWork_joined (c : Channel) (j : Job) : hasWork (c.joined j) = true := by
  unfold Channel.joined Channel.withQueue queueOf
  cases j.lane <;> simp [hasWork]

theorem joined_frame (c : Channel) (j : Job) : (c.joined j).state = c.state ∧ (c.joined j).current = c.current
    ∧ (c.joined j).aside = c.aside ∧ (c.joined j).phase = c.phase := by
  unfold Channel.joined Channel.withQueue
  cases j.lane <;> simp

theorem hasWork_false (h : hasWork c = false) : c.current = none ∧ c.aside = none ∧ c.normal = [] ∧ c.announce = [] := by
  simpa [hasWork, and_assoc] using h

/-- The normal job that a channel puts aside, its queues as they are. -/
theorem LanesOk.parked (h : LanesOk c) (hc : currentNormal c = true) (ph : PortPhase) :
    LanesOk { c with aside := c.current, current := none, phase := ph } := by
  obtain ⟨hn, ha, -, -⟩ := h
  refine ⟨hn, ha, fun k hk => ?_, by simp [currentNormal]⟩
  have hk : c.current = some k := hk
  simpa [currentNormal, hk] using hc

theorem ChannelsOk.takeArrival (h : ChannelsOk s) (n : Fin 4) (j : Job) : ChannelsOk (takeArrival n j s) := by
  obtain ⟨⟨hidle, hactive, hstopped, hfault⟩, hlanes, hwriting⟩ := (channelsOk_iff s).1 h n
  obtain ⟨hjs, hjc, hja, hjp⟩ := joined_frame (chan s n) j
  have hjl := hlanes.joined j
  by_cases hi : (chan s n).state = .idle
  · obtain ⟨hwork, hphase⟩ := hidle hi
    obtain ⟨hcur, -, -, -⟩ := hasWork_false hwork
    cases hr : s.blc.run with
    | true =>
      rw [takeArrival_start hi hr]
      exact h.choose hr rfl (hjc.trans hcur) hjl
    | false =>
      rw [takeArrival_stop hi hr]
      have hph : ((chan s n).joined j).phase = .none := hjp.trans hphase
      refine h.channelled ⟨⟨by simp, by simp, fun _ => ⟨hasWork_joined (chan s n) j, hph, hr⟩, by simp⟩, hjl, fun hp => ?_⟩
      exact absurd (hph.symm.trans hp) (by simp)
  · by_cases hy : (chan s n).state = .active ∧ Yields (chan s n) j
    · obtain ⟨ha, hphase, hnormal, hlane⟩ := hy
      obtain ⟨-, -, hrun⟩ := hactive ha
      have hrun : s.blc.run = true := by
        by_contra hr
        exact absurd (hphase.symm.trans (hrun (by simpa using hr))) (by simp)
      rw [takeArrival_yield ha ⟨hphase, hnormal, hlane⟩, ← hjc]
      refine h.choose hrun (hjs.trans ha) rfl (hjl.parked ?_ _)
      rw [currentNormal, hjc]
      exact hnormal
    · rw [takeArrival_wait (fun ha hyes => hy ⟨ha, hyes⟩) hi]
      refine h.channelled ⟨⟨?_, ?_, ?_, ?_⟩, hjl, by rwa [hjp]⟩ <;> rw [hjs]
      · exact fun e => absurd e hi
      · rwa [hjc, hjp]
      · rw [hjp]
        exact fun e => ⟨hasWork_joined _ _, (hstopped e).2⟩
      · rwa [hjc, hjp]

/-! ## Cancels -/

theorem LanesOk.without (h : LanesOk c) (p : Fin 8) : LanesOk (c.without p) := by
  obtain ⟨hn, ha, has, hc⟩ := h
  refine ⟨fun j hj => hn j (List.mem_of_mem_filter hj), fun j hj => ha j (List.mem_of_mem_filter hj), fun j hj => has j ?_, fun hcur => ?_⟩
  · exact (Option.mem_filter_iff.1 hj).1
  · have hcur' : currentNormal c = true := by
      unfold currentNormal Channel.without Channel.abandoning at hcur
      simp only at hcur
      split at hcur
      · next k hk =>
        split at hk
        · cases hk
        · simpa [currentNormal, hk] using hcur
      · cases hcur
    show c.aside.filter _ = none
    rw [hc hcur']
    rfl

theorem without_current (c : Channel) (p : Fin 8) (h : c.cutShort p = none) :
    (c.without p).current = c.current ∧ (c.without p).phase = c.phase := by
  simp [Channel.without, Channel.abandoning, h]

/-- A current job is cut short only outside writing and FAULT. -/
theorem cutShort_some {p : Fin 8} (h : c.cutShort p = some j) : c.current = some j ∧ c.phase ≠ .writing ∧ c.state ≠ .fault := by
  unfold Channel.cutShort Channel.cancelled at h
  simp only [Option.filter_eq_some_iff, bne_iff_ne] at h
  exact ⟨h.1.1.1, h.2, h.1.2⟩

theorem hasWork_without (c : Channel) (p : Fin 8) (h : hasWork c = false) : hasWork (c.without p) = false := by
  obtain ⟨hc, has, hn, ha⟩ := hasWork_false h
  simp [hasWork, Channel.without, Channel.abandoning, hc, has, hn, ha]

theorem ChannelsOk.cancel (h : ChannelsOk s) (n : Fin 4) (p : Fin 8) : ChannelsOk (afterCancel n (cancelJobs n p s)) := by
  obtain ⟨⟨hidle, hactive, hstopped, hfault⟩, hlanes, hwriting⟩ := (channelsOk_iff s).1 h n
  have hl := hlanes.without p
  have hstate : ((chan s n).without p).state = (chan s n).state := rfl
  rw [afterCancel_eq, cancelJobs_eq, chan_channelled_same]
  cases hcut : (chan s n).cutShort p with
  | some j =>
    obtain ⟨hcur, hphase, hnf⟩ := cutShort_some hcut
    have hnone : ((chan s n).without p).current = none := by simp [Channel.without, Channel.abandoning, hcut]
    have hph : ((chan s n).without p).phase = .none := by simp [Channel.without, Channel.abandoning, hcut]
    have hni : (chan s n).state ≠ .idle := fun e => by
      obtain ⟨hno, -⟩ := hasWork_false (hidle e).1
      simp [hno] at hcur
    split_ifs with hgo hstop
    · obtain ⟨-, -, hrun⟩ := hactive hgo.1
      have hrun : s.blc.run = true := by
        by_contra hr
        exact hphase (hrun (by simpa using hr))
      exact h.choose hrun hgo.1 hnone hl
    · rw [State.channelled_channelled]
      exact h.channelled ⟨⟨fun _ => ⟨hstop.2, hph⟩, by simp, by simp, by simp⟩, hl, fun hp => by simp [hph] at hp⟩
    · refine h.channelled ⟨⟨fun e => absurd e hni, fun e => absurd ⟨e, hnone⟩ hgo, fun e => ⟨?_, hph, (hstopped e).2.2⟩,
        fun e => absurd e hnf⟩, hl, fun hp => by simp [hph] at hp⟩
      by_contra hw
      exact hstop ⟨e, by simpa using hw⟩
  | none =>
    obtain ⟨hcur, hphase⟩ := without_current (chan s n) p hcut
    split_ifs with hgo hstop
    · obtain ⟨hsome, -⟩ := hactive hgo.1
      rw [← hcur, hgo.2] at hsome
      cases hsome
    · rw [State.channelled_channelled]
      have hph : ((chan s n).without p).phase = .none := hphase.trans (hstopped hstop.1).2.1
      exact h.channelled ⟨⟨fun _ => ⟨hstop.2, hph⟩, by simp, by simp, by simp⟩, hl, fun hp => by simp [hph] at hp⟩
    · refine h.channelled ⟨⟨fun e => ⟨hasWork_without _ p (hidle e).1, hphase.trans (hidle e).2⟩, ?_,
        fun e => ⟨?_, hphase.trans (hstopped e).2.1, (hstopped e).2.2⟩, ?_⟩, hl, by rwa [hphase]⟩
      · rwa [hcur, hphase]
      · by_contra hw
        exact hstop ⟨e, by simpa using hw⟩
      · rwa [hcur, hphase]

end Channels

end Sys2Proof.Machine
end

section
/-! PROOFS. The channels stay as their states say, under every command; and the jobs in and on their way to a queue fit it (R112, R133). -/

namespace Sys2Proof.Machine

section Channels

variable {n : Fin 4} {s t : State} {c d : Channel} {j : Job}

theorem channelsOk_of_eq (h : ChannelsOk s) (hc : t.blc.channels = s.blc.channels) (hr : t.blc.run = s.blc.run)
    (hu : t.blc.unit.map (fun u => u.channel) = s.blc.unit.map fun u => u.channel) : ChannelsOk t := by
  unfold ChannelsOk
  rw [hc, hr, hu]
  exact h

theorem channelsOk_restsOn : RestsOn [.blc, .unit] ChannelsOk := fun s t h hs => by
  have hb := h .blc (by simp)
  have hu : t.blc.unit = s.blc.unit := h .unit (by simp)
  refine channelsOk_of_eq hs ?_ ?_ (congrArg _ hu) <;> simp_all [Part.same]

/-! ## The unit boundary -/

theorem LanesOk.atBoundary (h : LanesOk c) (p : Fin 8) (hc : c.current = some j) : LanesOk (c.atBoundary p j) := by
  obtain ⟨hn, ha, has, hno⟩ := h
  refine ⟨hn, ha, has, fun hcur => hno ?_⟩
  unfold currentNormal Channel.atBoundary at hcur
  simp only at hcur
  split at hcur
  · next i hi =>
    split at hi
    · cases hi
    · cases hi
      simpa [currentNormal, hc] using hcur
  · cases hcur

/-- A channel that stops, or is IDLE without work. -/
theorem chanFits_stopped {unit : Option (Fin 4)} (hl : LanesOk c) :
    ChanFits false unit n { c with state := if hasWork c then .stopped else .idle, phase := .none } := by
  cases hw : hasWork c with
  | true => exact ⟨⟨by simp, by simp, fun _ => ⟨hw, rfl, rfl⟩, by simp⟩, hl, by simp⟩
  | false => exact ⟨⟨fun _ => ⟨hw, rfl⟩, by simp, by simp, by simp⟩, hl, by simp⟩

/-- A running channel whose unit has ended stops, yields, goes on with its job or chooses another, and fits its state. -/
theorem ChannelsOk.boundary (hothers : ∀ m, m ≠ n → ChanFits s.blc.run none m (chan s m)) (hu : s.blc.unit = none)
    (hj : c.current = some j) (hs : c.state = .active) (hl : LanesOk c) (p : Fin 8) :
    ChannelsOk (boundary n p (s.channelled n c [] [])) := by
  have hcur : (chan (s.channelled n c [] []) n).current = some j := by rwa [chan_channelled_same]
  have hl' := hl.atBoundary p hj
  have hs' : (c.atBoundary p j).state = .active := hs
  rw [Machine.boundary, cancelStep_completeStep hcur, State.channelled_channelled, chan_channelled_same, channelled_run]
  generalize c.atBoundary p j = d at hl' hs'
  generalize [] ++ c.boundaryReports j = r
  generalize [] ++ c.boundaryUnpins j = u
  have hd : chan (s.channelled n d r u) n = d := chan_channelled_same ..
  split
  · next hr =>
    by_cases hy : currentNormal d = true ∧ d.announce ≠ []
    · obtain ⟨hn, ha⟩ := hy
      rw [nextStep_yield (by rwa [hd]) (by rwa [hd]), State.channelled_channelled, hd, channelsOk_iff, (choose_frame _ _).1,
        (choose_frame _ _).2.1, channelled_unit, hu]
      exact chanFits_choose (run := fun _ => s.blc.run) hothers hr hs' rfl (hl'.parked hn _)
    · cases hk : d.current with
      | none =>
        rw [nextStep_choose (by rwa [hd]), channelsOk_iff, (choose_frame _ _).1, (choose_frame _ _).2.1, channelled_unit, hu]
        exact chanFits_choose (run := fun _ => s.blc.run) hothers hr hs' hk hl'
      | some i =>
        rw [nextStep_more (j := i) (by rwa [hd]) (by rwa [hd]), State.channelled_channelled, hd, channelsOk_iff, channelled_unit, hu]
        refine chanFits_channelled (run := fun _ => s.blc.run) hothers ⟨⟨?_, fun _ => ⟨?_, by simp, by simp [hr]⟩, ?_, ?_⟩, hl', by simp⟩
        · simp [hs']
        · exact congrArg Option.isSome hk
        · simp [hs']
        · simp [hs']
  · next hr =>
    rw [Bool.not_eq_true] at hr
    rw [stopStep_eq, State.channelled_channelled, hd, channelsOk_iff, channelled_unit, hu]
    refine chanFits_channelled (run := fun _ => s.blc.run) hothers ?_
    simp only [hr]
    exact chanFits_stopped hl'

/-- A channel whose unit is in writing is ACTIVE, with a job. -/
theorem ChanFits.active_of_writing {run : Bool} {unit : Option (Fin 4)} (h : ChanFits run unit n c) (hw : c.phase = .writing) :
    c.state = .active ∧ ∃ j, c.current = some j := by
  obtain ⟨hidle, hactive, hstopped, hfault⟩ := h.ok
  have hact : c.state = .active := by
    cases hst : c.state with
    | active => rfl
    | idle => exact absurd ((hidle hst).2.symm.trans hw) (by simp)
    | stopped => exact absurd ((hstopped hst).2.1.symm.trans hw) (by simp)
    | fault => exact absurd ((hfault hst).2.symm.trans hw) (by simp)
  exact ⟨hact, Option.isSome_iff_exists.1 (hactive hact).1⟩

theorem LanesOk.advanceDone (h : LanesOk c) (k : Nat) : LanesOk (advanceDone k c) := by
  obtain ⟨hn, ha, has, hno⟩ := h
  refine ⟨hn, ha, has, fun e => hno ?_⟩
  unfold currentNormal Machine.advanceDone countUnit at e
  unfold currentNormal
  cases hc : c.current <;> simp_all

theorem channelsOk_unitWritten (h : ChannelsOk s) : ChannelsOk (doUnitWritten s) := by
  have hfits := (channelsOk_iff s).1 h
  unfold doUnitWritten
  split
  · exact h
  · rename_i u hu
    have hothers (m : Fin 4) (hm : m ≠ u.channel) : ChanFits s.blc.run none m (chan s m) := by
      refine ⟨(hfits m).ok, (hfits m).lanes, fun hp => ?_⟩
      have := (hfits m).writing hp
      rw [hu, Option.map_some, Option.some_inj] at this
      exact absurd this.symm hm
    dsimp only
    split
    · next hw =>
      obtain ⟨hact, j, hj⟩ := (hfits u.channel).active_of_writing hw
      rw [setChan_eq]
      refine ChannelsOk.boundary (s := writeUnit u s) (n := u.channel) (c := advanceDone u.cells.length (chan s u.channel))
        (j := { j with done := j.done + u.cells.length }) hothers rfl ?_ hact ((hfits u.channel).lanes.advanceDone _) u.panel
      show (chan s u.channel).current.map _ = _
      rw [hj]
      rfl
    · next hw =>
      rw [channelsOk_iff]
      intro m
      by_cases hm : m = u.channel
      · subst hm
        exact ⟨(hfits _).ok, (hfits _).lanes, fun hp => absurd hp hw⟩
      · exact hothers m hm

/-! ## The grant, entry-free notices, settings and resets -/

theorem granted_requests {b : Blc} (h : granted b = some n) :
    (b.channels.get n).state = .active ∧ (b.channels.get n).phase = .requesting := by
  have hreq : ∃ lane, requests (b.channels.get n) lane = true := by
    rcases (granted_some b n).1 h with ⟨h, -⟩ | ⟨-, h, -⟩
    · exact ⟨_, h⟩
    · exact ⟨_, h⟩
  obtain ⟨lane, hreq⟩ := hreq
  simp only [requests, Bool.and_eq_true, beq_iff_eq] at hreq
  exact hreq.1

theorem channelsOk_unitGrant (h : ChannelsOk s) : ChannelsOk (doUnitGrant s) := by
  have hfits := (channelsOk_iff s).1 h
  unfold doUnitGrant
  split
  · rename_i n hu hg
    obtain ⟨hact, hreq⟩ := granted_requests hg
    obtain ⟨⟨-, hactive, -, -⟩, hlanes, -⟩ := hfits n
    obtain ⟨hcur, -, hrun⟩ := hactive hact
    have hrun : s.blc.run = true := by
      by_contra hr
      exact absurd (hreq.symm.trans (hrun (by simpa using hr))) (by simp)
    have hnone (m : Fin 4) (unit : Option (Fin 4)) : ChanFits s.blc.run unit m (chan s m) := by
      refine ⟨(hfits m).ok, (hfits m).lanes, fun hp => ?_⟩
      have := (hfits m).writing hp
      rw [hu] at this
      cases this
    have hat : (chan s n).state = .active := hact
    split
    · rename_i j hj
      unfold grantUnit
      dsimp only
      split
      · rw [beginUnit, setChan_eq, channelsOk_iff]
        intro m
        refine chanFits_channelled (s := s.withBlc { s.blc with lastGranted := n }) (run := fun _ => s.blc.run) (r := []) (u := [])
          (fun m _ => hnone m (some n)) (n := n) (d := { chan s n with phase := .writing })
          ⟨⟨by simp [hat], fun _ => ⟨hcur, by simp, fun _ => rfl⟩, by simp [hat], by simp [hat]⟩, hlanes, fun _ => rfl⟩ m
      · rename_i r _
        rw [failUnit, setChan_eq]
        refine channelsOk_restsOn.keeps (w := [.links])
          (s := (s.withBlc { s.blc with lastGranted := n }).channelled n ((chan s n).fail r j) [] []) ?_ (by decide) ?_
        · simp [chan]
        · exact ChannelsOk.channelled h
            ⟨⟨by simp [Channel.fail, countFault], by simp [Channel.fail, countFault], by simp [Channel.fail, countFault],
              fun _ => ⟨hcur, rfl⟩⟩, hlanes, by simp [Channel.fail, countFault]⟩
    · exact h
  · exact h

theorem blankJob_lane (e : Fin 24) (j : Job) : (blankJob e j).lane = j.lane := by
  unfold blankJob
  split <;> rfl

theorem ChanFits.blank {run : Bool} {unit : Option (Fin 4)} (h : ChanFits run unit n c) (e : Fin 24) : ChanFits run unit n (c.blank e) := by
  obtain ⟨⟨hidle, hactive, hstopped, hfault⟩, ⟨hn, ha, has, hno⟩, hw⟩ := h
  have hcur : (c.blank e).current.isSome = c.current.isSome := Option.isSome_map
  have hwork : hasWork (c.blank e) = hasWork c := by simp [hasWork, Channel.blank]
  refine ⟨⟨?_, ?_, ?_, ?_⟩, ⟨hn, ha, fun j hj => ?_, fun hc => ?_⟩, hw⟩
  · rw [hwork]
    exact hidle
  · rw [hcur]
    exact hactive
  · rw [hwork]
    exact hstopped
  · rw [hcur]
    exact hfault
  · obtain ⟨k, hk, rfl⟩ := Option.map_eq_some_iff.1 hj
    rw [blankJob_lane]
    exact has k hk
  · have : currentNormal c = true := by
      unfold currentNormal Channel.blank at hc
      unfold currentNormal
      cases hj : c.current <;> simp_all [blankJob_lane]
    simp [Channel.blank, hno this]

theorem channelsOk_entryFreeNotice (h : ChannelsOk s) : ChannelsOk (doEntryFreeNotice s) := by
  have hfits := (channelsOk_iff s).1 h
  unfold doEntryFreeNotice
  split
  · exact h
  · rename_i e rest _
    have hunit : (s.blc.unit.map (blankUnit e s.blc)).map (fun u => u.channel) = s.blc.unit.map fun u => u.channel := by
      cases s.blc.unit with
      | none => rfl
      | some u =>
        simp only [Option.map_some, blankUnit]
        split <;> rfl
    rw [channelsOk_iff]
    intro m
    simp only [State.withBlc_blc, State.withLinks_blc, hunit, chan, Tab.get_map]
    exact (hfits m).blank e

theorem chanFits_stop {unit : Option (Fin 4)} {run : Bool} (h : ChanFits run unit n c) : ChanFits false unit n c.stop := by
  obtain ⟨⟨hidle, hactive, hstopped, hfault⟩, hlanes, hw⟩ := h
  unfold Channel.stop
  split
  · next hs =>
    obtain ⟨hcur, -, -⟩ := hactive hs.1
    exact ⟨⟨by simp, by simp, fun _ => ⟨by simp [hasWork, hcur], rfl, rfl⟩, by simp⟩, hlanes, by simp⟩
  · next hs =>
    refine ⟨⟨hidle, fun ha => ?_, fun hst => ?_, hfault⟩, hlanes, hw⟩
    · obtain ⟨hcur, hph, -⟩ := hactive ha
      exact ⟨hcur, hph, fun _ => by_contra fun hp => hs ⟨ha, hp⟩⟩
    · obtain ⟨hwork, hph, -⟩ := hstopped hst
      exact ⟨hwork, hph, rfl⟩

theorem resumeChannel_eq (n : Fin 4) (s : State) : resumeChannel n s =
    if (chan s n).state = .stopped then
      if (chan s n).current.isSome then s.channelled n { chan s n with state := .active, phase := .requesting } [] []
      else choose n (s.channelled n { chan s n with state := .active } [] [])
    else s := by
  unfold resumeChannel
  split
  · cases hj : (chan s n).current <;> simp [setChan_eq, hj]
  · rfl

/-- A STOPPED channel resumes, and fits a machine that runs. -/
theorem chanFits_resume {run : Fin 4 → Bool} {unit : Option (Fin 4)} (h : ∀ m, ChanFits (run m) unit m (chan s m)) (m : Fin 4) :
    ChanFits (Function.update run n true m) unit m (chan (resumeChannel n s) m) := by
  obtain ⟨⟨hidle, hactive, hstopped, hfault⟩, hlanes, hw⟩ := h n
  have hothers (m : Fin 4) (hm : m ≠ n) : ChanFits (Function.update run n true m) unit m (chan s m) := by
    rw [Function.update_of_ne hm]
    exact h m
  have htrue : Function.update run n true n = true := Function.update_self ..
  rw [resumeChannel_eq]
  split_ifs with hst hj
  · refine chanFits_channelled (run := Function.update run n true) hothers ?_ m
    rw [htrue]
    exact ⟨⟨by simp, fun _ => ⟨hj, by simp, by simp⟩, by simp, by simp⟩, hlanes, by simp⟩
  · exact chanFits_choose (run := Function.update run n true) (d := { chan s n with state := .active }) hothers htrue rfl
      (by simpa using hj) hlanes m
  · by_cases hm : m = n
    · subst hm
      rw [htrue]
      refine ⟨⟨hidle, fun ha => ?_, fun e => absurd e hst, hfault⟩, hlanes, hw⟩
      obtain ⟨hcur, hph, -⟩ := hactive ha
      exact ⟨hcur, hph, by simp⟩
    · exact hothers m hm

theorem resumeChannel_frame (n : Fin 4) (s : State) :
    (resumeChannel n s).blc.run = s.blc.run ∧ (resumeChannel n s).blc.unit = s.blc.unit := by
  rw [resumeChannel_eq]
  split_ifs
  · exact ⟨rfl, rfl⟩
  · obtain ⟨hr, hu, -⟩ := choose_frame n (s.channelled n { chan s n with state := .active } [] [])
    exact ⟨hr, hu⟩
  · exact ⟨rfl, rfl⟩

theorem foldl_resume {run : Fin 4 → Bool} {unit : Option (Fin 4)} (l : List (Fin 4)) (h : ∀ m, ChanFits (run m) unit m (chan s m)) :
    (∀ m, ChanFits (if m ∈ l then true else run m) unit m (chan (l.foldl (fun s n => resumeChannel n s) s) m))
    ∧ (l.foldl (fun s n => resumeChannel n s) s).blc.run = s.blc.run
    ∧ (l.foldl (fun s n => resumeChannel n s) s).blc.unit = s.blc.unit := by
  induction l generalizing s run with
  | nil => exact ⟨by simpa using h, rfl, rfl⟩
  | cons n l ih =>
    obtain ⟨hfits, hr, hu⟩ := ih (s := resumeChannel n s) (chanFits_resume (n := n) h)
    obtain ⟨hr', hu'⟩ := resumeChannel_frame n s
    refine ⟨fun m => ?_, hr.trans hr', hu.trans hu'⟩
    have hm : (if m ∈ n :: l then true else run m) = if m ∈ l then true else Function.update run n true m := by
      by_cases h1 : m ∈ l <;> by_cases h2 : m = n <;> simp [h1, h2]
    rw [hm]
    exact hfits m

theorem channelsOk_run (b : Bool) (h : ChannelsOk s) : ChannelsOk (applyRun b s) := by
  have hfits := (channelsOk_iff s).1 h
  unfold applyRun
  split_ifs with hb hon
  · exact h
  · obtain ⟨hall, hr, hu⟩ := foldl_resume (s := s.withBlc { s.blc with run := true }) (run := fun _ => s.blc.run) (fins 4) hfits
    rw [channelsOk_iff, hr, hu]
    intro m
    have hm : m ∈ fins 4 := List.mem_finRange m
    have := hall m
    rwa [if_pos hm] at this
  · rw [channelsOk_iff]
    intro m
    simp only [State.withBlc_blc, chan, Tab.get_map]
    exact chanFits_stop (hfits m)

theorem LanesOk.ended (h : LanesOk c) : LanesOk { c with current := none } := by
  obtain ⟨hn, ha, has, -⟩ := h
  exact ⟨hn, ha, has, by simp [currentNormal]⟩

theorem channelsOk_leaveFault (hothers : ∀ m, m ≠ n → ChanFits s.blc.run (s.blc.unit.map fun u => u.channel) m (chan s m))
    (hc : c.current = none) (hl : LanesOk c) (r : List FromChannel) (u : List TileRef) :
    ChannelsOk (leaveFault n (s.channelled n c r u)) := by
  unfold leaveFault
  rw [setChan_eq, State.channelled_channelled, chan_channelled_same]
  dsimp only
  split
  · next hr =>
    rw [setChan_eq, State.channelled_channelled, chan_channelled_same, channelsOk_iff, (choose_frame _ _).1, (choose_frame _ _).2.1]
    exact chanFits_choose (run := fun _ => s.blc.run) hothers hr rfl hc hl
  · next hr =>
    have hr : s.blc.run = false := by simpa using hr
    rw [stopStep_eq, State.channelled_channelled, chan_channelled_same, channelsOk_iff]
    refine chanFits_channelled (run := fun _ => s.blc.run) hothers ?_
    simp only [hr]
    exact chanFits_stopped hl

theorem endFaulted_eq (n : Fin 4) (j : Job) (s : State) : endFaulted n j s
    = s.channelled n (countCleared { chan s n with current := none }) [.cleared j.panel j.number] (unpinsOf j) := by
  simp [endFaulted, setChan_eq, reportJob_eq, State.channelled_channelled]

theorem channelsOk_clear (n : Fin 4) (h : ChannelsOk s) : ChannelsOk (clearChannel n s) := by
  have hfits := (channelsOk_iff s).1 h
  unfold clearChannel
  split
  · next hf =>
    obtain ⟨⟨-, -, -, hfault⟩, hlanes, -⟩ := hfits n
    split
    · next j hj =>
      rw [endFaulted_eq, cancelJobs_eq, State.channelled_channelled, chan_channelled_same]
      have hcut : (countCleared { chan s n with current := none }).cutShort j.panel = none := by
        simp [Channel.cutShort, Channel.cancelled, countCleared]
      have hl : LanesOk (countCleared { chan s n with current := none }) := hlanes.ended
      have hcur : (countCleared { chan s n with current := none }).current = none := rfl
      generalize countCleared { chan s n with current := none } = d at hcut hl hcur
      exact channelsOk_leaveFault (fun m _ => hfits m) ((without_current d _ hcut).1.trans hcur) (hl.without _) _ _
    · next hj =>
      have := channelsOk_leaveFault (n := n) (fun m _ => hfits m) hj hlanes [] []
      rwa [channelled_self] at this
  · exact h

theorem chanFits_idle (run : Bool) (unit : Option (Fin 4)) (k : ChanCounts) : ChanFits run unit n (Channel.idle k) :=
  ⟨⟨by simp [Channel.idle, hasWork], by simp [Channel.idle], by simp [Channel.idle], by simp [Channel.idle]⟩,
    ⟨by simp [Channel.idle], by simp [Channel.idle], by simp [Channel.idle], by simp [Channel.idle]⟩, by simp [Channel.idle]⟩

theorem channelsOk_resetTake (b : Block) (h : ChannelsOk s) : ChannelsOk (doResetTake b s) := by
  refine channelsOk_restsOn.resetTake (by decide) (fun all u hu => ?_) h
  cases b with
  | blc =>
    rw [channelsOk_iff]
    intro m
    cases all with
    | false =>
      have : chan (resetBlock .blc false u) m = Channel.idle (chan u m).counts := by simp [resetBlock, Blc.onReset, chan]
      rw [this]
      exact chanFits_idle ..
    | true =>
      have : chan (resetBlock .blc true u) m = Channel.idle ⟨0, 0, 0, 0, 0, 0⟩ := by simp [resetBlock, Blc.onReset, chan, Blc.reset]
      rw [this]
      exact chanFits_idle ..
  | _ => exact channelsOk_restsOn.keeps (resetBlock_keeps _ all u) (of_decide_eq_true rfl) hu

theorem channelsOk_exec (c : Instr) (s t : State) (h : ChannelsOk s) (hc : exec c s = .next t) : ChannelsOk t := by
  have hfifo (s : State) (h : ChannelsOk s) (x : Taken) (rest : List Taken) (_ : s.tif.fifo = x :: rest) :
    ChannelsOk (s.withFifo rest) := h
  cases c with
  | jobArrival n =>
    refine running_preserves (fun _ h => ?_) h hc
    unfold doJobArrival
    split
    · exact ChannelsOk.takeArrival (s := s.withRequests n _) h n _
    · exact h
  | jobCancel n =>
    refine running_preserves (fun _ h => ?_) h hc
    unfold doJobCancel
    split
    · exact ChannelsOk.cancel (s := s.withRequests n _) h n _
    · exact h
  | unitWritten => exact running_preserves (fun _ => channelsOk_unitWritten) h hc
  | unitGrant => exact running_preserves (fun _ => channelsOk_unitGrant) h hc
  | entryFreeNotice => exact running_preserves (fun _ => channelsOk_entryFreeNotice) h hc
  | setArbitration =>
    refine running_preserves (fun _ h => deliver_set_preserves h (hfifo s h) fun _ v u hu => ?_) h hc
    unfold takeArbitration
    split
    · exact hu
    · exact channelsOk_restsOn.keeps (w := [.links]) (by simp) (by decide) hu
  | setChannelsRun =>
    refine running_preserves (fun _ h => deliver_set_preserves h (hfifo s h) fun _ v u hu => ?_) h hc
    unfold takeRun
    split
    · exact channelsOk_run _ hu
    · exact channelsOk_restsOn.keeps (w := [.links]) (by simp) (by decide) hu
  | setChannelClear =>
    refine running_preserves (fun _ h => deliver_set_preserves h (hfifo s h) fun k _ u hu => ?_) h hc
    unfold takeChannelClear
    split
    · exact channelsOk_clear _ hu
    · exact channelsOk_restsOn.keeps (w := [.links]) (by simp) (by decide) hu
  | resetTake b => exact running_preserves (fun _ => channelsOk_resetTake b) h hc
  | pinReset =>
    cases hc
    rw [channelsOk_iff]
    intro m
    have : (Blc.reset.channels.get m) = Channel.idle ⟨0, 0, 0, 0, 0, 0⟩ := Tab.get_fill ..
    show ChanFits _ _ m (Blc.reset.channels.get m)
    rw [this]
    exact chanFits_idle ..
  | _ => exact channelsOk_restsOn.exec hc (of_decide_eq_true rfl) h

end Channels

end Sys2Proof.Machine
end

section
/-! PROOFS. The jobs in and on their way to a channel's queues fit them (R112, R133, R134). -/

namespace Sys2Proof.Machine

/-- The jobs of a lane in a channel's queue and on their way to it. -/
def load (s : State) (n : Fin 4) (lane : Lane) : Nat :=
  (queueOf (chan s n) lane).length + jobsInFlight (s.links.cmpBlc.get n) lane

theorem jobsFit_iff (s : State) : JobsFit s ↔ ∀ n lane, load s n lane ≤ queueDepth lane :=
  ⟨fun h n lane => by cases lane; exacts [(h n).1, (h n).2], fun h n => ⟨h n .normal, h n .announce⟩⟩

/-- No channel of `t` has a larger load than that of `s`. -/
def Lighter (s t : State) : Prop := ∀ n lane, load t n lane ≤ load s n lane

section Loads

variable {s t u : State}

theorem Lighter.jobsFit (h : Lighter s t) (hs : JobsFit s) : JobsFit t :=
  (jobsFit_iff t).2 fun n lane => (h n lane).trans ((jobsFit_iff s).1 hs n lane)

theorem Lighter.refl (s : State) : Lighter s s := fun _ _ => le_rfl

theorem Lighter.trans (h : Lighter s t) (k : Lighter t u) : Lighter s u := fun n lane => (k n lane).trans (h n lane)

theorem Lighter.after (k : Lighter t u) (h : Lighter s t) : Lighter s u := h.trans k

theorem jobsFit_restsOn : RestsOn [.blc, .cmpBlc] JobsFit := fun s t h hs => by
  have hb := h .blc (by simp)
  have hl : t.links.cmpBlc = s.links.cmpBlc := h .cmpBlc (by simp)
  have hc : t.blc.channels = s.blc.channels := by simp_all [Part.same]
  unfold JobsFit
  rw [hl, hc]
  exact hs

/-! ## What the channels do -/

theorem lighter_of_channels (hl : t.links.cmpBlc = s.links.cmpBlc)
    (hn : ∀ n, (chan t n).normal.length ≤ (chan s n).normal.length)
    (ha : ∀ n, (chan t n).announce.length ≤ (chan s n).announce.length) : Lighter s t := fun n lane => by
  unfold load
  rw [hl]
  cases lane with
  | normal => exact Nat.add_le_add_right (hn n) _
  | announce => exact Nat.add_le_add_right (ha n) _

theorem lighter_channelled {n : Fin 4} {d : Channel} {r : List FromChannel} {v : List TileRef}
    (hn : d.normal.length ≤ (chan s n).normal.length) (ha : d.announce.length ≤ (chan s n).announce.length) :
    Lighter s (s.channelled n d r v) := by
  refine lighter_of_channels rfl (fun m => ?_) (fun m => ?_)
  all_goals
    by_cases hm : m = n
    · subst hm
      simpa
    · rw [chan_channelled_ne _ _ _ _ _ hm]

theorem lighter_setChan {n : Fin 4} {f : Channel → Channel} (hn : (f (chan s n)).normal.length ≤ (chan s n).normal.length)
    (ha : (f (chan s n)).announce.length ≤ (chan s n).announce.length) : Lighter s (setChan n f s) := by
  rw [setChan_eq]
  exact lighter_channelled hn ha

theorem lighter_abandon (n : Fin 4) (j : Job) (s : State) : Lighter s (abandon n j s) := by
  rw [abandon_eq]
  exact lighter_channelled le_rfl le_rfl

theorem lighter_choose (n : Fin 4) (s : State) : Lighter s (choose n s) := by
  obtain ⟨d, r, v, he, hn, ha, -⟩ := choose_spec n s
  rw [he]
  exact lighter_channelled hn ha

theorem lighter_cancelJobs (n : Fin 4) (p : Fin 8) (s : State) : Lighter s (cancelJobs n p s) := by
  rw [cancelJobs_eq]
  exact lighter_channelled (List.length_filter_le ..) (List.length_filter_le ..)

theorem lighter_cancel (n : Fin 4) (p : Fin 8) (s : State) : Lighter s (afterCancel n (cancelJobs n p s)) := by
  refine (lighter_cancelJobs n p s).trans ?_
  rw [afterCancel_eq]
  split_ifs
  · exact lighter_choose n _
  · exact lighter_channelled le_rfl le_rfl
  · exact .refl _

theorem lighter_yieldNow (n : Fin 4) (s : State) : Lighter s (yieldNow n s) :=
  (lighter_choose n _).after (lighter_setChan le_rfl le_rfl)

theorem lighter_boundary (n : Fin 4) (p : Fin 8) (s : State) : Lighter s (boundary n p s) := by
  have hcomplete (u : State) : Lighter u (completeStep n u) := by
    unfold completeStep
    split
    · split
      · rw [setChan_eq, reportJob_eq, State.channelled_channelled, chan_channelled_same]
        exact lighter_channelled le_rfl le_rfl
      · exact .refl u
    · exact .refl u
  have hcancel (u : State) : Lighter u (cancelStep n p u) := by
    unfold cancelStep
    dsimp only
    split
    · split
      · exact (lighter_abandon n _ _).after ((lighter_setChan le_rfl le_rfl).after (lighter_setChan le_rfl le_rfl))
      · exact lighter_setChan le_rfl le_rfl
    · exact lighter_setChan le_rfl le_rfl
  have hnext (u : State) : Lighter u (nextStep n u) := by
    unfold nextStep
    dsimp only
    split
    · exact lighter_yieldNow n u
    · split
      · exact lighter_setChan le_rfl le_rfl
      · exact lighter_choose n u
  have hstop (u : State) : Lighter u (stopStep n u) := lighter_setChan le_rfl le_rfl
  unfold boundary
  dsimp only
  refine ((hcomplete s).trans (hcancel _)).trans ?_
  split
  · exact hnext _
  · exact hstop _

theorem lighter_unitWritten (s : State) : Lighter s (doUnitWritten s) := by
  unfold doUnitWritten
  split
  · exact .refl s
  · rename_i u _
    have hwrite : Lighter s (writeUnit u s) := lighter_of_channels rfl (fun _ => le_rfl) (fun _ => le_rfl)
    dsimp only
    split
    · exact (lighter_boundary _ _ _).after ((lighter_setChan le_rfl le_rfl).after hwrite)
    · exact hwrite

theorem lighter_unitGrant (s : State) : Lighter s (doUnitGrant s) := by
  unfold doUnitGrant
  split
  · split
    · rename_i n _ _ _ j _
      unfold grantUnit
      dsimp only
      have hgrant : Lighter s (s.withBlc { s.blc with lastGranted := n }) :=
        lighter_of_channels rfl (fun _ => le_rfl) (fun _ => le_rfl)
      refine hgrant.trans ?_
      split
      · rw [beginUnit, setChan_eq]
        exact (lighter_channelled (n := n) (d := { chan s n with phase := .writing }) (r := []) (v := []) le_rfl le_rfl).trans
          (lighter_of_channels rfl (fun _ => le_rfl) (fun _ => le_rfl))
      · rename_i r _
        rw [failUnit, setChan_eq]
        exact (lighter_channelled (n := n) (d := (chan s n).fail r j) (r := []) (v := []) le_rfl le_rfl).trans
          (lighter_of_channels rfl (fun _ => le_rfl) (fun _ => le_rfl))
    · exact .refl s
  · exact .refl s

theorem lighter_resume (n : Fin 4) (s : State) : Lighter s (resumeChannel n s) := by
  unfold resumeChannel
  split
  · split
    · exact lighter_setChan le_rfl le_rfl
    · exact (lighter_choose n _).after (lighter_setChan le_rfl le_rfl)
  · exact .refl s

theorem lighter_run (b : Bool) (s : State) : Lighter s (applyRun b s) := by
  unfold applyRun
  split_ifs
  · exact .refl s
  · exact foldl_preserves (I := Lighter s) (fins 4) (fun n _ u hu => hu.trans (lighter_resume n u))
      (lighter_of_channels rfl (fun _ => le_rfl) (fun _ => le_rfl))
  · have hstop (c : Channel) : c.stop.normal = c.normal ∧ c.stop.announce = c.announce := by
      unfold Channel.stop
      split <;> exact ⟨rfl, rfl⟩
    refine lighter_of_channels rfl (fun n => ?_) (fun n => ?_)
    · simp [chan, (hstop _).1]
    · simp [chan, (hstop _).2]

theorem lighter_clear (n : Fin 4) (s : State) : Lighter s (clearChannel n s) := by
  have hstop (u : State) : Lighter u (stopStep n u) := lighter_setChan le_rfl le_rfl
  have hleave (u : State) : Lighter u (leaveFault n u) := by
    unfold leaveFault
    dsimp only
    split
    · exact (lighter_choose n _).after ((lighter_setChan le_rfl le_rfl).after (lighter_setChan le_rfl le_rfl))
    · exact (hstop _).after (lighter_setChan le_rfl le_rfl)
  unfold clearChannel
  split
  · split
    · rw [endFaulted_eq]
      exact (hleave _).after ((lighter_cancelJobs n _ _).after (lighter_channelled le_rfl le_rfl))
    · exact hleave s
  · exact .refl s

/-- A request taken from the link, and its job at the end of its queue, or gone. -/
theorem jobsInFlight_cons (x : ToChannel) (l : List ToChannel) (lane : Lane) :
    jobsInFlight (x :: l) lane = jobsInFlight [x] lane + jobsInFlight l lane := by
  unfold jobsInFlight
  rw [← List.length_append, ← List.filter_append]
  rfl

theorem jobsInFlight_job (j : Job) (lane : Lane) : jobsInFlight [.job j] lane = if j.lane = lane then 1 else 0 := by
  by_cases h : j.lane = lane <;> simp [jobsInFlight, h]

theorem lighter_jobCancel (n : Fin 4) (s : State) : Lighter s (doJobCancel n s) := by
  unfold doJobCancel
  split
  · rename_i p rest h
    refine Lighter.trans (t := s.withRequests n rest) (fun m lane => ?_) (lighter_cancel n p _)
    show _ + jobsInFlight ((s.links.cmpBlc.set n rest).get m) lane ≤ _ + _
    refine Nat.add_le_add_left ?_ _
    rw [Tab.get_set]
    split
    · next e =>
      subst e
      rw [h, jobsInFlight_cons]
      exact Nat.le_add_left ..
    · exact le_rfl
  · exact .refl s

theorem lighter_takeArrival (n : Fin 4) (j : Job) (s : State) : Lighter (enqueue n j s) (takeArrival n j s) := by
  unfold takeArrival
  dsimp only
  split
  · split
    · exact (lighter_choose n _).after (lighter_setChan le_rfl le_rfl)
    · exact lighter_setChan le_rfl le_rfl
  · split
    · exact lighter_yieldNow n _
    · exact .refl _
  · exact .refl _

theorem lighter_jobArrival (n : Fin 4) (s : State) : Lighter s (doJobArrival n s) := by
  unfold doJobArrival
  split
  · rename_i j rest h
    refine Lighter.trans (t := enqueue n j (s.withRequests n rest)) (fun m lane => ?_) (lighter_takeArrival n j _)
    rw [enqueue, setChan_eq]
    unfold load
    by_cases hm : m = n
    · subst hm
      have hcm : (s.withRequests m rest).links.cmpBlc.get m = rest := by simp [State.withRequests]
      have hqueue : (queueOf ((chan s m).joined j) lane).length = (queueOf (chan s m) lane).length + if j.lane = lane then 1 else 0 := by
        cases hj : j.lane <;> cases lane <;> simp [Channel.joined, Channel.withQueue, queueOf, hj]
      rw [chan_channelled_same, channelled_cmpBlc, hcm, h, jobsInFlight_cons, jobsInFlight_job]
      have hq := hqueue
      unfold Channel.joined at hq
      show (queueOf ((chan s m).withQueue j.lane (queueOf (chan s m) j.lane ++ [j])) lane).length + _ ≤ _
      omega
    · rw [chan_channelled_ne _ _ _ _ _ hm, channelled_cmpBlc]
      have hcm : (s.withRequests n rest).links.cmpBlc.get m = s.links.cmpBlc.get m := by
        simp [State.withRequests, Tab.get_set_ne _ _ (Ne.symm hm)]
      rw [hcm]
      exact le_rfl
  · exact .refl s

theorem lighter_entryFreeNotice (s : State) : Lighter s (doEntryFreeNotice s) := by
  unfold doEntryFreeNotice
  split
  · exact .refl s
  · refine lighter_of_channels rfl (fun n => ?_) (fun n => ?_) <;> simp [chan, Channel.blank]

/-! ## What the composition unit sends -/

theorem jobsInFlight_append (l : List ToChannel) (x : ToChannel) (lane : Lane) :
    jobsInFlight (l ++ [x]) lane = jobsInFlight l lane + jobsInFlight [x] lane := by
  unfold jobsInFlight
  rw [List.filter_append, List.length_append]

theorem load_sendChannel (n m : Fin 4) (x : ToChannel) (lane : Lane) :
    load (sendChannel n x s) m lane = load s m lane + if n = m then jobsInFlight [x] lane else 0 := by
  show (queueOf (chan s m) lane).length + jobsInFlight ((s.links.cmpBlc.modify n fun l => l ++ [x]).get m) lane = _
  rw [Tab.get_modify]
  split
  · next h =>
    rw [jobsInFlight_append, ← Nat.add_assoc]
    rfl
  · rfl

theorem lighter_applyView (v : ViewChange) (s : State) : Lighter s (applyView v s) := fun m lane => by
  unfold applyView
  dsimp only
  rw [load_sendChannel]
  have hcancel : jobsInFlight [.cancel v.panel] lane = 0 := rfl
  rw [hcancel, ite_self]
  exact le_rfl

theorem lighter_repaint (p : Fin 8) (s : State) : Lighter s (repaint p s) := lighter_applyView _ s

theorem hasRoom_iff (s : State) (p : Fin 8) :
    hasRoom s p = true ↔ load s (channelOf p) (cmpPanel s p).lane < queueDepth (cmpPanel s p).lane := decide_eq_true_iff

theorem jobsFit_issue {p : Fin 8} {j : Job} {f : CmpPanel → CmpPanel} (h : JobsFit s)
    (hroom : load s (channelOf p) j.lane < queueDepth j.lane) : JobsFit (issue p j f s) := by
  rw [jobsFit_iff] at h ⊢
  intro m lane
  unfold issue
  rw [load_sendChannel, jobsInFlight_job]
  have hm := h m lane
  have hload : load (setCmpPanel p (fun c => (f { c with jobNumber := j.number, outstanding := c.outstanding ++ [j.number] }).settle) s) m
      lane = load s m lane := rfl
  rw [hload]
  split_ifs with hn hl
  · rw [← hn, ← hl]
    exact hroom
  · exact hm
  · exact hm

theorem jobsFit_issueOne (p : Fin 8) (h : JobsFit s) : JobsFit (issueOne p s) := by
  have hset (f : CmpPanel → CmpPanel) {u : State} (hu : JobsFit u) : JobsFit (setCmpPanel p f u) := hu
  have hrow (hroom : hasRoom s p = true) (i : Fin 8) (x : Pane) : JobsFit (issueRow p i x s) := by
    rw [hasRoom_iff] at hroom
    unfold issueRow
    dsimp only
    split
    · exact jobsFit_issue h hroom
    · rename_i slot st _
      have ht : JobsFit (lookupTile slot st s).1 := h
      have hl : load (lookupTile slot st s).1 (channelOf p) (cmpPanel s p).lane < queueDepth (cmpPanel s p).lane := hroom
      split
      · next t r he =>
        rw [he] at ht hl
        exact jobsFit_issue ht hl
      · next t he =>
        rw [he] at ht
        exact hset _ ht
  unfold issueOne
  split
  · split
    · next hroom =>
      have hr := (hasRoom_iff s p).1 hroom
      unfold issueNext
      dsimp only
      split_ifs
      · exact jobsFit_issue h hr
      · exact jobsFit_issue h hr
      · split
        · exact hset _ h
        · split
          · exact hrow hroom _ _
          · exact hset _ h
    · exact hset _ h
  · exact h

theorem jobsFit_frameStart (p : Fin 8) (h : JobsFit s) : JobsFit (doFrameStart p s) := by
  have hpending : JobsFit (takePending p s) := jobsFit_restsOn.keeps (w := [.ports, .links]) (by simp [takePending]) (by decide) h
  have hswap : JobsFit (swapGrids p (takePending p s)) := by
    unfold swapGrids takeSwap
    exact jobsFit_issueOne p hpending
  unfold doFrameStart
  dsimp only
  split
  · exact hswap
  · exact hpending

theorem jobsFit_unpinReport (h : JobsFit s) : JobsFit (doUnpinReport s) := by
  unfold doUnpinReport
  split
  · exact foldl_preserves _ (fun p _ u hu => jobsFit_issueOne p (show JobsFit (setCmpPanel p _ u) from hu))
      (show JobsFit (s.withLinks _) from h)
  · exact h

theorem jobsFit_resetTake (b : Block) (h : JobsFit s) : JobsFit (doResetTake b s) := by
  refine jobsFit_restsOn.resetTake (by decide) (fun all u hu => ?_) h
  cases b with
  | blc =>
    refine (lighter_of_channels rfl (fun n => ?_) (fun n => ?_) : Lighter u (resetBlock .blc all u)).jobsFit hu
    all_goals cases all <;> simp [resetBlock, Blc.onReset, chan, Blc.reset, Channel.idle]
  | cmp =>
    have hcmp : JobsFit (u.withCmp (u.cmp.onReset all)) := hu
    unfold resetBlock resetCmp
    dsimp only
    split
    · exact hcmp
    · exact foldl_preserves _ (fun p _ v hv => (lighter_repaint p v).jobsFit hv) hcmp
  | _ => exact jobsFit_restsOn.keeps (resetBlock_keeps _ all u) (of_decide_eq_true rfl) hu

theorem jobsFit_storeLayout (i : Fin 16) (l : Layout) (h : JobsFit s) : JobsFit (storeLayout i l s) := by
  have hstored : JobsFit (s.withCmp { s.cmp with layouts := s.cmp.layouts.set i l }) := h
  unfold storeLayout
  refine foldl_preserves (I := JobsFit) _ (fun p _ u hu => ?_) hstored
  split
  · exact (lighter_applyView _ u).jobsFit hu
  · exact hu

theorem jobsFit_exec (c : Instr) (s t : State) (h : JobsFit s) (hc : exec c s = .next t) : JobsFit t := by
  have hfifo (s : State) (h : JobsFit s) (x : Taken) (rest : List Taken) (_ : s.tif.fifo = x :: rest) : JobsFit (s.withFifo rest) := h
  have hrepaint (p : Fin 8) {u v : State} (hk : Keeps [.cmp, .links] u v) (hu : JobsFit u) : JobsFit (repaint p v) :=
    (lighter_repaint p v).jobsFit (jobsFit_restsOn.keeps hk (by decide) hu)
  cases c with
  | jobArrival n => exact running_preserves (fun _ => (lighter_jobArrival n s).jobsFit) h hc
  | jobCancel n => exact running_preserves (fun _ => (lighter_jobCancel n s).jobsFit) h hc
  | unitWritten => exact running_preserves (fun _ => (lighter_unitWritten s).jobsFit) h hc
  | unitGrant => exact running_preserves (fun _ => (lighter_unitGrant s).jobsFit) h hc
  | entryFreeNotice => exact running_preserves (fun _ => (lighter_entryFreeNotice s).jobsFit) h hc
  | setArbitration =>
    refine running_preserves (fun _ h => deliver_set_preserves h (hfifo s h) fun _ v u hu => ?_) h hc
    unfold takeArbitration
    split <;> exact hu
  | setChannelsRun =>
    refine running_preserves (fun _ h => deliver_set_preserves h (hfifo s h) fun _ v u hu => ?_) h hc
    unfold takeRun
    split
    · exact (lighter_run _ u).jobsFit hu
    · exact hu
  | setChannelClear =>
    refine running_preserves (fun _ h => deliver_set_preserves h (hfifo s h) fun k _ u hu => ?_) h hc
    unfold takeChannelClear
    split
    · exact (lighter_clear _ u).jobsFit hu
    · exact hu
  | jobIssue p => exact running_preserves (fun _ => jobsFit_issueOne p) h hc
  | unpinReport => exact running_preserves (fun _ => jobsFit_unpinReport) h hc
  | frameStart p =>
    cases hc
    exact jobsFit_frameStart p h
  | presenceReportCmp p =>
    refine running_preserves (fun _ h => ?_) h hc
    unfold doPresenceReportCmp
    split
    · unfold takePresence
      split
      · exact hrepaint p (by simp) h
      · exact jobsFit_restsOn.keeps (w := [.cmp, .links]) (by simp) (by decide) h
    · exact h
  | viewChange =>
    refine running_preserves (fun _ h => ?_) h hc
    unfold doViewChange
    split
    · dsimp only
      split
      · exact (lighter_applyView _ _).jobsFit h
      · exact h
    · exact h
  | jobClearedReport n =>
    refine running_preserves (fun _ h => ?_) h hc
    unfold doJobClearedReport
    split
    · unfold takeReport
      split
      · exact hrepaint _ (by simp) h
      · exact h
    · exact h
  | geometryReport p =>
    refine running_preserves (fun _ h => ?_) h hc
    unfold doGeometryReport
    split
    · exact hrepaint p (by simp) h
    · exact h
  | gridClearedReport p =>
    refine running_preserves (fun _ h => ?_) h hc
    unfold doGridClearedReport
    split
    · split
      · exact hrepaint p (by simp) h
      · exact h
    · exact h
  | setBaseLayout =>
    refine running_preserves (fun _ h => deliver_set_preserves h (hfifo s h) fun k v u hu => ?_) h hc
    unfold applyBaseLayout
    split
    · exact hu
    · split
      · exact hu
      · unfold storeBaseLayout
        dsimp only
        split
        · exact (lighter_applyView _ _).jobsFit hu
        · exact hu
  | tableLayout =>
    refine running_preserves (fun _ h => deliver_table_preserves h (hfifo s h) fun k v u hu => ?_) h hc
    unfold applyLayout
    split
    · split
      · exact hu
      · split
        · exact hu
        · split
          · exact hu
          · exact jobsFit_storeLayout _ _ hu
    · exact hu
  | resetTake b => exact running_preserves (fun _ => jobsFit_resetTake b) h hc
  | pinReset =>
    cases hc
    intro n
    simp [State.reset, Blc.reset, Channel.idle, Links.empty, jobsInFlight]
  | _ => exact jobsFit_restsOn.exec hc (of_decide_eq_true rfl) h

end Loads

/-- Settles O7: every command keeps the loads of the queues and each channel as its state says. -/
theorem jobsAndChannelsStayOk : Obligations.JobsAndChannelsStayOk := by
  unfold Obligations.JobsAndChannelsStayOk
  exact ⟨step_of_exec jobsFit_restsOn (by decide) jobsFit_exec, step_of_exec channelsOk_restsOn (by decide) channelsOk_exec⟩

end Sys2Proof.Machine
end

section
/-! PROOFS. The schedule: every handling of a showing leaves `State.scheduled`, its showings and its list replaced, its requests sent and
the rosters built anew (R11 to R14, R18, R25). -/

namespace Sys2Proof.Machine

/-- The machine with new showings and a new schedule list, and requests sent, before the rosters are built anew. -/
def State.handled (s : State) (showings : Tab 96 Showing) (list : List SchedEntry) (slg : List ToSlg) (tst : List (Fin 96))
    (ntc : List ToNtc) : State :=
  { s with
    sch := { s.sch with showings := showings, list := list }
    links := { s.links with
      schSlg := s.links.schSlg ++ slg.map (mail .sch s)
      schTst := s.links.schTst ++ tst.map (mail .sch s)
      schNtc := s.links.schNtc ++ ntc.map (mail .sch s) } }

section Handled

variable (s : State) (sh : Tab 96 Showing) (l : List SchedEntry) (slg : List ToSlg) (tst : List (Fin 96)) (ntc : List ToNtc)

theorem evalRosters_handled : evalRosters (s.handled sh l slg tst ntc) = s.scheduled sh l slg tst ntc := by
  rw [evalRosters_eq]
  rfl

theorem handled_nil : s.handled s.sch.showings s.sch.list [] [] [] = s := by
  simp [State.handled]

theorem setShowing_handled (i : Fin 96) (x : Showing) :
    (s.handled sh l slg tst ntc).setShowing i x = s.handled (sh.set i x) l slg tst ntc := rfl

theorem sendSlg_handled (x : ToSlg) : sendSlg x (s.handled sh l slg tst ntc) = s.handled sh l (slg ++ [x]) tst ntc := by
  simp [sendSlg, State.handled, State.withLinks, mail]

theorem sendNtc_handled (x : ToNtc) : sendNtc x (s.handled sh l slg tst ntc) = s.handled sh l slg tst (ntc ++ [x]) := by
  simp [sendNtc, State.handled, State.withLinks, mail]

theorem sendPurge_handled (i : Fin 96) : sendPurge .sch i (s.handled sh l slg tst ntc) = s.handled sh l slg (tst ++ [i]) ntc := by
  simp [sendPurge, State.handled, State.withLinks, mail]

theorem changeState_handled (i : Fin 96) (st : ShowState) (k : Nat) : changeState i st k (s.handled sh l slg tst ntc)
    = s.handled (sh.set i { sh.get i with state := st }) l (slg ++ [.stateChange i st k]) tst ntc := by
  rw [changeState, setShowing_handled, sendSlg_handled]
  rfl

theorem clearAutoEntry_handled (i : Fin 96) : clearAutoEntry i (s.handled sh l slg tst ntc)
    = s.handled (sh.set i { sh.get i with autoEntry := none }) l slg tst ntc := rfl

theorem clearShowing_handled (i : Fin 96) : clearShowing i (s.handled sh l slg tst ntc) = s.handled (sh.set i Showing.empty) l slg tst ntc :=
  rfl

theorem sendSaleEnd_handled (i : Fin 96) :
    sendSaleEnd i (s.handled sh l slg tst ntc) = s.handled sh l slg tst (ntc ++ [.saleEnd i]) := sendNtc_handled ..

theorem withList_eq (l : List SchedEntry) : s.withSch { s.sch with list := l } = s.handled s.sch.showings l [] [] [] := by
  simp [State.handled, State.withSch]

/-- A schedule with the entry of a slot replaced: its list is `nextList`, with the rosters as they are. -/
theorem reschedule_scheduled (i : Fin 96) : reschedule i (s.scheduled sh l slg tst ntc)
    = s.scheduled sh (nextList s.sch s.lck.clock i (sh.get i) l) slg tst ntc := by
  have hdue (r : Tab 8 (List (Fin 96))) : nextDue { s.sch with showings := sh, list := l, rosters := r } s.lck.clock (sh.get i)
      = nextDue s.sch s.lck.clock (sh.get i) := rfl
  unfold reschedule Sch.reschedule nextList State.scheduled
  dsimp only
  rw [hdue]
  cases nextDue s.sch s.lck.clock (sh.get i) <;> rfl

theorem reschedule_handled (i : Fin 96) : reschedule i (s.handled sh l slg tst ntc)
    = s.handled sh (nextList s.sch s.lck.clock i (sh.get i) l) slg tst ntc := by
  have hdue : nextDue { s.sch with showings := sh, list := l } s.lck.clock (sh.get i) = nextDue s.sch s.lck.clock (sh.get i) := rfl
  unfold reschedule Sch.reschedule nextList State.handled
  dsimp only
  rw [hdue]
  cases nextDue s.sch s.lck.clock (sh.get i) <;> rfl

end Handled

/-! ## Firing (R17, R18, R19) -/

section Fire

variable {s : State} {e : SchedEntry} {rest : List SchedEntry} {kind : EntryKind} {ok : ShowState → Bool}
  {effect : Fin 96 → Nat → State → State}

theorem fireHead_due (hl : s.sch.list = e :: rest) (hk : e.kind = kind) (hd : e.due ≤ s.lck.clock)
    (ho : ok (s.sch.showings.get e.slot).state = true) : fireHead kind ok effect s
      = reschedule e.slot (effect e.slot (causeOf s e.due) (s.handled s.sch.showings rest [] [] [])) := by
  unfold fireHead
  rw [hl]
  exact (if_pos ⟨hk, hd, ho⟩).trans (by rw [withList_eq])

theorem fireHead_early (h : ∀ e ∈ s.sch.list.head?, s.lck.clock < e.due) : fireHead kind ok effect s = s := by
  unfold fireHead
  split
  · rfl
  · rename_i e rest hl
    have := h e (by simp [hl])
    exact if_neg fun hd => by omega

variable (sh : Tab 96 Showing) (l : List SchedEntry) (i : Fin 96) (k : Nat)

theorem openEffect_handled : openEffect i k (s.handled sh l [] [] [])
    = s.scheduled (sh.set i { sh.get i with state := .opened }) l [.stateChange i .opened k] [i] [] := by
  rw [openEffect, changeState_handled, sendPurge_handled, evalRosters_handled]
  rfl

/-- The boarding raise of a showing, asked for while its state is being changed. -/
theorem boardingRaise_handled (st : ShowState) (slg : List ToSlg) (tst : List (Fin 96)) :
    boardingRaise i k (s.handled (s.sch.showings.set i { s.sch.showings.get i with state := st }) l slg tst [])
      = s.handled (s.sch.showings.set i { s.sch.showings.get i with state := st }) l slg tst (boardingRaises s i k) := by
  unfold boardingRaise boardingRaises
  have hget : (s.handled (s.sch.showings.set i { s.sch.showings.get i with state := st }) l slg tst []).sch.showings.get i
      = { s.sch.showings.get i with state := st } := Tab.get_set_same ..
  simp only [hget]
  cases (s.sch.showings.get i).boardingClass with
  | none => rfl
  | some cls =>
    dsimp only
    split
    · rfl
    · exact sendNtc_handled ..

theorem boardEffect_handled : boardEffect i k (s.handled s.sch.showings l [] [] [])
    = s.scheduled (s.sch.showings.set i { s.sch.showings.get i with state := .boarding }) l [.stateChange i .boarding k] [i]
        (boardingRaises s i k) := by
  rw [boardEffect, changeState_handled, sendPurge_handled, boardingRaise_handled, evalRosters_handled]
  rfl

theorem startEffect_handled : startEffect i k (s.handled sh l [] [] [])
    = s.scheduled (sh.set i { sh.get i with state := .running, autoEntry := none }) l [.stateChange i .running k] [i] [.saleEnd i] := by
  rw [startEffect, changeState_handled, sendSaleEnd_handled, clearAutoEntry_handled, sendPurge_handled, evalRosters_handled,
    Tab.get_set_same, Tab.set_set]
  rfl

/-- An END_AT leads to ENDED where the film runs on behind the end of sale. -/
theorem endsLate_iff (c : Sch) (x : Showing) : endAtTime c x < reapAtTime c x ↔ c.lateWindow < x.runtime * 60 := by
  unfold reapAtTime endAtTime
  omega

theorem endEffect_ended (h : s.sch.lateWindow < (sh.get i).runtime * 60) : endEffect i k (s.handled sh l [] [] [])
    = s.scheduled (sh.set i { sh.get i with state := .ended }) l [.stateChange i .ended k] [i] [.saleEnd i] := by
  rw [endEffect, changeState_handled, sendSaleEnd_handled, sendPurge_handled, evalRosters_handled]
  exact if_pos ((endsLate_iff _ _).2 h)

theorem endEffect_emptied (h : (sh.get i).runtime * 60 ≤ s.sch.lateWindow) : endEffect i k (s.handled sh l [] [] [])
    = s.scheduled (sh.set i Showing.empty) l [.stateChange i .empty k] [i] [.saleEnd i] := by
  refine (if_neg fun hlt => Nat.not_lt.2 h ((endsLate_iff _ _).1 hlt)).trans ?_
  rw [changeState_handled, sendSaleEnd_handled, sendPurge_handled, clearShowing_handled, evalRosters_handled, Tab.set_set]
  rfl

theorem reapEffect_handled : reapEffect i k (s.handled sh l [] [] [])
    = s.scheduled (sh.set i Showing.empty) l [.stateChange i .empty k] [i] [] := by
  rw [reapEffect, changeState_handled, sendPurge_handled, clearShowing_handled, evalRosters_handled, Tab.set_set]
  rfl

theorem countdownEffect_handled : countdownEffect i k (s.handled sh l [] [] []) = s.handled sh l [] [i] [] := by
  rw [countdownEffect, sendPurge_handled]
  rfl

theorem nextList_empty (c : Sch) (clock : Nat) (list : List SchedEntry) : nextList c clock i Showing.empty list = dropEntry i list := rfl

end Fire

/-- Settles O18: each effect by its requests in turn, and then the showing's next entry. -/
theorem scheduleFires : Obligations.ScheduleFires := by
  unfold Obligations.ScheduleFires
  refine ⟨fun e rest s hr hl hd => ?_, fun e rest s hr hl hd => ?_, fun s h c hc => ?_⟩
  · intro sh cause
    refine ⟨fun hk hst => ?_, fun hk hst => ?_, fun hk hst => ?_, fun hk hst hlate => ?_, fun hk hst hlate => ?_, fun hk hst => ?_⟩
    · refine (running_next _ hr).trans ?_
      rw [fireHead_due hl hk hd, openEffect_handled, reschedule_scheduled, Tab.get_set_same]
      exact beq_iff_eq.2 hst
    · refine (running_next _ hr).trans ?_
      rw [fireHead_due hl hk hd, boardEffect_handled, reschedule_scheduled, Tab.get_set_same]
      exact beq_iff_eq.2 hst
    · refine (running_next _ hr).trans ?_
      rw [fireHead_due hl hk hd, startEffect_handled, reschedule_scheduled, Tab.get_set_same]
      · rfl
      · exact beq_iff_eq.2 hst
    · refine (running_next _ hr).trans ?_
      rw [fireHead_due hl hk hd, endEffect_ended _ _ _ _ hlate, reschedule_scheduled, Tab.get_set_same]
      exact beq_iff_eq.2 hst
    · refine (running_next _ hr).trans ?_
      rw [fireHead_due hl hk hd, endEffect_emptied _ _ _ _ hlate, reschedule_scheduled, Tab.get_set_same, nextList_empty]
      exact beq_iff_eq.2 hst
    · refine (running_next _ hr).trans ?_
      rw [fireHead_due hl hk hd, reapEffect_handled, reschedule_scheduled, Tab.get_set_same, nextList_empty]
      exact Bool.or_eq_true_iff.2 (hst.imp beq_iff_eq.2 beq_iff_eq.2)
  · intro t
    have ht : s.handled s.sch.showings (nextList s.sch s.lck.clock e.slot (s.sch.showings.get e.slot) rest) [] [e.slot] [] = t := by
      simp [State.handled, t]
    refine ⟨fun hk => ?_, fun hk => ?_⟩
    · refine (running_next _ hr).trans ?_
      rw [fireHead_due hl hk hd rfl, countdownEffect_handled, reschedule_handled, ht]
    · refine (running_next _ hr).trans ?_
      rw [fireHead_due hl hk hd rfl, countdownEffect_handled, reschedule_handled, ht]
  · have hrun (kind : EntryKind) (ok : ShowState → Bool) (effect : Fin 96 → Nat → State → State) :
        running s (fireHead kind ok effect) = .next s := by
      unfold running
      split
      · rfl
      · rw [fireHead_early h]
    simp only [List.mem_cons, List.not_mem_nil, or_false] at hc
    rcases hc with rfl | rfl | rfl | rfl | rfl | rfl | rfl <;> exact hrun ..

end Sys2Proof.Machine
end

section
/-! PROOFS. The clock and the packets of the schedule: TIME (R3), LISTING (R10 to R12), CANCEL and REMOVE (R13, R14). -/

namespace Sys2Proof.Machine

/-! ## The clock (R1 to R5) -/

theorem distributePulse_eq (s : State) : distributePulse s = { s with links := s.links.pulsed } := by
  simp [distributePulse, State.withLinks, Links.pulsed, Tab.map_eq_make]

theorem noteCause_eq (busy : Bool) (kind : Nat) (s : State) :
    noteCause busy kind s = { s with sch := s.sch.noted busy s.lck.clock kind } := rfl

/-- A minute boundary raised, or not (R4). -/
theorem raiseMinute_if (p : Prop) [Decidable p] (s : State) : (if p then raiseMinute s else s)
    = { s with links := { s.links with minutes := s.links.minutes + if p then 1 else 0 } } := by
  split <;> rfl

theorem runDue_eq {s t : State} (hl : t.sch.list = s.sch.list) (hc : t.lck.clock = s.lck.clock) : runDue t = runDue s := by
  unfold runDue
  rw [hl, hc]

/-- Settles O14: the pulse by whether the clock is held or reaches its top, and the posting of the hold. -/
theorem secondsMoveTheClock : Obligations.SecondsMoveTheClock := by
  unfold Obligations.SecondsMoveTheClock
  refine ⟨fun s hr => ⟨fun hh => ?_, fun hh ht => ?_, fun hh ht => ?_⟩, fun s hr => ⟨fun hd => ?_, fun hd => ?_⟩⟩
  · refine (running_next _ hr).trans (congrArg Host.Outcome.next ?_)
    rw [doSecondsPulse, distributePulse_eq, if_pos hh]
  · refine (running_next _ hr).trans (congrArg Host.Outcome.next ?_)
    have hadv : s.lck.advance = { s.lck with clock := s.lck.clock + 1 } := by
      have ht' : ¬ s.lck.clock + 1 = Config.clockTop := ht
      simp only [Lck.advance, hh, Bool.false_eq_true, if_false, if_neg ht']
    rw [doSecondsPulse, distributePulse_eq, if_neg (by simp [hh]), advanceClock, hadv, noteCause_eq, raiseMinute_if]
    rfl
  · refine (running_next _ hr).trans (congrArg Host.Outcome.next ?_)
    have hadv : s.lck.advance = ⟨129599, true, true⟩ := by
      have ht' : s.lck.clock + 1 = Config.clockTop := ht
      simp only [Lck.advance, hh, Bool.false_eq_true, if_false, if_pos ht']
      rfl
    rw [doSecondsPulse, distributePulse_eq, if_neg (by simp [hh]), advanceClock, hadv, noteCause_eq]
    simp [State.withLck]
  · refine (running_next _ hr).trans (congrArg Host.Outcome.next ?_)
    rw [doClockHold, if_pos hd]
    rfl
  · refine (running_next _ hr).trans (congrArg Host.Outcome.next ?_)
    rw [doClockHold, if_neg (by simp [hd])]

theorem purgeOnSale_eq (s : State) :
    purgeOnSale s = { s with links := { s.links with schTst := s.links.schTst ++ (onSaleSlots s).map (mail .sch s) } } :=
  foldl_purge_sch _ s

/-- Settles O15: the delivery of TIME, and `setTime` by whether the value is later, earlier or the same. -/
theorem timeSetsTheClock : Obligations.TimeSetsTheClock := by
  unfold Obligations.TimeSetsTheClock
  rintro v clock rest s ⟨⟨hr, hf⟩, hready⟩ new old
  have hdue : s.lck.holdDue = false := by
    simp only [ready, blockReady, Bool.and_eq_true, Bool.not_eq_true'] at hready
    exact hready.1.1
  have hswap (u : State) : (if new / 60 = old / 60 then u else raiseMinute u)
      = { u with links := { u.links with minutes := u.links.minutes + if new / 60 = old / 60 then 0 else 1 } } := by
    split <;> rfl
  have hlck : s.lck.write new = if new = 129599 then ⟨new, true, !s.lck.held⟩ else ⟨new, false, false⟩ := by
    unfold Lck.write
    rw [hdue]
    rfl
  refine (deliver_next ⟨⟨hr, hf⟩, hready⟩ rfl).trans (congrArg Host.Outcome.next ?_)
  have hset : setTime v (s.withFifo rest) = if old < new then noteCause (runDue s) 13
        (if new / 60 = old / 60 then (s.withFifo rest).withLck (s.lck.write new) else raiseMinute ((s.withFifo rest).withLck (s.lck.write new)))
      else if new < old then purgeOnSale
        (if new / 60 = old / 60 then (s.withFifo rest).withLck (s.lck.write new) else raiseMinute ((s.withFifo rest).withLck (s.lck.write new)))
      else (if new / 60 = old / 60 then (s.withFifo rest).withLck (s.lck.write new)
        else raiseMinute ((s.withFifo rest).withLck (s.lck.write new))) := rfl
  have hclock : (s.lck.write new).clock = new := by
    rw [hlck]
    split <;> rfl
  rw [hset, hswap, ← hlck]
  rcases Nat.lt_trichotomy old new with hlt | heq | hgt
  · have hle : ¬ new < old := hlt.not_gt
    rw [if_pos hlt, if_pos hlt, if_neg hle, noteCause_eq]
    simp [State.withLck, hclock]
  · have hle : ¬ new < old := heq.not_gt
    have hlt : ¬ old < new := heq.not_lt
    rw [if_neg hlt, if_neg hlt, if_neg hle, if_neg hle]
    simp [State.withLck]
  · have hle : ¬ old < new := hgt.not_gt
    rw [if_neg hle, if_neg hle, if_pos hgt, if_pos hgt, purgeOnSale_eq]
    simp [State.withLck]
    rfl

end Sys2Proof.Machine
end

section
/-! PROOFS. LISTING (R10 to R12), CANCEL and REMOVE (R13, R14): the checks, and what becomes of the showing. -/

namespace Sys2Proof.Machine

theorem runDue_of_ready {s : State} (h : ready .sch s = true) : runDue s = false := by
  simp only [ready, blockReady, Bool.and_eq_true, Bool.not_eq_true'] at h
  exact h.1

/-- With no firing run in progress, a packet's handling begins one (log 7). -/
theorem noteCause_noting (kind : Nat) (s : State) : noteCause false kind s = s.noting kind := rfl

theorem setShowing_eq (s : State) (i : Fin 96) (x : Showing) :
    s.setShowing i x = s.handled (s.sch.showings.set i x) s.sch.list [] [] [] := by
  simp [State.setShowing, State.handled, State.withSch]

theorem sch_self (s : State) : s = s.handled s.sch.showings s.sch.list [] [] [] := by simp [State.handled]

/-! ## LISTING -/

theorem formatOf_eq_some {v : Nat} {x : Format} (h : formatOf v = some x) : x.code = v ∧ v < 4 := by
  unfold formatOf at h
  split at h <;> cases h <;> exact ⟨rfl, by decide⟩

theorem formatOf_isSome (v : Nat) : (formatOf v).isSome = true ↔ v < 4 := by
  refine ⟨fun h => ?_, fun h => ?_⟩
  · obtain ⟨x, hx⟩ := Option.isSome_iff_exists.1 h
    exact (formatOf_eq_some hx).2
  · have : v = 0 ∨ v = 1 ∨ v = 2 ∨ v = 3 := by omega
    rcases this with rfl | rfl | rfl | rfl <;> rfl

theorem yesNo_eq_some {v : Nat} {b : Bool} (h : yesNo v = some b) : (if b then 1 else 0) = v := by
  unfold yesNo at h
  split_ifs at h with h0 h1
  · cases h
    exact h0.symm
  · cases h
    exact h1.symm

theorem yesNo_isSome (v : Nat) : (yesNo v).isSome = true ↔ v < 2 := by
  unfold yesNo
  split_ifs <;> simp <;> omega

theorem asFin_isSome (n v : Nat) : (asFin n v).isSome = true ↔ v < n := by
  unfold asFin
  split <;> simp_all

theorem optIndex_eq_some {n v : Nat} {x : Option (Fin n)} (h : optIndex n v = some x) : (x.map Fin.val).getD 255 = v := by
  unfold optIndex at h
  split_ifs at h with hv
  · cases h
    exact hv.symm
  · obtain ⟨i, hi, rfl⟩ := Option.map_eq_some_iff.1 h
    simpa using (asFin_eq_some hi).symm

theorem optIndex_isSome (n v : Nat) : (optIndex n v).isSome = true ↔ v < n ∨ v = 255 := by
  unfold optIndex
  split_ifs with hv
  · simp [hv]
  · simp [asFin_isSome, hv]

/-- The fields of a LISTING that is in range, one by one. -/
theorem listingShowing_some {f : ListingFields} {slot : Fin 96} {new : Showing} (h : listingShowing f = some (slot, new)) :
    slot.val = f.slot ∧ new.id = some f.id ∧ new.auditorium = some f.auditorium ∧ new.title.map Fin.val = some f.title
      ∧ new.start = f.start ∧ new.runtime = f.runtime ∧ new.rating.val = f.rating ∧ new.boardLead = f.boardLead
      ∧ new.format.code = f.format ∧ (if new.subtitled then 1 else 0) = f.subtitled
      ∧ (new.boardingClass.map Fin.val).getD 255 = f.boardingClass ∧ (new.soldoutClass.map Fin.val).getD 255 = f.soldoutClass
      ∧ new.noticePanels = BitVec.ofNat 8 f.noticePanels ∧ new.autoEntry = none := by
  unfold listingShowing at h
  split at h
  · rename_i hslot htitle hformat hrating hsub hbc hsc
    split at h
    · cases h
      exact ⟨(asFin_eq_some hslot).symm, rfl, rfl, congrArg some (asFin_eq_some htitle).symm, rfl, rfl, (asFin_eq_some hrating).symm, rfl,
        (formatOf_eq_some hformat).1, yesNo_eq_some hsub, optIndex_eq_some hbc, optIndex_eq_some hsc, rfl, rfl⟩
    · cases h
  · cases h

theorem listingShowing_isSome (f : ListingFields) : (listingShowing f).isSome = true ↔ ListingInRange f := by
  have hparts : ((asFin 96 f.slot).isSome = true ∧ (asFin 64 f.title).isSome = true ∧ (formatOf f.format).isSome = true
      ∧ (asFin 16 f.rating).isSome = true ∧ (yesNo f.subtitled).isSome = true ∧ (optIndex 12 f.boardingClass).isSome = true
      ∧ (optIndex 12 f.soldoutClass).isSome = true) ↔ f.slot < 96 ∧ f.title < 64 ∧ f.format < 4 ∧ f.rating < 16 ∧ f.subtitled < 2
      ∧ (f.boardingClass < 12 ∨ f.boardingClass = 255) ∧ (f.soldoutClass < 12 ∨ f.soldoutClass = 255) := by
    simp only [asFin_isSome, formatOf_isSome, yesNo_isSome, optIndex_isSome]
  have htop : Config.clockTop = 129599 := rfl
  unfold listingShowing ListingInRange
  split
  · rename_i hslot htitle hformat hrating hsub hbc hsc
    have := hparts.1 (by simp [hslot, htitle, hformat, hrating, hsub, hbc, hsc])
    split
    · simp only [Option.isSome_some, true_iff]
      omega
    · simp only [Option.isSome_none, Bool.false_eq_true, false_iff]
      omega
  · rename_i hno
    simp only [Option.isSome_none, Bool.false_eq_true, false_iff]
    intro hin
    obtain ⟨h1, h2, h3, h4, h5, h6, h7⟩ := hparts.2 (by omega)
    obtain ⟨a, ha⟩ := Option.isSome_iff_exists.1 h1
    obtain ⟨b, hb⟩ := Option.isSome_iff_exists.1 h2
    obtain ⟨c, hc⟩ := Option.isSome_iff_exists.1 h3
    obtain ⟨d, hd⟩ := Option.isSome_iff_exists.1 h4
    obtain ⟨e, he⟩ := Option.isSome_iff_exists.1 h5
    obtain ⟨g, hg⟩ := Option.isSome_iff_exists.1 h6
    obtain ⟨k, hk⟩ := Option.isSome_iff_exists.1 h7
    exact hno a b c d e g k ha hb hc hd he hg hk

section Listing

variable {f : ListingFields} {slot : Fin 96} {new : Showing} {s : State} {stamp : Nat}

/-- Why a LISTING in range is refused (R10 steps 2 to 5). -/
theorem listingRefusal_eq (h : listingShowing f = some (slot, new)) : listingRefusal slot new s =
    if (s.sch.showings.get slot).state = .empty then
      if slotOf s f.id ≠ none then some .duplicateId
      else if f.start + s.sch.lateWindow ≤ s.lck.clock then some .tooLate
      else none
    else if (s.sch.showings.get slot).id ≠ some f.id then some .slotBusy
    else if (s.sch.showings.get slot).state = .ended ∨ (s.sch.showings.get slot).state = .cancelled then some .tooLate
    else none := by
  obtain ⟨-, hid, -, -, hstart, -⟩ := listingShowing_some h
  unfold listingRefusal endAtTime
  simp only [hid, hstart, Option.getD_some, Option.isSome_iff_ne_none]

theorem newListing_eq (h : listingShowing f = some (slot, new)) : newListing slot new f stamp s
    = s.scheduled (s.sch.showings.set slot { new with state := .listed })
      (nextList s.sch s.lck.clock slot { new with state := .listed } s.sch.list)
      [.listingTally slot f.capacity f.sold f.blocked stamp true] [] [] := by
  obtain ⟨-, -, -, -, -, -, -, -, -, -, -, -, -, hauto⟩ := listingShowing_some h
  have hnew : { new with state := .listed, autoEntry := none } = { new with state := .listed } := by rw [← hauto]
  rw [newListing, hnew, setShowing_eq, sendSlg_handled, reschedule_handled, evalRosters_handled, Tab.get_set_same]
  rfl

theorem updateListing_eq : updateListing slot new f stamp s
    = s.scheduled (s.sch.showings.set slot { new with
        state := (s.sch.showings.get slot).state, autoEntry := (s.sch.showings.get slot).autoEntry })
      (nextList s.sch s.lck.clock slot { new with state := (s.sch.showings.get slot).state } s.sch.list)
      [.listingTally slot f.capacity f.sold f.blocked stamp false] [slot] [] := by
  have hdue (x : Showing) (a : Option (Fin 24)) (l : List SchedEntry) :
      nextList s.sch s.lck.clock slot { x with autoEntry := a } l = nextList s.sch s.lck.clock slot x l := rfl
  rw [updateListing, setShowing_eq, sendSlg_handled, sendPurge_handled, reschedule_handled, evalRosters_handled, Tab.get_set_same]
  rw [hdue { new with state := (s.sch.showings.get slot).state }]
  rfl

theorem applyListing_refused {r : Reason} (h : listingShowing f = some (slot, new)) (hr : listingRefusal slot new s = some r) :
    applyListing f stamp s = refuse .sch 2 r f.id s := by
  simp only [applyListing, h, hr]

theorem applyListing_taken (h : listingShowing f = some (slot, new)) (hr : listingRefusal slot new s = none) (hd : runDue s = false) :
    applyListing f stamp s = State.noting (if (s.sch.showings.get slot).state = .empty then newListing slot new f stamp s
      else updateListing slot new f stamp s) 2 := by
  simp only [applyListing, h, hr, hd, noteCause_noting]

end Listing

/-- Settles O19: no check refuses, so the new listing or the update is the showing's. -/
theorem listingIsTaken : Obligations.ListingIsTaken := by
  unfold Obligations.ListingIsTaken
  intro f clock rest slot new s hdel h old
  have hdue : runDue (s.withFifo rest) = false := runDue_of_ready hdel.2
  refine ⟨fun (he : ((s.withFifo rest).sch.showings.get slot).state = .empty) (hid : slotOf (s.withFifo rest) f.id = none)
      (hlate : (s.withFifo rest).lck.clock < f.start + (s.withFifo rest).sch.lateWindow) => ?_,
    fun (he : ((s.withFifo rest).sch.showings.get slot).state ≠ .empty) (hn : ((s.withFifo rest).sch.showings.get slot).state ≠ .ended)
      (hc : ((s.withFifo rest).sch.showings.get slot).state ≠ .cancelled)
      (hid : ((s.withFifo rest).sch.showings.get slot).id = some f.id) => ?_⟩
  · refine (deliver_next hdel rfl).trans (congrArg Host.Outcome.next ?_)
    rw [applyListing_taken h ?_ hdue, if_pos he, newListing_eq h]
    · rfl
    · rw [listingRefusal_eq h, if_pos he, if_neg (not_not.2 hid), if_neg (Nat.not_le.2 hlate)]
  · refine (deliver_next hdel rfl).trans (congrArg Host.Outcome.next ?_)
    rw [applyListing_taken h ?_ hdue, if_neg he, updateListing_eq]
    · rfl
    · rw [listingRefusal_eq h, if_neg he, if_neg (not_not.2 hid), if_neg (not_or.2 ⟨hn, hc⟩)]

/-- Settles O20: the range by `listingShowing_isSome`, the fields by `listingShowing_some`, the refusals by `listingRefusal_eq`. -/
theorem listingIsChecked : Obligations.ListingIsChecked := by
  unfold Obligations.ListingIsChecked
  refine ⟨listingShowing_isSome, fun f slot new => listingShowing_some, fun f clock rest s hdel => ?_⟩
  intro refused
  have hex : exec .listing s = .next (applyListing f clock (s.withFifo rest)) := deliver_next hdel rfl
  refine ⟨fun hrange => ?_, fun slot new h => ?_⟩
  · have hnone : listingShowing f = none := by
      rw [← Option.not_isSome_iff_eq_none, listingShowing_isSome]
      exact hrange
    exact hex.trans (by simp only [applyListing, hnone])
  · intro old
    have hrefused {r : Reason} (hr : listingRefusal slot new (s.withFifo rest) = some r) : refused r :=
      hex.trans (congrArg Host.Outcome.next (applyListing_refused h hr))
    have href := listingRefusal_eq (s := s.withFifo rest) h
    have holdIs : (s.withFifo rest).sch.showings.get slot = old := rfl
    have hslot : slotOf (s.withFifo rest) f.id = slotOf s f.id := rfl
    have hlater : (s.withFifo rest).sch.lateWindow = s.sch.lateWindow ∧ (s.withFifo rest).lck.clock = s.lck.clock := ⟨rfl, rfl⟩
    rw [holdIs, hslot, hlater.1, hlater.2] at href
    refine ⟨fun he hid => hrefused ?_, fun he hid hlate => hrefused ?_, fun he hid => hrefused ?_, fun hst hid => hrefused ?_⟩
    · rw [href, if_pos he, if_pos hid]
    · rw [href, if_pos he, if_neg (not_not.2 hid), if_pos hlate]
    · rw [href, if_neg he, if_pos hid]
    · have hne : ¬ old.state = .empty := fun e => by
        rcases hst with h | h <;> exact absurd (h.symm.trans e) (by simp)
      rw [href, if_neg hne, if_neg (not_not.2 hid), if_pos hst]

/-! ## CANCEL and REMOVE -/

section Cancel

variable {s : State} {slot : Fin 96}

theorem cancelEntry_eq : cancelEntry slot s = s.handled s.sch.showings
    (insertEntry ⟨slot, max ((s.sch.showings.get slot).start + s.sch.lateWindow) s.lck.clock, .reapAt⟩ (dropEntry slot s.sch.list))
    [] [] [] := by
  rw [cancelEntry, withList_eq]
  rfl

theorem cancelShowing_eq : cancelShowing slot s = s.scheduled
    (s.sch.showings.set slot { s.sch.showings.get slot with state := .cancelled, autoEntry := none })
    (insertEntry ⟨slot, max ((s.sch.showings.get slot).start + s.sch.lateWindow) s.lck.clock, .reapAt⟩ (dropEntry slot s.sch.list))
    [.stateChange slot .cancelled 3] [slot] [.saleEnd slot] := by
  rw [cancelShowing, cancelEntry_eq, changeState_handled, sendSaleEnd_handled, clearAutoEntry_handled, sendPurge_handled,
    evalRosters_handled, Tab.get_set_same, Tab.set_set]
  rfl

theorem removeShowing_eq : removeShowing slot s = s.scheduled (s.sch.showings.set slot Showing.empty) (dropEntry slot s.sch.list)
    [.stateChange slot .empty 4] [slot]
    (if (s.sch.showings.get slot).state = .ended ∨ (s.sch.showings.get slot).state = .cancelled then [] else [.saleEnd slot]) := by
  rw [removeShowing, withList_eq, changeState_handled]
  split
  · rw [sendPurge_handled, clearShowing_handled, evalRosters_handled, Tab.set_set]
    rfl
  · rw [sendSaleEnd_handled, sendPurge_handled, clearShowing_handled, evalRosters_handled, Tab.set_set]
    rfl

end Cancel

/-- Settles O21: CANCEL by the showing's state, REMOVE whatever it is. -/
theorem cancelAndRemove : Obligations.CancelAndRemove := by
  unfold Obligations.CancelAndRemove
  refine fun id clock rest s => ⟨fun hdel => ?_, fun hdel => ?_⟩
  · have hdue : runDue (s.withFifo rest) = false := runDue_of_ready hdel.2
    have hex : exec .cancel s = .next (applyCancel id (s.withFifo rest)) :=
      deliver_next (act := fun _ => applyCancel id) hdel rfl
    have hslot : slotOf (s.withFifo rest) id = slotOf s id := rfl
    rw [hex]
    refine ⟨fun hn => ?_, fun slot hs => ⟨fun hst => ?_, fun hst => ?_, fun hst => ?_⟩⟩
    · simp only [applyCancel, hslot, hn]
    · have hst : ((s.withFifo rest).sch.showings.get slot).state = .ended := hst
      simp only [applyCancel, hslot, hs, hst]
    · have hst : ((s.withFifo rest).sch.showings.get slot).state = .cancelled := hst
      simp only [applyCancel, hslot, hs, hst]
    · have htaken : applyCancel id (s.withFifo rest) = noteCause (runDue (s.withFifo rest)) 3 (cancelShowing slot (s.withFifo rest)) := by
        simp only [applyCancel, hslot, hs]
        have hst' : ((s.withFifo rest).sch.showings.get slot).state = .listed ∨ ((s.withFifo rest).sch.showings.get slot).state = .opened
            ∨ ((s.withFifo rest).sch.showings.get slot).state = .boarding ∨ ((s.withFifo rest).sch.showings.get slot).state = .running := hst
        rcases hst' with h | h | h | h <;> simp only [h]
      rw [htaken, hdue, noteCause_noting, cancelShowing_eq]
      rfl
  · have hdue : runDue (s.withFifo rest) = false := runDue_of_ready hdel.2
    have hex : exec .remove s = .next (applyRemove id (s.withFifo rest)) :=
      deliver_next (act := fun _ => applyRemove id) hdel rfl
    have hslot : slotOf (s.withFifo rest) id = slotOf s id := rfl
    rw [hex]
    refine ⟨fun hn => ?_, fun slot hs => ?_⟩
    · simp only [applyRemove, hslot, hn]
    · intro sh
      simp only [applyRemove, hslot, hs]
      rw [hdue, noteCause_noting, removeShowing_eq]
      rfl

end Sys2Proof.Machine
end

section
/-! PROOFS. The schedule list stays in order, with one entry of a fitting kind for each non-EMPTY showing (R7, R15, R16). -/

namespace Sys2Proof.Machine

/-! ## The list's own operations (R15) -/

theorem entryBefore_iff (a b : SchedEntry) : entryBefore a b = true ↔ a.due < b.due ∨ a.due = b.due ∧ a.slot.val < b.slot.val := by
  simp [entryBefore]

theorem entryBefore_trans {a b c : SchedEntry} (h : entryBefore a b = true) (h' : entryBefore b c = true) : entryBefore a c = true := by
  rw [entryBefore_iff] at *
  omega

/-- Of two entries of different slots one stands before the other. -/
theorem entryBefore_total {a b : SchedEntry} (hne : b.slot ≠ a.slot) (h : ¬ entryBefore a b = true) : entryBefore b a = true := by
  rw [entryBefore_iff] at *
  have := Fin.val_ne_of_ne hne
  omega

theorem insertEntry_perm (e : SchedEntry) (l : List SchedEntry) : (insertEntry e l).Perm (e :: l) := by
  induction l with
  | nil => exact .refl _
  | cons b l ih =>
    unfold insertEntry
    split
    · exact .refl _
    · exact (ih.cons b).trans (.swap e b l)

theorem insertEntry_ordered {e : SchedEntry} {l : List SchedEntry} (h : l.Pairwise fun a b => entryBefore a b = true)
    (hne : ∀ b ∈ l, b.slot ≠ e.slot) : (insertEntry e l).Pairwise fun a b => entryBefore a b = true := by
  induction l with
  | nil => exact List.pairwise_singleton _ _
  | cons b l ih =>
    obtain ⟨hb, hl⟩ := List.pairwise_cons.1 h
    unfold insertEntry
    split
    · rename_i heb
      exact List.pairwise_cons.2 ⟨fun c hc => by
        rcases List.mem_cons.1 hc with rfl | hc
        · exact heb
        · exact entryBefore_trans heb (hb c hc), h⟩
    · rename_i heb
      refine List.pairwise_cons.2 ⟨fun c hc => ?_, ih hl fun c hc => hne c (List.mem_cons_of_mem _ hc)⟩
      rcases List.mem_cons.1 ((insertEntry_perm e l).mem_iff.1 hc) with rfl | hc
      · exact entryBefore_total (hne b List.mem_cons_self) heb
      · exact hb c hc

theorem mem_dropEntry {e : SchedEntry} {i : Fin 96} {l : List SchedEntry} : e ∈ dropEntry i l ↔ e ∈ l ∧ e.slot ≠ i := by
  simp [dropEntry]

theorem dropEntry_cons_self (e : SchedEntry) (l : List SchedEntry) : dropEntry e.slot (e :: l) = dropEntry e.slot l := by
  simp [dropEntry]

/-- The number of entries of a slot. -/
def entriesOf (i : Fin 96) (l : List SchedEntry) : Nat := (l.filter fun e => e.slot == i).length

theorem entriesOf_dropEntry (i j : Fin 96) (l : List SchedEntry) :
    entriesOf j (dropEntry i l) = if j = i then 0 else entriesOf j l := by
  unfold entriesOf dropEntry
  rw [List.filter_filter]
  split
  · rename_i hj
    rw [List.length_eq_zero_iff, List.filter_eq_nil_iff]
    simp [hj]
  · rename_i hj
    congr 1
    refine List.filter_congr fun e _ => ?_
    by_cases he : e.slot = j
    · simp [he, hj]
    · simp [he]

theorem entriesOf_insertEntry (j : Fin 96) (e : SchedEntry) (l : List SchedEntry) :
    entriesOf j (insertEntry e l) = entriesOf j l + if e.slot = j then 1 else 0 := by
  unfold entriesOf
  rw [((insertEntry_perm e l).filter _).length_eq, List.filter_cons]
  by_cases h : e.slot = j <;> simp [h]

/-! ## A timetable -/

/-- What `ScheduleOk` says, of the showings and the list alone. -/
def Timetabled (sh : Tab 96 Showing) (l : List SchedEntry) : Prop :=
  l.Pairwise (fun a b => entryBefore a b = true)
    ∧ (∀ i, entriesOf i l = if (sh.get i).state = .empty then 0 else 1)
    ∧ (∀ e ∈ l, kindFits (sh.get e.slot).state e.kind = true)
    ∧ (∀ i, (sh.get i).state = .empty → sh.get i = Showing.empty)
    ∧ ∀ i j, (sh.get i).state ≠ .empty → (sh.get j).state ≠ .empty → (sh.get i).id = (sh.get j).id → i = j

theorem scheduleOk_iff (s : State) : ScheduleOk s ↔ Timetabled s.sch.showings s.sch.list := Iff.rfl

section Timetable

variable {sh : Tab 96 Showing} {l : List SchedEntry} {i : Fin 96} {x : Showing}

/-- The ids stay different where the new showing has that of no other slot. -/
theorem ids_set (h : ∀ i j, (sh.get i).state ≠ .empty → (sh.get j).state ≠ .empty → (sh.get i).id = (sh.get j).id → i = j)
    (hx : x.state ≠ .empty → ∀ j, j ≠ i → (sh.get j).state ≠ .empty → (sh.get j).id ≠ x.id) (a b : Fin 96)
    (ha : ((sh.set i x).get a).state ≠ .empty) (hb : ((sh.set i x).get b).state ≠ .empty)
    (hab : ((sh.set i x).get a).id = ((sh.set i x).get b).id) : a = b := by
  rw [Tab.get_set] at ha hab
  rw [Tab.get_set] at hb hab
  split_ifs at ha hb hab with h1 h2 h2
  · rw [← h1, ← h2]
  · exact absurd hab.symm (hx ha b (Ne.symm h2) hb)
  · exact absurd hab (hx hb a (Ne.symm h1) ha)
  · exact h a b ha hb hab

/-- An EMPTY slot has no entry. -/
theorem Timetabled.leave (h : Timetabled sh l) (i : Fin 96) : Timetabled (sh.set i Showing.empty) (dropEntry i l) := by
  obtain ⟨hord, hone, hkind, hempty, hids⟩ := h
  refine ⟨hord.filter _, fun j => ?_, fun e he => ?_, fun j hj => ?_, ids_set hids fun hx => absurd rfl hx⟩
  · rw [entriesOf_dropEntry, Tab.get_set, hone]
    by_cases hji : j = i
    · rw [if_pos hji, if_pos hji.symm]
      rfl
    · rw [if_neg hji, if_neg (Ne.symm hji)]
  · obtain ⟨he, hne⟩ := mem_dropEntry.1 he
    rw [Tab.get_set, if_neg (Ne.symm hne)]
    exact hkind e he
  · rw [Tab.get_set] at hj ⊢
    split
    · rfl
    · rename_i hne
      rw [if_neg hne] at hj
      exact hempty j hj

/-- A slot given a non-EMPTY showing, its entry replaced by one of a fitting kind. -/
theorem Timetabled.enter (h : Timetabled sh l) {due : Nat} {kind : EntryKind} (hk : kindFits x.state kind = true)
    (hid : ∀ j, j ≠ i → (sh.get j).state ≠ .empty → (sh.get j).id ≠ x.id) :
    Timetabled (sh.set i x) (insertEntry ⟨i, due, kind⟩ (dropEntry i l)) := by
  obtain ⟨hord, hone, hkind, hempty, hids⟩ := h
  have hne : x.state ≠ .empty := fun h => by
    rw [h] at hk
    cases hk
  refine ⟨insertEntry_ordered (hord.filter _) fun b hb => (mem_dropEntry.1 hb).2, fun j => ?_, fun e he => ?_, fun j hj => ?_,
    ids_set hids fun _ => hid⟩
  · rw [entriesOf_insertEntry, entriesOf_dropEntry, Tab.get_set, hone]
    by_cases hji : j = i
    · rw [if_pos hji, if_pos hji.symm, if_pos hji.symm, if_neg hne]
    · rw [if_neg hji, if_neg (Ne.symm hji), if_neg (Ne.symm hji)]
      rfl
  · rw [Tab.get_set]
    rcases List.mem_cons.1 ((insertEntry_perm _ _).mem_iff.1 he) with rfl | he
    · rw [if_pos rfl]
      exact hk
    · obtain ⟨he, hslot⟩ := mem_dropEntry.1 he
      rw [if_neg (Ne.symm hslot)]
      exact hkind e he
  · rw [Tab.get_set] at hj ⊢
    split
    · rename_i hi
      rw [if_pos hi] at hj
      exact absurd hj hne
    · rename_i hi
      rw [if_neg hi] at hj
      exact hempty j hj

/-- A state threshold with a countdown: the entry is the threshold's, or one of the countdown (R16). -/
theorem earlier_countdown_kind (c : Sch) (clock : Nat) (x : Showing) (t : Nat × EntryKind) :
    (earlier t (countdownEntry c clock x)).2 = t.2 ∨ (earlier t (countdownEntry c clock x)).2 = .windowAt
      ∨ (earlier t (countdownEntry c clock x)).2 = .minuteAt := by
  unfold countdownEntry
  split_ifs
  · simp only [earlier]
    split <;> simp
  · simp only [earlier]
    split <;> simp
  · exact .inl rfl

/-- The next entry of a showing fits its state (R16). -/
theorem nextDue_fits {c : Sch} {clock : Nat} {d : Nat × EntryKind} (h : nextDue c clock x = some d) : kindFits x.state d.2 = true := by
  unfold nextDue at h
  split at h <;> rename_i hst <;> cases h <;> rw [hst]
  · rfl
  · rcases earlier_countdown_kind c clock x (boardAtTime c x, .boardAt) with h | h | h <;> rw [h] <;> rfl
  · rcases earlier_countdown_kind c clock x (x.start, .startAt) with h | h | h <;> rw [h] <;> rfl
  · rfl
  · rfl

/-- A slot given a showing of a state that has a next entry, with that entry. -/
theorem Timetabled.next (h : Timetabled sh l) {c : Sch} {clock : Nat} (hne : x.state ≠ .empty) (hnc : x.state ≠ .cancelled)
    (hid : ∀ j, j ≠ i → (sh.get j).state ≠ .empty → (sh.get j).id ≠ x.id) : Timetabled (sh.set i x) (nextList c clock i x l) := by
  unfold nextList
  split
  · rename_i d hd
    exact h.enter (nextDue_fits hd) hid
  · rename_i hd
    have hsome : nextDue c clock x ≠ none := by
      unfold nextDue
      cases hst : x.state with
      | empty => exact absurd hst hne
      | cancelled => exact absurd hst hnc
      | _ => simp
    exact absurd hd hsome

/-- No other slot holds the id of a non-EMPTY showing. -/
theorem Timetabled.id_ne (h : Timetabled sh l) (hne : (sh.get i).state ≠ .empty) (j : Fin 96) (hj : j ≠ i)
    (hs : (sh.get j).state ≠ .empty) : (sh.get j).id ≠ (sh.get i).id :=
  fun hid => hj (h.2.2.2.2 j i hs hne hid)

/-- A showing that keeps its state and its id keeps its entry. -/
theorem Timetabled.stay (h : Timetabled sh l) (hne : (sh.get i).state ≠ .empty) (hst : x.state = (sh.get i).state)
    (hid : x.id = (sh.get i).id) : Timetabled (sh.set i x) l := by
  have hstate (j : Fin 96) : ((sh.set i x).get j).state = (sh.get j).state := by
    rw [Tab.get_set]
    split
    · rename_i hi
      rw [hst, hi]
    · rfl
  have hids := ids_set h.2.2.2.2 (i := i) (x := x) fun _ j hj hs => by
    rw [hid]
    exact h.id_ne hne j hj hs
  obtain ⟨hord, hone, hkind, hempty, -⟩ := h
  refine ⟨hord, fun j => ?_, fun e he => ?_, fun j hj => ?_, hids⟩
  · rw [hstate]
    exact hone j
  · rw [hstate]
    exact hkind e he
  · rw [hstate] at hj
    rw [Tab.get_set, if_neg]
    · exact hempty j hj
    · rintro rfl
      exact hne hj

theorem timetabled_reset : Timetabled (Tab.fill 96 Showing.empty) [] := by
  refine ⟨.nil, fun i => ?_, fun e he => absurd he List.not_mem_nil, fun i _ => Tab.get_fill .., fun i j hi => ?_⟩
  · rw [Tab.get_fill]
    rfl
  · rw [Tab.get_fill] at hi
    exact absurd rfl hi

/-- A fired head's slot: the list with it and without it give one list with its next entry. -/
theorem nextList_cons_self (c : Sch) (clock : Nat) (e : SchedEntry) :
    nextList c clock e.slot x (e :: l) = nextList c clock e.slot x l := by
  unfold nextList
  rw [dropEntry_cons_self]

end Timetable

theorem scheduleOk_restsOn : RestsOn [.sch] ScheduleOk := fun s t h hs => by
  have hsch : t.sch = s.sch := h .sch (by simp)
  rw [scheduleOk_iff] at *
  rw [hsch]
  exact hs

end Sys2Proof.Machine
end

section
/-! PROOFS. Every command keeps the schedule in order with its one entry for each non-EMPTY showing (R15, R16). -/

namespace Sys2Proof.Machine

section Commands

variable {s : State}

theorem scheduleOk_scheduled {sh : Tab 96 Showing} {l : List SchedEntry} {slg : List ToSlg} {tst : List (Fin 96)} {ntc : List ToNtc}
    (h : Timetabled sh l) : ScheduleOk (s.scheduled sh l slg tst ntc) := h

theorem scheduleOk_noteCause {busy : Bool} {kind : Nat} (h : ScheduleOk s) : ScheduleOk (noteCause busy kind s) := h

theorem scheduleOk_fifo (rest : List Taken) (h : ScheduleOk s) : ScheduleOk (s.withFifo rest) := h

/-! ## Firing -/

section Fire

variable {kind : EntryKind} {ok : ShowState → Bool} {effect : Fin 96 → Nat → State → State}

/-- A firing keeps the schedule where its effect leaves one slot's showing and the slot's next entry fit. -/
theorem scheduleOk_fireHead (h : ScheduleOk s)
    (heff : ∀ (e : SchedEntry) (rest : List SchedEntry) (k : Nat), s.sch.list = e :: rest → e.kind = kind →
      ok (s.sch.showings.get e.slot).state = true →
      ScheduleOk (reschedule e.slot (effect e.slot k (s.handled s.sch.showings rest [] [] [])))) :
    ScheduleOk (fireHead kind ok effect s) := by
  unfold fireHead
  split
  · exact h
  · rename_i e rest hl
    split
    · rename_i hd
      obtain ⟨hk, -, hok⟩ := hd
      rw [withList_eq]
      exact heff e rest _ hl hk hok
    · exact h

/-- The showing of a due entry has a state that its kind fits. -/
theorem kindFits_head {e : SchedEntry} {rest : List SchedEntry} (h : ScheduleOk s) (hl : s.sch.list = e :: rest) :
    kindFits (s.sch.showings.get e.slot).state e.kind = true :=
  h.2.2.1 e (by simp [hl])

/-- The head's slot given a showing of a state that has a next entry, under the head's id. -/
theorem timetabled_fired {e : SchedEntry} {rest : List SchedEntry} {x : Showing} (h : ScheduleOk s) (hl : s.sch.list = e :: rest)
    (hid : x.id = (s.sch.showings.get e.slot).id) (hx : x.state ≠ .empty) (hxc : x.state ≠ .cancelled) :
    Timetabled (s.sch.showings.set e.slot x) (nextList s.sch s.lck.clock e.slot x rest) := by
  have hfits := kindFits_head h hl
  have hne : (s.sch.showings.get e.slot).state ≠ .empty := fun he => by
    rw [he] at hfits
    cases hfits
  rw [scheduleOk_iff, hl] at h
  rw [← nextList_cons_self]
  refine h.next hx hxc fun j hj hs => ?_
  rw [hid]
  exact h.id_ne hne j hj hs

/-- The head's slot emptied. -/
theorem timetabled_emptied {e : SchedEntry} {rest : List SchedEntry} (h : ScheduleOk s) (hl : s.sch.list = e :: rest) :
    Timetabled (s.sch.showings.set e.slot Showing.empty) (dropEntry e.slot rest) := by
  rw [scheduleOk_iff, hl] at h
  rw [← dropEntry_cons_self]
  exact h.leave e.slot

theorem scheduleOk_openAt (h : ScheduleOk s) : ScheduleOk (fireHead .openAt (· == .listed) openEffect s) := by
  refine scheduleOk_fireHead h fun e rest k hl _ _ => ?_
  rw [openEffect_handled, reschedule_scheduled, Tab.get_set_same]
  refine scheduleOk_scheduled (timetabled_fired h hl ?_ ?_ ?_) <;> simp

theorem scheduleOk_boardAt (h : ScheduleOk s) : ScheduleOk (fireHead .boardAt (· == .opened) boardEffect s) := by
  refine scheduleOk_fireHead h fun e rest k hl _ _ => ?_
  rw [boardEffect_handled, reschedule_scheduled, Tab.get_set_same]
  refine scheduleOk_scheduled (timetabled_fired h hl ?_ ?_ ?_) <;> simp

theorem scheduleOk_startAt (h : ScheduleOk s) : ScheduleOk (fireHead .startAt (· == .boarding) startEffect s) := by
  refine scheduleOk_fireHead h fun e rest k hl _ _ => ?_
  rw [startEffect_handled, reschedule_scheduled, Tab.get_set_same]
  refine scheduleOk_scheduled (timetabled_fired h hl ?_ ?_ ?_) <;> simp

theorem scheduleOk_endAt (h : ScheduleOk s) : ScheduleOk (fireHead .endAt (· == .running) endEffect s) := by
  refine scheduleOk_fireHead h fun e rest k hl _ _ => ?_
  by_cases hlate : s.sch.lateWindow < (s.sch.showings.get e.slot).runtime * 60
  · rw [endEffect_ended _ _ _ _ hlate, reschedule_scheduled, Tab.get_set_same]
    refine scheduleOk_scheduled (timetabled_fired h hl ?_ ?_ ?_) <;> simp
  · rw [endEffect_emptied _ _ _ _ (Nat.not_lt.1 hlate), reschedule_scheduled, Tab.get_set_same, nextList_empty]
    exact timetabled_emptied h hl

theorem scheduleOk_reapAt (h : ScheduleOk s) : ScheduleOk (fireHead .reapAt (fun st => st == .ended || st == .cancelled) reapEffect s) := by
  refine scheduleOk_fireHead h fun e rest k hl _ _ => ?_
  rw [reapEffect_handled, reschedule_scheduled, Tab.get_set_same, nextList_empty]
  exact timetabled_emptied h hl

/-- A countdown entry stands for a showing in OPEN or BOARDING only, and its next entry follows it (R16, R19). -/
theorem scheduleOk_countdown (hkind : kind = .windowAt ∨ kind = .minuteAt) (h : ScheduleOk s) :
    ScheduleOk (fireHead kind (fun _ => true) countdownEffect s) := by
  refine scheduleOk_fireHead h fun e rest k hl hk _ => ?_
  have hfits := kindFits_head h hl
  have hst : (s.sch.showings.get e.slot).state = .opened ∨ (s.sch.showings.get e.slot).state = .boarding := by
    cases hst : (s.sch.showings.get e.slot).state <;> rcases hkind with rfl | rfl <;> simp_all [kindFits]
  rw [countdownEffect_handled, reschedule_handled, scheduleOk_iff]
  have hnext := timetabled_fired (x := s.sch.showings.get e.slot) h hl rfl
    (by rcases hst with h | h <;> simp [h]) (by rcases hst with h | h <;> simp [h])
  rw [Tab.set_get] at hnext
  exact hnext

end Fire

/-! ## LISTING, CANCEL and REMOVE -/

/-- No non-EMPTY showing has an id that no slot holds. -/
theorem slotOf_none {id : Nat} (h : slotOf s id = none) (j : Fin 96) (hj : (s.sch.showings.get j).state ≠ .empty) :
    (s.sch.showings.get j).id ≠ some id := by
  have := List.find?_eq_none.1 h j (List.mem_finRange j)
  simpa [hj] using this

theorem slotOf_some {id : Nat} {slot : Fin 96} (h : slotOf s id = some slot) :
    (s.sch.showings.get slot).state ≠ .empty ∧ (s.sch.showings.get slot).id = some id := by
  have := List.find?_some h
  simpa using this

theorem scheduleOk_listing (f : ListingFields) (stamp : Nat) (h : ScheduleOk s) : ScheduleOk (applyListing f stamp s) := by
  unfold applyListing
  split
  · exact h
  · rename_i slot new hnew
    obtain ⟨-, hid, -⟩ := listingShowing_some hnew
    split
    · exact h
    · rename_i href
      rw [listingRefusal_eq hnew] at href
      refine scheduleOk_noteCause ?_
      split
      · rename_i he
        rw [if_pos he] at href
        have hno : slotOf s f.id = none := by
          by_contra hs
          rw [if_pos hs] at href
          cases href
        rw [newListing_eq hnew]
        refine scheduleOk_scheduled (((scheduleOk_iff s).1 h).next (by simp) (by simp) fun j _ hj => ?_)
        exact hid ▸ slotOf_none hno j hj
      · rename_i hne
        rw [if_neg hne] at href
        have hsame : (s.sch.showings.get slot).id = some f.id := by
          by_contra hs
          rw [if_pos hs] at href
          cases href
        have hcan : (s.sch.showings.get slot).state ≠ .cancelled := fun hc => by
          rw [if_neg (not_not.2 hsame), if_pos (.inr hc)] at href
          cases href
        rw [updateListing_eq]
        refine scheduleOk_scheduled (((scheduleOk_iff s).1 h).next (c := s.sch) (clock := s.lck.clock) (x := { new with
          state := (s.sch.showings.get slot).state, autoEntry := (s.sch.showings.get slot).autoEntry }) hne hcan fun j hj hs => ?_)
        exact (hid.trans hsame.symm) ▸ ((scheduleOk_iff s).1 h).id_ne hne j hj hs

theorem scheduleOk_cancel (id : Nat) (h : ScheduleOk s) : ScheduleOk (applyCancel id s) := by
  unfold applyCancel
  split
  · exact h
  · rename_i slot hs
    obtain ⟨hne, -⟩ := slotOf_some hs
    split
    · exact h
    · exact h
    · rw [cancelShowing_eq]
      refine scheduleOk_noteCause (scheduleOk_scheduled (((scheduleOk_iff s).1 h).enter rfl fun j hj hs => ?_))
      exact ((scheduleOk_iff s).1 h).id_ne hne j hj hs

theorem scheduleOk_remove (id : Nat) (h : ScheduleOk s) : ScheduleOk (applyRemove id s) := by
  unfold applyRemove
  split
  · exact h
  · rename_i slot _
    rw [removeShowing_eq]
    exact scheduleOk_noteCause (scheduleOk_scheduled (((scheduleOk_iff s).1 h).leave slot))

/-! ## The reports, the settings, the clock -/

theorem scheduleOk_raiseReport (h : ScheduleOk s) : ScheduleOk (doRaiseReport s) := by
  unfold doRaiseReport
  split
  · dsimp only
    split
    · unfold takeRaiseReport
      dsimp only
      split
      · rename_i hb
        obtain ⟨hst, -⟩ := hb
        exact ((scheduleOk_iff s).1 h).stay (by
          rw [State.withLinks_sch] at hst
          simp [hst]) rfl rfl
      · exact h
    · exact h
  · exact h

theorem scheduleOk_autoFree (h : ScheduleOk s) : ScheduleOk (doAutoFreeReport s) := by
  unfold doAutoFreeReport
  split
  · dsimp only
    split
    · unfold takeAutoFree
      split
      · rename_i slot _ _ _ hauto
        refine ((scheduleOk_iff s).1 h).stay (fun he => ?_) rfl rfl
        rw [State.withLinks_sch, h.2.2.2.1 _ he] at hauto
        cases hauto
      · exact h
    · exact h
  · exact h

theorem scheduleOk_filterLoad (h : ScheduleOk s) : ScheduleOk (doFilterLoadReport s) := by
  unfold doFilterLoadReport
  split
  · exact h
  · unfold evalRoster
    dsimp only
    split
    · exact h
    · exact h

theorem scheduleOk_reschedule {i : Fin 96} (hne : (s.sch.showings.get i).state ≠ .empty) (hnc : (s.sch.showings.get i).state ≠ .cancelled)
    (h : ScheduleOk s) : ScheduleOk (reschedule i s) := by
  have hs := reschedule_handled s s.sch.showings s.sch.list [] [] [] i
  rw [handled_nil] at hs
  rw [hs, scheduleOk_iff]
  have hnext := ((scheduleOk_iff s).1 h).next (c := s.sch) (clock := s.lck.clock) hne hnc (((scheduleOk_iff s).1 h).id_ne hne)
  rw [Tab.set_get] at hnext
  exact hnext

theorem reschedule_showings (i : Fin 96) (u : State) : (reschedule i u).sch.showings = u.sch.showings := by
  unfold reschedule Sch.reschedule
  split <;> rfl

theorem scheduleOk_rescheduleAll (h : ScheduleOk s) : ScheduleOk (rescheduleAll s) := by
  unfold rescheduleAll
  refine (foldl_preserves (I := fun u => ScheduleOk u ∧ u.sch.showings = s.sch.showings) _ (fun i hi u hu => ?_) ⟨h, rfl⟩).1
  obtain ⟨hok, hsame⟩ := hu
  obtain ⟨hfilled, hnc⟩ := List.mem_filter.1 hi
  have hne := (List.mem_filter.1 hfilled).2
  refine ⟨scheduleOk_reschedule ?_ ?_ hok, (reschedule_showings i u).trans hsame⟩
  · rw [hsame]
    simpa using hne
  · rw [hsame]
    simpa using hnc

theorem scheduleOk_setting {store : Sch → Sch} (hshow : (store s.sch).showings = s.sch.showings) (hlist : (store s.sch).list = s.sch.list)
    (h : ScheduleOk s) : ScheduleOk (applySchSetting store s) := by
  unfold applySchSetting
  refine scheduleOk_noteCause ?_
  rw [purgeOnSale_eq]
  have hall : ScheduleOk (rescheduleAll (s.withSch (store s.sch))) := by
    refine scheduleOk_rescheduleAll ?_
    rw [scheduleOk_iff] at *
    rw [State.withSch_sch, hshow, hlist]
    exact h
  exact hall

theorem scheduleOk_title (k : Nat) (v : TableBody) (h : ScheduleOk s) : ScheduleOk (applyTitle k v s) := by
  unfold applyTitle
  split
  · split
    · exact h
    · split
      · exact h
      · rw [purgeTitle, foldl_purge_sch]
        exact h
  · exact h

theorem scheduleOk_time (v : Nat) (h : ScheduleOk s) : ScheduleOk (setTime v s) := by
  unfold setTime
  dsimp only
  have hmoved : ScheduleOk (if min v Config.clockTop / 60 = s.lck.clock / 60 then s.withLck (s.lck.write (min v Config.clockTop))
      else raiseMinute (s.withLck (s.lck.write (min v Config.clockTop)))) := by
    split
    · exact h
    · exact h
  split
  · exact scheduleOk_noteCause hmoved
  · split
    · rw [purgeOnSale_eq]
      exact hmoved
    · exact hmoved

theorem scheduleOk_secondsPulse (h : ScheduleOk s) : ScheduleOk (doSecondsPulse s) := by
  unfold doSecondsPulse advanceClock
  dsimp only
  rw [raiseMinute_if]
  split
  · exact h
  · exact h

theorem scheduleOk_clockHold (h : ScheduleOk s) : ScheduleOk (doClockHold s) := by
  unfold doClockHold
  split
  · exact h
  · exact h

theorem scheduleOk_resetTake (b : Block) (h : ScheduleOk s) : ScheduleOk (doResetTake b s) := by
  refine scheduleOk_restsOn.resetTake (of_decide_eq_true rfl) (fun all u hu => ?_) h
  cases b with
  | sch => cases all <;> exact timetabled_reset
  | _ => exact scheduleOk_restsOn.keeps (resetBlock_keeps _ all u) (of_decide_eq_true rfl) hu

end Commands

theorem scheduleOk_exec (c : Instr) (s t : State) (h : ScheduleOk s) (hc : exec c s = .next t) : ScheduleOk t := by
  cases c with
  | openAt => exact running_preserves (fun _ => scheduleOk_openAt) h hc
  | windowAt => exact running_preserves (fun _ => scheduleOk_countdown (.inl rfl)) h hc
  | minuteAt => exact running_preserves (fun _ => scheduleOk_countdown (.inr rfl)) h hc
  | boardAt => exact running_preserves (fun _ => scheduleOk_boardAt) h hc
  | startAt => exact running_preserves (fun _ => scheduleOk_startAt) h hc
  | endAt => exact running_preserves (fun _ => scheduleOk_endAt) h hc
  | reapAt => exact running_preserves (fun _ => scheduleOk_reapAt) h hc
  | listing =>
    refine running_preserves (fun _ hs => deliver_preserves hs (fun _ rest _ => scheduleOk_fifo rest hs) fun p act hp c u hu => ?_) h hc
    cases p <;> cases hp
    exact scheduleOk_listing _ _ hu
  | cancel =>
    refine running_preserves (fun _ hs => deliver_preserves hs (fun _ rest _ => scheduleOk_fifo rest hs) fun p act hp c u hu => ?_) h hc
    cases p <;> cases hp
    exact scheduleOk_cancel _ hu
  | remove =>
    refine running_preserves (fun _ hs => deliver_preserves hs (fun _ rest _ => scheduleOk_fifo rest hs) fun p act hp c u hu => ?_) h hc
    cases p <;> cases hp
    exact scheduleOk_remove _ hu
  | time =>
    refine running_preserves (fun _ hs => deliver_preserves hs (fun _ rest _ => scheduleOk_fifo rest hs) fun p act hp c u hu => ?_) h hc
    cases p <;> cases hp
    exact scheduleOk_time _ hu
  | secondsPulse => exact running_preserves (fun _ => scheduleOk_secondsPulse) h hc
  | clockHold => exact running_preserves (fun _ => scheduleOk_clockHold) h hc
  | raiseReport => exact running_preserves (fun _ => scheduleOk_raiseReport) h hc
  | autoFreeReport => exact running_preserves (fun _ => scheduleOk_autoFree) h hc
  | filterLoadReport => exact running_preserves (fun _ => scheduleOk_filterLoad) h hc
  | setListLead => exact running_preserves (fun _ hs => deliver_set_preserves hs (fun _ rest _ => scheduleOk_fifo rest hs)
      fun _ _ _ hu => scheduleOk_setting rfl rfl hu) h hc
  | setCountdownWindow => exact running_preserves (fun _ hs => deliver_set_preserves hs (fun _ rest _ => scheduleOk_fifo rest hs)
      fun _ _ _ hu => scheduleOk_setting rfl rfl hu) h hc
  | setBoardLead => exact running_preserves (fun _ hs => deliver_set_preserves hs (fun _ rest _ => scheduleOk_fifo rest hs)
      fun _ _ _ hu => scheduleOk_setting rfl rfl hu) h hc
  | setLateWindow => exact running_preserves (fun _ hs => deliver_set_preserves hs (fun _ rest _ => scheduleOk_fifo rest hs)
      fun _ _ _ hu => scheduleOk_setting rfl rfl hu) h hc
  | tableTitle => exact running_preserves (fun _ hs => deliver_table_preserves hs (fun _ rest _ => scheduleOk_fifo rest hs)
      fun k v _ hu => scheduleOk_title k v hu) h hc
  | resetTake b => exact running_preserves (fun _ => scheduleOk_resetTake b) h hc
  | pinReset =>
    cases hc
    exact timetabled_reset
  | _ => exact scheduleOk_restsOn.exec hc (of_decide_eq_true rfl) h

/-- Settles O9: every command keeps the schedule. -/
theorem scheduleStaysOk : Obligations.ScheduleStaysOk := by
  unfold Obligations.ScheduleStaysOk
  exact step_of_exec scheduleOk_restsOn (by decide) scheduleOk_exec

end Sys2Proof.Machine
end

section
/-! PROOFS. The RESETs taken agree: every block has taken as many as the TIF but for one that it is still waited for (R178). -/

namespace Sys2Proof.Machine

/-- A RESET in delivery still waits for a block. -/
def waitsFor (r : Option Resetting) (b : Block) : Prop := ∃ x ∈ r, b ∈ x.waiting

/-- The RESET packets of the known types. -/
def isReset (p : Option Packet) : Prop := p = some (.reset 1) ∨ p = some (.reset 2)

/-- What `ResetsOk` says, of the numbers taken, the FIFO and the RESET in delivery alone. -/
def TakenOk (taken : Tab 9 Nat) (fifo : List Taken) (r : Option Resetting) : Prop :=
  (∀ b, (waitsFor r b → taken.get (blockIx b) + 1 = taken.get 0) ∧ (¬ waitsFor r b → taken.get (blockIx b) = taken.get 0))
    ∧ (r.isSome = true → isReset (fifo.head?.map fun t => t.packet))

theorem awaitsReset_iff (b : Block) (s : State) : awaitsReset b s = true ↔ waitsFor s.tif.resetting b := by
  unfold awaitsReset waitsFor
  split <;> simp [*]

theorem resetsOk_iff (s : State) : ResetsOk s ↔ TakenOk s.taken s.tif.fifo s.tif.resetting := by
  have hall (b : Block) : b ∈ Block.tif :: otherBlocks := by cases b <;> decide
  refine and_congr_left fun _ => ⟨fun h b => ?_, fun h b _ => ?_⟩
  · have hb := h b (hall b)
    refine ⟨fun hw => ?_, fun hw => ?_⟩
    · rwa [if_pos ((awaitsReset_iff b s).2 hw)] at hb
    · rwa [if_neg fun ha => hw ((awaitsReset_iff b s).1 ha)] at hb
  · obtain ⟨hw, hn⟩ := h b
    split
    · rename_i ha
      exact hw ((awaitsReset_iff b s).1 ha)
    · rename_i ha
      exact hn fun hw => ha ((awaitsReset_iff b s).2 hw)

section TakenFacts

variable {taken : Tab 9 Nat} {fifo : List Taken} {r : Option Resetting}

/-- With no RESET in delivery every block has taken as many. -/
theorem TakenOk.same (h : TakenOk taken fifo none) (b c : Block) : taken.get (blockIx b) = taken.get (blockIx c) := by
  have hno (b : Block) : ¬ waitsFor none b := by
    rintro ⟨x, hx, -⟩
    cases hx
  exact ((h.1 b).2 (hno b)).trans ((h.1 c).2 (hno c)).symm

/-- A packet at the head that is no RESET says that none is in delivery. -/
theorem TakenOk.none_of_head {x : Taken} {rest : List Taken} (h : TakenOk taken (x :: rest) r) (h1 : x.packet ≠ .reset 1)
    (h2 : x.packet ≠ .reset 2) : r = none := by
  cases r with
  | none => rfl
  | some r => exact absurd (h.2 rfl) (by simp [isReset, h1, h2])

theorem TakenOk.append (h : TakenOk taken fifo r) (x : Taken) : TakenOk taken (fifo ++ [x]) r := by
  refine ⟨h.1, fun hr => ?_⟩
  cases fifo with
  | nil => exact absurd (h.2 hr) (by simp [isReset])
  | cons y fifo => exact h.2 hr

theorem blockIx_injective {b c : Block} (h : blockIx b = blockIx c) : b = c := by
  cases b <;> cases c <;> simp_all [blockIx]

/-- The TIF is not waited for. -/
theorem TakenOk.not_tif (h : TakenOk taken fifo r) : ¬ waitsFor r .tif := fun hw => by
  have htif : taken.get 0 + 1 = taken.get 0 := (h.1 .tif).1 hw
  omega

end TakenFacts

theorem resetsOk_restsOn : RestsOn [.taken, .fifo, .resetting] ResetsOk := fun s t h hs => by
  have htaken : t.taken = s.taken := h .taken (by simp)
  have hfifo : t.tif.fifo = s.tif.fifo := h .fifo (by simp)
  have hr : t.tif.resetting = s.tif.resetting := h .resetting (by simp)
  rw [resetsOk_iff] at *
  rw [htaken, hfifo, hr]
  exact hs

section Commands

variable {s t : State}

/-- What a command takes out of the FIFO is no RESET in delivery. -/
theorem resetsOk_consumes (hc : Consumes s t) (h : ResetsOk s) : ResetsOk t := by
  obtain rfl | ⟨x, rest, hx, h1, h2, rfl⟩ := hc
  · exact h
  · rw [resetsOk_iff] at *
    rw [hx] at h
    have hnone := h.none_of_head h1 h2
    rw [hnone] at h
    show TakenOk s.taken rest s.tif.resetting
    rw [hnone]
    exact ⟨h.1, by simp⟩

theorem resetsOk_runs {w : List Part} (hr : Runs w s t) (hd : ∀ p ∈ [Part.taken, .fifo, .resetting], p ∉ w) (h : ResetsOk s) : ResetsOk t := by
  obtain ⟨u, hc, hk⟩ := hr
  exact resetsOk_restsOn.keeps hk hd (resetsOk_consumes hc h)

theorem resetsOk_packetReceive (f : TrunkFrame) (h : ResetsOk s) : ResetsOk (doPacketReceive f s) := by
  obtain ⟨hfifo, hr, -, -⟩ := receive_frame s.lck.clock f (enumerate s.tif)
  obtain ⟨hef, her, -, -⟩ := enumerate_frame s.tif
  rw [resetsOk_iff, ← hef, ← her] at h
  rw [resetsOk_iff]
  show TakenOk s.taken (receive s.lck.clock f (enumerate s.tif)).fifo (receive s.lck.clock f (enumerate s.tif)).resetting
  rw [hr]
  rcases hfifo with hf | ⟨x, -, hf⟩
  · rw [hf]
    exact h
  · rw [hf]
    exact h.append x

theorem onReset_resetting (all : Bool) (x : Tif) : (Tif.onReset all x).resetting = some ⟨all, otherBlocks⟩ := by cases all <;> rfl

theorem mem_otherBlocks (b : Block) : b ∈ otherBlocks ↔ b ≠ .tif := by cases b <;> decide

theorem blockIx_eq_zero (b : Block) : blockIx b = 0 ↔ b = .tif := by cases b <;> decide

/-- The TIF takes a RESET, and then all the others are waited for. -/
theorem resetsOk_begin {n : Nat} (hn : n = 1 ∨ n = 2) (all : Bool) (hh : headReset n s = true) (h : ResetsOk s) :
    ResetsOk (beginReset all s) := by
  rw [resetsOk_iff] at *
  unfold headReset at hh
  split at hh
  · rename_i x rest hfifo hnone
    have hpacket : x.packet = .reset n := by simpa using hh
    rw [hnone, hfifo] at h
    show TakenOk (s.taken.modify (blockIx .tif) fun n => n + 1) (Tif.onReset all s.tif).fifo (Tif.onReset all s.tif).resetting
    rw [onReset_fifo, onReset_resetting, hfifo]
    have hone : (s.taken.modify (blockIx .tif) fun n => n + 1).get 0 = s.taken.get 0 + 1 := Tab.get_modify_same ..
    refine ⟨fun b => ?_, fun _ => ?_⟩
    · have hw : waitsFor (some ⟨all, otherBlocks⟩) b ↔ b ≠ .tif := by simp [waitsFor, mem_otherBlocks]
      rw [hw, hone]
      by_cases hb : b = .tif
      · subst hb
        exact ⟨fun hne => absurd rfl hne, fun _ => hone⟩
      · have hne : (0 : Fin 9) ≠ blockIx b := fun e => hb ((blockIx_eq_zero b).1 e.symm)
        rw [show blockIx .tif = 0 from rfl, Tab.get_modify_ne _ _ hne, h.same b .tif]
        exact ⟨fun _ => rfl, fun h => absurd hb h⟩
    · rcases hn with rfl | rfl
      · exact .inl (by simp [hpacket])
      · exact .inr (by simp [hpacket])
  · cases hh

/-- A RESET taken by a block: it is waited for no more, and the last one ends the delivery. -/
theorem TakenOk.take {taken : Tab 9 Nat} {x : Tif} {r : Resetting} {b : Block} (h : TakenOk taken x.fifo (some r)) (hb : b ∈ r.waiting) :
    TakenOk (taken.modify (blockIx b) fun n => n + 1) (Tif.resetTaken b r x).fifo (Tif.resetTaken b r x).resetting := by
  have hnt : b ≠ .tif := by
    rintro rfl
    exact h.not_tif ⟨r, rfl, hb⟩
  have hwait (c : Block) : waitsFor (Tif.resetTaken b r x).resetting c ↔ waitsFor (some r) c ∧ c ≠ b := by
    unfold Tif.resetTaken
    dsimp only
    split
    · rename_i hempty
      rw [List.isEmpty_iff, List.filter_eq_nil_iff] at hempty
      refine ⟨fun ⟨y, hy, _⟩ => (by cases hy), fun ⟨⟨y, hy, hc⟩, hne⟩ => ?_⟩
      cases hy
      exact absurd (by simpa using hne) (hempty c hc)
    · simp [waitsFor]
  have htif : (taken.modify (blockIx b) fun n => n + 1).get 0 = taken.get 0 :=
    Tab.get_modify_ne _ _ fun e => hnt ((blockIx_eq_zero b).1 e)
  refine ⟨fun c => ?_, fun hsome => ?_⟩
  · rw [hwait, htif, Tab.get_modify]
    obtain ⟨hw, hn⟩ := h.1 c
    by_cases hcb : c = b
    · subst hcb
      rw [if_pos rfl]
      exact ⟨fun h => absurd rfl h.2, fun _ => hw ⟨r, rfl, hb⟩⟩
    · rw [if_neg fun e => hcb (blockIx_injective e).symm]
      exact ⟨fun hc => hw hc.1, fun hc => hn fun hwc => hc ⟨hwc, hcb⟩⟩
  · unfold Tif.resetTaken at hsome ⊢
    dsimp only at hsome ⊢
    split at hsome
    · cases hsome
    · rename_i hne
      rw [if_neg hne]
      exact h.2 rfl

theorem resetWrites_spares (b : Block) : ∀ p ∈ [Part.taken, .fifo, .resetting], p ∉ resetWrites b := by cases b <;> decide

theorem resetsOk_resetTake (b : Block) (h : ResetsOk s) : ResetsOk (doResetTake b s) := by
  unfold doResetTake
  split
  · exact h
  · rename_i r hr
    split
    · rename_i hw
      have hmem : b ∈ r.waiting := by
        have := (Bool.and_eq_true_iff.1 hw).1
        simpa using this
      have hk : Keeps (resetWrites b) (countReset b s) (resetBlock b r.all (countReset b s)) := resetBlock_keeps b r.all _
      have hspared := resetWrites_spares b
      rw [resetsOk_iff] at *
      have hfifo : (resetBlock b r.all (countReset b s)).tif.fifo = s.tif.fifo := hk.fifo (hspared .fifo (by simp))
      rw [hr, ← hfifo] at h
      have htaken := hk.taken (hspared .taken (by simp))
      have hok := h.take (x := (resetBlock b r.all (countReset b s)).tif) hmem
      show TakenOk (resetBlock b r.all (countReset b s)).taken _ _
      rw [htaken]
      exact hok
    · exact h

theorem resetsOk_reset : ResetsOk State.reset := by decide

end Commands

theorem resetsOk_exec (c : Instr) (s t : State) (h : ResetsOk s) (hc : exec c s = .next t) : ResetsOk t := by
  have hruns (hd : ∀ p ∈ [Part.taken, .fifo, .resetting], p ∉ writes c) : ResetsOk t := by
    obtain ⟨u, hu, hr⟩ := exec_runs c s
    cases hu.symm.trans hc
    exact resetsOk_runs hr hd h
  cases c with
  | packetReceive f => exact running_preserves (fun _ => resetsOk_packetReceive f) h hc
  | resetAll =>
    refine running_preserves (fun _ h => ?_) h hc
    split
    · exact resetsOk_begin (.inr rfl) true ‹_› h
    · exact h
  | resetOps =>
    refine running_preserves (fun _ h => ?_) h hc
    split
    · exact resetsOk_begin (.inl rfl) false ‹_› h
    · exact h
  | resetTake b => exact running_preserves (fun _ => resetsOk_resetTake b) h hc
  | pinReset =>
    cases hc
    exact resetsOk_reset
  | _ => exact hruns (of_decide_eq_true rfl)

end Sys2Proof.Machine
end

section
/-! PROOFS. The seats and the holds counted (R37, R45): the sums over the hold table, and what each operation on an entry does to them. -/

namespace Sys2Proof.Machine

/-! ## Sums over the hold table -/

/-- The sum of a weight over the LIVE holds. -/
def heldSum (f : Hold → Nat) (holds : Tab 64 (Option Hold)) : Nat := ∑ i, (holds.get i).elim 0 f

theorem sum_holdsWith (w : Hold → Nat) (p : Hold → Bool) (g : Slg) :
    ((holdsWith p g).map w).sum = heldSum (fun h => if p h = true then w h else 0) g.holds := by
  have hlist (l : List (Fin 64)) : (((l.filterMap g.holds.get).filter p).map w).sum
      = (l.map fun i => (g.holds.get i).elim 0 fun h => if p h = true then w h else 0).sum := by
    induction l with
    | nil => rfl
    | cons i l ih =>
      cases hi : g.holds.get i with
      | none => simpa [hi] using ih
      | some h => by_cases hp : p h = true <;> simp [hi, hp, ih]
  rw [← holdsAt_fins, heldSum, Fin.sum_univ_def]
  exact hlist _

theorem length_holdsWith (p : Hold → Bool) (g : Slg) :
    (holdsWith p g).length = heldSum (fun h => if p h = true then 1 else 0) g.holds := by
  rw [← sum_holdsWith]
  simp

/-- An entry replaced: its weight leaves the sum, and the new one's joins it. -/
theorem heldSum_set (f : Hold → Nat) (t : Tab 64 (Option Hold)) (i : Fin 64) (x : Option Hold) :
    heldSum f (t.set i x) + (t.get i).elim 0 f = heldSum f t + x.elim 0 f := by
  unfold heldSum
  rw [← Finset.add_sum_erase Finset.univ (fun j => ((t.set i x).get j).elim 0 f) (Finset.mem_univ i),
    ← Finset.add_sum_erase Finset.univ (fun j => (t.get j).elim 0 f) (Finset.mem_univ i), Tab.get_set_same]
  have hrest : ∑ j ∈ Finset.univ.erase i, ((t.set i x).get j).elim 0 f = ∑ j ∈ Finset.univ.erase i, (t.get j).elim 0 f :=
    Finset.sum_congr rfl fun j hj => by rw [Tab.get_set_ne _ _ (Finset.ne_of_mem_erase hj).symm]
  omega

/-- A LIVE entry's weight is part of the sum. -/
theorem le_heldSum {f : Hold → Nat} {t : Tab 64 (Option Hold)} {i : Fin 64} {h : Hold} (hi : t.get i = some h) : f h ≤ heldSum f t := by
  have := heldSum_set f t i none
  rw [hi] at this
  simp only [Option.elim] at this
  omega

/-! ## What `HoldsOk` counts -/

/-- H, the holds owned and the keys agree with the hold table (R37, R45). -/
def Counted (g : Slg) : Prop :=
  (∀ i, (g.ledger.get i).H = heldSum (fun h => if h.slot = i then h.seats else 0) g.holds)
    ∧ (∀ d, (g.desks.get d).owned = heldSum (fun h => if h.desk = d then 1 else 0) g.holds)
    ∧ ∀ i j h k, g.holds.get i = some h → g.holds.get j = some k → h.desk = k.desk → h.tag = k.tag → i = j

/-- Only an OPEN desk owns holds (R45). -/
def Shut (g : Slg) : Prop := ∀ d, (g.desks.get d).state ≠ .opened → (g.desks.get d).owned = 0

/-- Some hold names a slot. -/
def Holding (g : Slg) (i : Fin 96) : Prop := ∃ j h, g.holds.get j = some h ∧ h.slot = i

theorem mem_holdsWith {p : Hold → Bool} {g : Slg} {h : Hold} : h ∈ holdsWith p g ↔ (∃ j, g.holds.get j = some h) ∧ p h = true := by
  rw [← holdsAt_fins, holdsAt, List.mem_filter, List.mem_filterMap]
  simp [fins]

theorem holdsWith_slot_nil (g : Slg) (i : Fin 96) : holdsWith (fun h => h.slot == i) g = [] ↔ ¬ Holding g i := by
  rw [List.eq_nil_iff_forall_not_mem]
  simp only [mem_holdsWith, beq_iff_eq, Holding]
  exact ⟨fun h ⟨j, x, hj, hx⟩ => h x ⟨⟨j, hj⟩, hx⟩, fun h x ⟨⟨j, hj⟩, hx⟩ => h ⟨j, x, hj, hx⟩⟩

theorem holdsWith_all_nil (g : Slg) : holdsWith (fun _ => true) g = [] ↔ ∀ i, ¬ Holding g i := by
  rw [List.eq_nil_iff_forall_not_mem]
  simp only [mem_holdsWith, and_true, Holding]
  exact ⟨fun h i ⟨j, x, hj, _⟩ => h x ⟨j, hj⟩, fun h x ⟨j, hj⟩ => h x.slot ⟨j, x, hj, rfl⟩⟩

/-- No two holds have one key, said of the entries. -/
theorem keys_nodup_iff (g : Slg) : ((holdsWith (fun _ => true) g).map fun h => (h.desk, h.tag)).Nodup
    ↔ ∀ i j h k, g.holds.get i = some h → g.holds.get j = some k → h.desk = k.desk → h.tag = k.tag → i = j := by
  have hlist : holdsWith (fun _ => true) g = (fins 64).filterMap g.holds.get := by
    rw [← holdsAt_fins, holdsAt, List.filter_true]
  rw [hlist, List.Nodup, List.pairwise_map, List.pairwise_filterMap]
  have hsymm : Std.Symm fun i j : Fin 64 => ∀ h, g.holds.get i = some h → ∀ k, g.holds.get j = some k → (h.desk, h.tag) ≠ (k.desk, k.tag) :=
    ⟨fun i j hij h hh k hk he => hij k hk h hh he.symm⟩
  constructor
  · intro hpw i j h k hi hj hd ht
    by_contra hne
    exact hpw.forall (List.mem_finRange i) (List.mem_finRange j) hne h hi k hj (by rw [hd, ht])
  · intro hall
    refine List.Pairwise.imp_of_mem (fun {i j} _ _ hne h hi k hj he => hne ?_) (List.nodup_finRange 64)
    obtain ⟨hd, ht⟩ := Prod.mk.injEq .. ▸ he
    exact hall i j h k hi hj hd ht

theorem holdsOk_iff (s : State) : HoldsOk s ↔ Counted s.slg ∧ Shut s.slg := by
  unfold HoldsOk Counted Shut
  simp only [seatSum, sum_holdsWith, length_holdsWith, keys_nodup_iff, beq_iff_eq]
  tauto

end Sys2Proof.Machine
end

section
/-! PROOFS. Every command of the ledger but HOLD and the opening tally keeps the counts and adds no hold of any showing
(R28, R34, R41 to R50). -/

namespace Sys2Proof.Machine

/-- `t` keeps the counts of `s`, and holds no showing that `s` does not hold. -/
structure Sheds (s t : State) : Prop where
  counted : Counted s.slg → Counted t.slg
  shut : Counted s.slg → Shut s.slg → Shut t.slg
  fewer : ∀ i, Holding t.slg i → Holding s.slg i

section Sheds

variable {s t u : State}

theorem Sheds.refl (s : State) : Sheds s s := ⟨id, fun _ => id, fun _ => id⟩

theorem Sheds.trans (h : Sheds s t) (k : Sheds t u) : Sheds s u :=
  ⟨fun hc => k.counted (h.counted hc), fun hc hs => k.shut (h.counted hc) (h.shut hc hs), fun i hi => h.fewer i (k.fewer i hi)⟩

/-- The counts depend on H, on the holds and on the desks' states and numbers only. -/
theorem sheds_of_same (hH : ∀ i, (t.slg.ledger.get i).H = (s.slg.ledger.get i).H) (hh : t.slg.holds = s.slg.holds)
    (hd : ∀ d, (t.slg.desks.get d).owned = (s.slg.desks.get d).owned)
    (hst : ∀ d, (t.slg.desks.get d).state ≠ .opened → (s.slg.desks.get d).state ≠ .opened ∨ (s.slg.desks.get d).owned = 0) :
    Sheds s t := by
  refine ⟨fun ⟨h1, h2, h3⟩ => ⟨fun i => ?_, fun d => ?_, ?_⟩, fun _ hs d hne => ?_, fun i ⟨j, h, hj, hi⟩ => ⟨j, h, hh ▸ hj, hi⟩⟩
  · rw [hH, hh, h1]
  · rw [hd, hh, h2]
  · rwa [hh]
  · rw [hd]
    exact (hst d hne).elim (hs d) id

theorem sheds_of_slg (h : t.slg = s.slg) : Sheds s t :=
  sheds_of_same (by simp [h]) (by rw [h]) (by simp [h]) (fun d hd => .inl (by rwa [← h]))

theorem foldl_sheds {α : Type} {f : State → α → State} (hf : ∀ a u, Sheds u (f u a)) (l : List α) (s : State) : Sheds s (l.foldl f s) := by
  induction l generalizing s with
  | nil => exact .refl s
  | cons a l ih => exact (hf a s).trans (ih (f s a))

/-! ## Records and desks -/

theorem sheds_setLedger (slot : Fin 96) {f : Ledger → Ledger} (hf : ∀ l, (f l).H = l.H) (s : State) : Sheds s (setLedger slot f s) := by
  refine sheds_of_same (fun i => ?_) rfl (fun _ => rfl) fun _ h => .inl h
  rw [setLedger_eq]
  dsimp only
  rw [Tab.get_set]
  split
  · rename_i hi
    rw [hf, hi]
  · rfl

theorem sheds_setDesk (d : Fin 16) {f : Desk → Desk} (ho : ∀ k, (f k).owned = k.owned)
    (hs : (f (s.slg.desks.get d)).state ≠ .opened → (s.slg.desks.get d).state ≠ .opened ∨ (s.slg.desks.get d).owned = 0) :
    Sheds s (setDesk d f s) := by
  have hget (e : Fin 16) : (setDesk d f s).slg.desks.get e = if d = e then f (s.slg.desks.get e) else s.slg.desks.get e := Tab.get_modify ..
  refine sheds_of_same (fun _ => rfl) rfl (fun e => ?_) fun e h => ?_
  · rw [hget]
    split
    · exact ho _
    · rfl
  · rw [hget] at h
    split at h
    · rename_i hde
      subst hde
      exact hs h
    · exact .inl h

theorem clearSoldout_H (l : Ledger) : (clearSoldout l).H = l.H := by
  unfold clearSoldout
  split <;> rfl

theorem sheds_refigured (st : ShowState) (slot : Fin 96) (cause : Nat) (s : State) : Sheds s (s.refigured st slot cause) := by
  refine sheds_of_same (fun i => ?_) rfl (fun _ => rfl) fun _ h => .inl h
  unfold State.refigured
  dsimp only
  rw [Tab.get_set]
  split
  · rename_i hi
    rw [hi]
  · rfl

theorem sheds_recomputeAs (st : ShowState) (slot : Fin 96) (cause : Nat) (s : State) : Sheds s (recomputeAs st slot cause s) := by
  rw [recomputeAs_eq_refigured]
  exact sheds_refigured st slot cause s

theorem sheds_recompute (slot : Fin 96) (cause : Nat) (s : State) : Sheds s (recompute slot cause s) := by
  unfold recompute
  split
  · exact sheds_recomputeAs ..
  · exact .refl s

theorem sheds_recomputeEach (slots : List (Fin 96)) (cause : Nat) (s : State) : Sheds s (recomputeEach slots cause s) :=
  foldl_sheds (fun i u => sheds_recompute i cause u) slots s

theorem sheds_markOversold (slot : Fin 96) (s : State) : Sheds s (markOversold slot s) :=
  sheds_setLedger slot (f := fun l => { l with oversold := isOversold l }) (fun _ => rfl) s

theorem sheds_evalOversold (slot : Fin 96) (s : State) : Sheds s (evalOversold slot s) := by
  unfold evalOversold
  dsimp only
  split
  · exact (sheds_markOversold slot s).trans (sheds_of_slg rfl)
  · exact sheds_markOversold slot s

/-! ## Tallies -/

theorem sheds_applyTally (slot : Fin 96) (sold blocked stamp cause : Nat) (s : State) :
    Sheds s (applyTally slot sold blocked stamp cause s) :=
  (sheds_setLedger slot (f := tallyRecord sold blocked stamp) (fun _ => rfl) s).trans ((sheds_evalOversold slot _).trans (sheds_recompute slot cause _))

theorem sheds_takeTally (id sold blocked stamp : Nat) (s : State) : Sheds s (takeTally id sold blocked stamp s) := by
  unfold takeTally
  split
  · exact sheds_of_slg rfl
  · split
    · exact sheds_applyTally ..
    · exact sheds_of_slg rfl

/-! ## Entries freed -/

/-- An entry freed: its seats leave H, its desk owns one less, and both are what the holds left say. -/
theorem sheds_freeEntry {i : Fin 64} {h : Hold} (hi : s.slg.holds.get i = some h) : Sheds s (freeEntry i h s) := by
  have hholds : (freeEntry i h s).slg.holds = s.slg.holds.set i none := rfl
  have hledger (j : Fin 96) : ((freeEntry i h s).slg.ledger.get j).H
      = (s.slg.ledger.get j).H - if h.slot = j then h.seats else 0 := by
    have hget : (freeEntry i h s).slg.ledger = s.slg.ledger.modify h.slot fun l => { l with H := l.H - h.seats } := rfl
    rw [hget, Tab.get_modify]
    split <;> simp
  have hdesk (d : Fin 16) : ((freeEntry i h s).slg.desks.get d).owned = (s.slg.desks.get d).owned - (if h.desk = d then 1 else 0)
      ∧ ((freeEntry i h s).slg.desks.get d).state = (s.slg.desks.get d).state := by
    have hget : (freeEntry i h s).slg.desks = s.slg.desks.modify h.desk fun d => { d with owned := d.owned - 1 } := rfl
    rw [hget, Tab.get_modify]
    split <;> simp
  have hsum (f : Hold → Nat) : heldSum f (s.slg.holds.set i none) = heldSum f s.slg.holds - f h := by
    have := heldSum_set f s.slg.holds i none
    rw [hi] at this
    simp only [Option.elim] at this
    omega
  have hleft {j : Fin 64} {k : Hold} (hj : (s.slg.holds.set i none).get j = some k) : s.slg.holds.get j = some k := by
    rw [Tab.get_set] at hj
    split at hj
    · cases hj
    · exact hj
  refine ⟨fun ⟨h1, h2, h3⟩ => ⟨fun j => ?_, fun d => ?_, fun a b x y ha hb => ?_⟩, fun _ hs d hne => ?_, fun j ⟨a, x, ha, hx⟩ => ?_⟩
  · rw [hledger, hholds, hsum, h1]
  · rw [(hdesk d).1, hholds, hsum, h2]
  · rw [hholds] at ha hb
    exact h3 a b x y (hleft ha) (hleft hb)
  · rw [(hdesk d).2] at hne
    rw [(hdesk d).1, hs d hne]
    exact Nat.zero_sub _
  · rw [hholds] at ha
    exact ⟨a, x, hleft ha, hx⟩

theorem sheds_dropIf (p : Hold → Bool) (i : Fin 64) (s : State) : Sheds s (dropIf p i s) := by
  unfold dropIf
  split
  · rename_i h hi
    split
    · exact sheds_freeEntry hi
    · exact .refl s
  · exact .refl s

theorem sheds_dropHolds (p : Hold → Bool) (s : State) : Sheds s (dropHolds p s) := foldl_sheds (fun i u => sheds_dropIf p i u) _ s

/-- No hold that meets `p` is left. -/
theorem dropHolds_none {p : Hold → Bool} {i : Fin 64} {h : Hold} (hi : (dropHolds p s).slg.holds.get i = some h) : p h = false := by
  rw [dropHolds_eq_dropped] at hi
  have hget : (s.dropped p).slg.holds.get i = (s.slg.holds.get i).filter fun h => !p h := Tab.get_make ..
  rw [hget, Option.filter_eq_some_iff] at hi
  simpa using hi.2

/-- With its holds dropped a showing is not held. -/
theorem dropHolds_slot (slot : Fin 96) (s : State) : ¬ Holding (dropHolds (fun h => h.slot == slot) s).slg slot := by
  rintro ⟨j, h, hj, hslot⟩
  have := dropHolds_none hj
  simp [hslot] at this

/-- The sum over no hold of its kind. -/
theorem heldSum_eq_zero {f : Hold → Nat} {t : Tab 64 (Option Hold)} (h : ∀ i x, t.get i = some x → f x = 0) : heldSum f t = 0 := by
  refine Finset.sum_eq_zero fun i _ => ?_
  cases hi : t.get i with
  | none => rfl
  | some x => exact h i x hi

/-- With its holds dropped a desk owns none. -/
theorem dropHolds_desk {d : Fin 16} (h : Counted s.slg) : ((dropHolds (fun h => h.desk == d) s).slg.desks.get d).owned = 0 := by
  rw [((sheds_dropHolds _ s).counted h).2.1 d]
  refine heldSum_eq_zero fun i x hi => ?_
  have := dropHolds_none hi
  simpa using this

/-- A desk shut and its holds dropped, in the order of the model. -/
theorem sheds_shutDesk (d : Fin 16) {f : Desk → Desk} (ho : ∀ k, (f k).owned = k.owned) {v : State}
    (hv : v.slg.ledger = (setDesk d f s).slg.ledger ∧ v.slg.holds = (setDesk d f s).slg.holds ∧ v.slg.desks = (setDesk d f s).slg.desks) :
    Sheds s (dropHolds (fun h => h.desk == d) v) := by
  obtain ⟨hl, hh, hd⟩ := hv
  have hget (e : Fin 16) : v.slg.desks.get e = if d = e then f (s.slg.desks.get e) else s.slg.desks.get e := by
    rw [hd]
    exact Tab.get_modify ..
  have hcounted (hc : Counted s.slg) : Counted v.slg := by
    obtain ⟨h1, h2, h3⟩ := hc
    refine ⟨fun i => ?_, fun e => ?_, ?_⟩
    · rw [hl, hh]
      exact h1 i
    · rw [hget, hh]
      split
      · rw [ho]
        exact h2 e
      · exact h2 e
    · rw [hh]
      exact h3
  have hdrop := sheds_dropHolds (fun h => h.desk == d) v
  refine ⟨fun hc => hdrop.counted (hcounted hc), fun hc hs e hne => ?_, fun i hi => ?_⟩
  · by_cases hde : d = e
    · subst hde
      exact dropHolds_desk (hcounted hc)
    · have hle : ((dropHolds (fun h => h.desk == d) v).slg.desks.get e).owned ≤ (v.slg.desks.get e).owned
          ∧ ((dropHolds (fun h => h.desk == d) v).slg.desks.get e).state = (v.slg.desks.get e).state := by
        rw [dropHolds_eq_dropped]
        have hdesk : (v.dropped fun h => h.desk == d).slg.desks.get e = { v.slg.desks.get e with
            owned := (v.slg.desks.get e).owned - (holdsWith (fun h => (h.desk == d) && h.desk == e) v.slg).length } := Tab.get_make ..
        rw [hdesk]
        exact ⟨Nat.sub_le _ _, rfl⟩
      rw [hget, if_neg hde] at hle
      rw [hle.2] at hne
      have := hs e hne
      omega
  · obtain ⟨j, h, hj, hslot⟩ := hdrop.fewer i hi
    rw [hh] at hj
    exact ⟨j, h, hj, hslot⟩

end Sheds

end Sys2Proof.Machine
end

section
/-! PROOFS. What each command of the ledger does to the counts and to the showings held (R28 to R51). -/

namespace Sys2Proof.Machine

section Commands

variable {s : State}

/-! ## RELEASE and DESK -/

theorem contactDesk_owned (k : Desk) : (contactDesk k).owned = k.owned := rfl

theorem contactDesk_state (k : Desk) : (contactDesk k).state = k.state := rfl

theorem sheds_contact (d : Fin 16) (s : State) : Sheds s (contact d s) :=
  sheds_setDesk d (f := contactDesk) (fun _ => rfl) .inl

theorem sheds_convertSeats (slot : Fin 96) (seats : Nat) (s : State) : Sheds s (convertSeats slot seats s) :=
  sheds_setLedger slot (f := fun l => { l with P := satAdd 999 l.P seats }) (fun _ => rfl) s

theorem sheds_releaseEntry {i : Fin 64} {h : Hold} (hi : s.slg.holds.get i = some h) (convert : Bool) :
    Sheds s (releaseEntry i h convert s) := by
  unfold releaseEntry
  refine (sheds_freeEntry hi).trans (Sheds.trans ?_ (sheds_recompute ..))
  split
  · exact (sheds_convertSeats ..).trans (sheds_evalOversold ..)
  · exact .refl _

theorem sheds_lateRelease (d : Fin 16) (id seats : Nat) (convert : Bool) (s : State) : Sheds s (lateRelease d id seats convert s) := by
  have hlate := sheds_setDesk (s := s) d (f := fun d => { d with lateReleases := satAdd 255 d.lateReleases 1 }) (fun _ => rfl) .inl
  unfold lateRelease
  dsimp only
  split
  · exact hlate
  · split
    · exact hlate.trans ((sheds_convertSeats ..).trans ((sheds_markOversold ..).trans (sheds_recompute ..)))
    · exact hlate

theorem sheds_acceptRelease (d : Fin 16) (tag id seats : Nat) (convert : Bool) (s : State) :
    Sheds s (acceptRelease d tag id seats convert s) := by
  unfold acceptRelease
  refine (sheds_contact d s).trans ?_
  dsimp only
  split
  · split
    · exact sheds_releaseEntry ‹_› convert
    · exact .refl _
  · exact sheds_lateRelease ..

theorem sheds_takeRelease (dk tag id seats convert : Nat) (s : State) : Sheds s (takeRelease dk tag id seats convert s) := by
  unfold takeRelease
  split
  · split_ifs
    · exact sheds_of_slg rfl
    · exact sheds_acceptRelease ..
    · exact sheds_of_slg rfl
  · exact sheds_of_slg rfl

theorem sheds_openDesk (d : Fin 16) (s : State) : Sheds s (openDesk d s) := by
  unfold openDesk
  split
  · exact .refl s
  · exact (sheds_setDesk d (f := fun k => { k with state := .opened, gap := 0, lastGap := 0, measuring := false }) (fun _ => rfl)
      fun h => absurd rfl h).trans (sheds_of_slg rfl)

theorem sheds_closeDesk (d : Fin 16) (s : State) : Sheds s (closeDesk d s) := by
  unfold closeDesk
  dsimp only
  split
  · exact .refl s
  · rename_i hst
    exact (sheds_setDesk d (f := fun k => { k with state := .closed, measuring := false }) (fun _ => rfl)
      fun _ => .inl (by simp [hst])).trans (sheds_of_slg rfl)
  · have hshut := sheds_shutDesk (s := s) d (f := fun k => { k with state := .closed, measuring := false }) (fun _ => rfl) ⟨rfl, rfl, rfl⟩
    exact hshut.trans ((sheds_recomputeEach ..).trans (sheds_of_slg rfl))

theorem sheds_beatDesk (d : Fin 16) (s : State) : Sheds s (beatDesk d s) := by
  unfold beatDesk
  split
  · exact sheds_contact d s
  · exact sheds_of_slg rfl

/-! ## State changes and tallies of the schedule -/

/-- The record of a showing that is not held begins anew with H 0. -/
theorem sheds_clearRecord {slot : Fin 96} (hn : ¬ Holding s.slg slot) {f : Ledger → Ledger} (hf : ∀ l, (f l).H = 0) :
    Sheds s (setLedger slot f s) := by
  refine ⟨fun ⟨h1, h2, h3⟩ => ⟨fun i => ?_, h2, h3⟩, fun _ => id, fun _ => id⟩
  have hget : (setLedger slot f s).slg.ledger.get i = if slot = i then f (s.slg.ledger.get i) else s.slg.ledger.get i :=
    Tab.get_modify ..
  rw [hget]
  split
  · rename_i hi
    rw [hf]
    refine (heldSum_eq_zero fun j x hj => if_neg fun hx => hn ⟨j, x, hj, hx.trans hi.symm⟩).symm
  · exact h1 i

theorem sheds_takeStateChange (slot : Fin 96) (st : ShowState) (cause : Nat) (s : State) : Sheds s (takeStateChange slot st cause s) := by
  unfold takeStateChange
  split
  · exact (sheds_dropHolds ..).trans (sheds_clearRecord (dropHolds_slot slot s) fun _ => rfl)
  · exact (sheds_dropHolds ..).trans (sheds_recomputeAs ..)
  · exact (sheds_dropHolds ..).trans (sheds_recomputeAs ..)
  · exact sheds_recomputeAs ..

theorem sheds_takeListingTally {slot : Fin 96} {fresh : Bool} (hn : fresh = true → ¬ Holding s.slg slot) (capacity sold blocked stamp : Nat) :
    Sheds s (takeListingTally slot capacity sold blocked stamp fresh s) := by
  unfold takeListingTally
  split
  · rename_i hf
    have hbegun := sheds_clearRecord (hn hf) (f := fun l => tallyRecord sold blocked stamp (openingRecord capacity l)) fun _ => rfl
    refine (hbegun.trans (sheds_evalOversold slot _)).trans ?_
    generalize evalOversold slot _ = u
    exact sheds_setLedger (s := u) slot (f := fun l => clearSoldout { l with key := some (figureKey (figureSettings u.slg) .listed l) })
      (fun l => clearSoldout_H _)
  · exact (sheds_setLedger slot (f := fun l => { l with C := capacity }) (fun _ => rfl) s).trans (sheds_applyTally ..)

/-! ## The steps of a pulse -/

/-- An entry replaced by one of the same key, showing and seats. -/
theorem sheds_setHold {i : Fin 64} {h k : Hold} (hi : s.slg.holds.get i = some h) (hd : k.desk = h.desk) (ht : k.tag = h.tag)
    (hsl : k.slot = h.slot) (hse : k.seats = h.seats) : Sheds s (setHold i (some k) s) := by
  have hholds : (setHold i (some k) s).slg.holds = s.slg.holds.set i (some k) := rfl
  have hsum (f : Hold → Nat) (hf : f k = f h) : heldSum f (s.slg.holds.set i (some k)) = heldSum f s.slg.holds := by
    have := heldSum_set f s.slg.holds i (some k)
    rw [hi] at this
    simp only [Option.elim, hf] at this
    omega
  have hold {j : Fin 64} {x : Hold} (hj : (s.slg.holds.set i (some k)).get j = some x) :
      ∃ y, s.slg.holds.get j = some y ∧ x.desk = y.desk ∧ x.tag = y.tag ∧ x.slot = y.slot := by
    rw [Tab.get_set] at hj
    split at hj
    · rename_i hij
      cases hj
      exact ⟨h, hij ▸ hi, hd, ht, hsl⟩
    · exact ⟨x, hj, rfl, rfl, rfl⟩
  refine ⟨fun ⟨h1, h2, h3⟩ => ⟨fun j => ?_, fun d => ?_, fun a b x y ha hb hxd hxt => ?_⟩, fun _ => id, fun j ⟨a, x, ha, hx⟩ => ?_⟩
  · rw [hholds, hsum _ (by simp only [hsl, hse])]
    exact h1 j
  · rw [hholds, hsum _ (by simp only [hd])]
    exact h2 d
  · rw [hholds] at ha hb
    obtain ⟨x', hx', hxd', hxt', -⟩ := hold ha
    obtain ⟨y', hy', hyd', hyt', -⟩ := hold hb
    exact h3 a b x' y' hx' hy' (hxd' ▸ hyd' ▸ hxd) (hxt' ▸ hyt' ▸ hxt)
  · rw [hholds] at ha
    obtain ⟨y, hy, -, -, hys⟩ := hold ha
    exact ⟨a, y, hy, hys ▸ hx⟩

theorem sheds_countHold (i : Fin 64) (s : State) : Sheds s (countHold i s) := by
  unfold countHold
  split
  · exact .refl s
  · rename_i h hi
    split
    · exact (sheds_freeEntry hi).trans (sheds_of_same (fun _ => rfl) rfl (fun _ => rfl) fun _ h => .inl h)
    · exact sheds_setHold hi rfl rfl rfl rfl

/-- The stage of the pulse, the marks and the settings are not counted. -/
theorem sheds_withSlg {g : Slg} (hl : g.ledger = s.slg.ledger) (hh : g.holds = s.slg.holds) (hd : g.desks = s.slg.desks) :
    Sheds s (s.withSlg g) :=
  sheds_of_same (fun i => by rw [State.withSlg_slg, hl]) hh (fun d => by rw [State.withSlg_slg, hd]) fun d h => .inl (by
    rwa [State.withSlg_slg, hd] at h)

theorem sheds_stage (x : PulseStage) (s : State) : Sheds s (s.withSlg { s.slg with stage := x }) := sheds_withSlg rfl rfl rfl

theorem sheds_pulseEnd (x : PulseStage) (marks : Tab 96 Bool) (s : State) :
    Sheds s (s.withSlg { s.slg with stage := x, touched := marks }) := sheds_withSlg rfl rfl rfl

theorem sheds_touch (slot : Fin 96) (s : State) : Sheds s (touch slot s) := sheds_withSlg rfl rfl rfl

theorem sheds_holdExpiry (s : State) : Sheds s (doHoldExpiry s) := by
  unfold doHoldExpiry
  split
  · refine Sheds.trans (Sheds.trans ?_ (foldl_sheds sheds_countHold _ _)) (sheds_stage _ _)
    exact sheds_of_slg rfl
  · exact .refl s

theorem sheds_becomeStale (slot : Fin 96) (s : State) : Sheds s (becomeStale slot s) :=
  (sheds_setLedger slot (f := fun l => { l with stale := true }) (fun _ => rfl) s).trans (sheds_of_slg rfl)

theorem sheds_tallyStale (s : State) : Sheds s (doTallyStale s) := by
  unfold doTallyStale
  split
  · refine Sheds.trans (Sheds.trans (foldl_sheds (fun i u => ?_) _ s) (foldl_sheds (fun i u => ?_) _ _)) (sheds_stage _ _)
    · exact sheds_setLedger i (f := fun l => { l with A := satAdd 4095 l.A 1 }) (fun _ => rfl) u
    · split
      · exact (sheds_becomeStale i u).trans (sheds_touch i _)
      · exact .refl u
  · exact .refl s

/-- Marks for the recomputation leave the tables that are counted. -/
theorem foldl_touch (l : List (Fin 96)) (s : State) :
    (l.foldl (fun s i => touch i s) s).slg.ledger = s.slg.ledger ∧ (l.foldl (fun s i => touch i s) s).slg.holds = s.slg.holds
      ∧ (l.foldl (fun s i => touch i s) s).slg.desks = s.slg.desks := by
  induction l generalizing s with
  | nil => exact ⟨rfl, rfl, rfl⟩
  | cons i l ih => exact ih (touch i s)

theorem sheds_post (b : Block) (code : EventKind) (i : Nat) (l : List Nat) (s : State) : Sheds s (post b code i l s) := sheds_of_slg rfl

theorem sheds_sendDeskChange (s : State) : Sheds s (sendDeskChange s) := sheds_of_slg rfl

theorem sheds_silenceDesk (d : Fin 16) (s : State) : Sheds s (silenceDesk d s) := by
  have hshut := sheds_shutDesk (s := s) d (f := fun k => { k with state := .silent, lastGap := k.gap }) (fun _ => rfl)
    (foldl_touch (slotsOfHolds (fun h => h.desk == d) s.slg) _)
  unfold silenceDesk
  exact hshut.trans ((sheds_post ..).trans (sheds_sendDeskChange _))

theorem countGap_owned (k : Desk) : (countGap k).owned = k.owned ∧ (countGap k).state = k.state := by
  unfold countGap
  split <;> exact ⟨rfl, rfl⟩

theorem sheds_deskSilence (s : State) : Sheds s (doDeskSilence s) := by
  unfold doDeskSilence
  split
  · refine Sheds.trans (Sheds.trans (Sheds.trans ?_ (foldl_sheds (fun d u => ?_) _ _)) (sheds_recomputeEach ..)) (sheds_pulseEnd _ _ _)
    · refine sheds_of_same (fun _ => rfl) rfl (fun d => ?_) fun d h => .inl ?_
      · rw [State.withSlg_slg, Tab.get_map]
        exact (countGap_owned _).1
      · rwa [State.withSlg_slg, Tab.get_map, (countGap_owned _).2] at h
    · unfold testDesk
      split
      · exact sheds_silenceDesk d u
      · exact .refl u
  · exact .refl s

/-! ## Settings -/

theorem sheds_testStale (slot : Fin 96) (s : State) : Sheds s (testStale slot s) := by
  unfold testStale
  split_ifs
  · exact (sheds_becomeStale slot s).trans (sheds_recompute ..)
  · exact (sheds_setLedger slot (f := fun l => { l with stale := false }) (fun _ => rfl) s).trans (sheds_recompute ..)
  · exact .refl s

theorem sheds_applyStaleLimit (v : Nat) (s : State) : Sheds s (applyStaleLimit v s) :=
  Sheds.trans (t := s.withSlg { s.slg with staleLimit := clamp 10 4000 v }) (sheds_withSlg rfl rfl rfl) (foldl_sheds sheds_testStale _ _)

theorem sheds_applyFigureSetting {store : Slg → Slg} (hl : ∀ g, (store g).ledger = g.ledger) (hh : ∀ g, (store g).holds = g.holds)
    (hd : ∀ g, (store g).desks = g.desks) (s : State) : Sheds s (applyFigureSetting store s) :=
  (sheds_withSlg (hl _) (hh _) (hd _)).trans (sheds_recomputeEach ..)

theorem sheds_applyStep (v : Nat) (s : State) : Sheds s (applyStep v s) := by
  unfold applyStep
  split
  · exact sheds_applyFigureSetting (store := fun g => { g with step := v }) (fun _ => rfl) (fun _ => rfl) (fun _ => rfl) s
  · exact sheds_of_slg rfl

/-! ## HOLD -/

/-- `t` keeps the counts of `s`, and holds no showing that `s` does not hold but one. -/
structure Joins (slot : Fin 96) (s t : State) : Prop where
  counted : Counted s.slg → Counted t.slg
  shut : Counted s.slg → Shut s.slg → Shut t.slg
  fewer : ∀ i, Holding t.slg i → Holding s.slg i ∨ i = slot

theorem Joins.sheds {slot : Fin 96} {t u : State} (h : Joins slot s t) (k : Sheds t u) : Joins slot s u :=
  ⟨fun hc => k.counted (h.counted hc), fun hc hs => k.shut (h.counted hc) (h.shut hc hs), fun i hi => h.fewer i (k.fewer i hi)⟩

theorem Sheds.joins {slot : Fin 96} {t u : State} (h : Sheds s t) (k : Joins slot t u) : Joins slot s u :=
  ⟨fun hc => k.counted (h.counted hc), fun hc hs => k.shut (h.counted hc) (h.shut hc hs), fun i hi => (k.fewer i hi).imp_left (h.fewer i)⟩

/-- The tables of holds, with an entry of a key that no other entry has. -/
theorem keys_set {t : Tab 64 (Option Hold)} {i : Fin 64} {x : Hold}
    (h : ∀ i j h k, t.get i = some h → t.get j = some k → h.desk = k.desk → h.tag = k.tag → i = j)
    (hx : ∀ j k, j ≠ i → t.get j = some k → k.desk = x.desk → k.tag ≠ x.tag) (a b : Fin 64) (y z : Hold)
    (ha : (t.set i (some x)).get a = some y) (hb : (t.set i (some x)).get b = some z) (hd : y.desk = z.desk) (ht : y.tag = z.tag) :
    a = b := by
  rw [Tab.get_set] at ha hb
  split_ifs at ha hb with h1 h2 h2
  · rw [← h1, ← h2]
  · cases ha
    exact absurd ht.symm (hx b z (Ne.symm h2) hb hd.symm)
  · cases hb
    exact absurd ht (hx a y (Ne.symm h1) ha hd)
  · exact h a b y z ha hb hd ht

theorem findHold_none {d : Fin 16} {tag : Nat} (h : findHold s.slg d tag = none) {j : Fin 64} {k : Hold} (hj : s.slg.holds.get j = some k)
    (hd : k.desk = d) : k.tag ≠ tag := by
  have := List.find?_eq_none.1 h j (List.mem_finRange j)
  simpa [hj, hd] using this

theorem findHold_some {d : Fin 16} {tag : Nat} {i : Fin 64} {k : Hold} (h : findHold s.slg d tag = some i)
    (hi : s.slg.holds.get i = some k) : k.desk = d ∧ k.tag = tag := by
  have := List.find?_some h
  simpa [hi] using this

theorem freeHold_some {i : Fin 64} (h : freeHold s.slg = some i) : s.slg.holds.get i = none := by
  have := List.find?_some h
  simpa using this

/-- A new hold of an OPEN desk, under a key of its own. -/
theorem joins_makeHold {i : Fin 64} {x : Hold} (hi : s.slg.holds.get i = none) (hopen : (s.slg.desks.get x.desk).state = .opened)
    (hkey : findHold s.slg x.desk x.tag = none) : Joins x.slot s (makeHold i x s) := by
  unfold makeHold
  refine Joins.sheds ?_ (sheds_recompute ..)
  generalize ht : setDesk x.desk (fun d => { d with owned := d.owned + 1 })
    (setLedger x.slot (fun l => { l with H := l.H + x.seats }) (setHold i (some x) s)) = t
  have hholds : t.slg.holds = s.slg.holds.set i (some x) := by rw [← ht]; rfl
  have hledger (j : Fin 96) : (t.slg.ledger.get j).H = (s.slg.ledger.get j).H + if x.slot = j then x.seats else 0 := by
    have hget : t.slg.ledger = s.slg.ledger.modify x.slot fun l => { l with H := l.H + x.seats } := by rw [← ht]; rfl
    rw [hget, Tab.get_modify]
    split <;> simp
  have hdesk (d : Fin 16) : (t.slg.desks.get d).owned = (s.slg.desks.get d).owned + (if x.desk = d then 1 else 0)
      ∧ (t.slg.desks.get d).state = (s.slg.desks.get d).state := by
    have hget : t.slg.desks = s.slg.desks.modify x.desk fun d => { d with owned := d.owned + 1 } := by rw [← ht]; rfl
    rw [hget, Tab.get_modify]
    split <;> simp
  have hsum (f : Hold → Nat) : heldSum f (s.slg.holds.set i (some x)) = heldSum f s.slg.holds + f x := by
    have := heldSum_set f s.slg.holds i (some x)
    rw [hi] at this
    simpa only [Option.elim, Nat.add_zero] using this
  refine ⟨fun ⟨h1, h2, h3⟩ => ⟨fun j => ?_, fun d => ?_, ?_⟩, fun _ hs d hne => ?_, fun j ⟨a, y, ha, hy⟩ => ?_⟩
  · rw [hledger, hholds, hsum, h1]
  · rw [(hdesk d).1, hholds, hsum, h2]
  · rw [hholds]
    exact keys_set h3 fun j k _ hj hd => findHold_none hkey hj hd
  · rw [(hdesk d).2] at hne
    have hxd : x.desk ≠ d := by
      rintro rfl
      exact hne hopen
    rw [(hdesk d).1, hs d hne, if_neg hxd]
  · rw [hholds, Tab.get_set] at ha
    split at ha
    · cases ha
      exact .inr hy.symm
    · exact .inl ⟨a, y, ha, hy⟩

/-- An amended hold: its seats leave the old showing and join the new one. -/
theorem joins_amendHold {i : Fin 64} {old x : Hold} (hi : s.slg.holds.get i = some old) (hd : old.desk = x.desk) (ht : old.tag = x.tag) :
    Joins x.slot s (amendHold i old x s) := by
  unfold amendHold
  dsimp only
  generalize hu : setLedger x.slot (fun l => { l with H := l.H + x.seats })
    (setLedger old.slot (fun l => { l with H := l.H - old.seats }) (setHold i (some x) s)) = t
  have hholds : t.slg.holds = s.slg.holds.set i (some x) := by rw [← hu]; rfl
  have hledger (j : Fin 96) : (t.slg.ledger.get j).H
      = (s.slg.ledger.get j).H - (if old.slot = j then old.seats else 0) + if x.slot = j then x.seats else 0 := by
    have hget : t.slg.ledger = (s.slg.ledger.modify old.slot fun l => { l with H := l.H - old.seats }).modify x.slot
        fun l => { l with H := l.H + x.seats } := by rw [← hu]; rfl
    rw [hget, Tab.get_modify]
    by_cases hx : x.slot = j
    · rw [if_pos hx, Tab.get_modify, hx]
      by_cases ho : old.slot = j <;> simp [ho]
    · rw [if_neg hx, Tab.get_modify]
      by_cases ho : old.slot = j <;> simp [ho, hx]
  have hdesk : t.slg.desks = s.slg.desks := by rw [← hu]; rfl
  have hsum (f : Hold → Nat) : heldSum f (s.slg.holds.set i (some x)) = heldSum f s.slg.holds - f old + f x := by
    have hle := le_heldSum (f := f) hi
    have := heldSum_set f s.slg.holds i (some x)
    rw [hi] at this
    simp only [Option.elim] at this
    omega
  have hjoins : Joins x.slot s t := by
    refine ⟨fun ⟨h1, h2, h3⟩ => ⟨fun j => ?_, fun d => ?_, ?_⟩, fun _ hs => ?_, fun j ⟨a, y, ha, hy⟩ => ?_⟩
    · rw [hledger, hholds, hsum, h1]
    · have hle := le_heldSum (f := fun h => if h.desk = d then 1 else 0) hi
      rw [hdesk, hholds, hsum, h2, hd]
      rw [hd] at hle
      omega
    · rw [hholds]
      refine keys_set h3 fun j k hj hk hkd hkt => hj ?_
      exact h3 j i k old hk hi (hkd.trans hd.symm) (hkt.trans ht.symm)
    · unfold Shut
      rw [hdesk]
      exact hs
    · rw [hholds, Tab.get_set] at ha
      split at ha
      · cases ha
        exact .inr hy.symm
      · exact .inl ⟨a, y, ha, hy⟩
  split
  · exact hjoins.sheds (sheds_recompute ..)
  · exact hjoins.sheds ((sheds_recompute ..).trans (sheds_recompute ..))

theorem joins_of_sheds {slot : Fin 96} {t : State} (h : Sheds s t) : Joins slot s t := ⟨h.counted, h.shut, fun i hi => .inl (h.fewer i hi)⟩

theorem joins_placeHold (x : Hold) (hopen : (s.slg.desks.get x.desk).state = .opened) : Joins x.slot s (placeHold x s) := by
  have hcontact : (contact x.desk s).slg.holds = s.slg.holds := rfl
  unfold placeHold
  split
  · rename_i i hf
    split
    · rename_i old hi
      obtain ⟨hd, ht⟩ := findHold_some hf hi
      exact (sheds_contact x.desk s).joins (joins_amendHold hi hd ht)
    · exact joins_of_sheds (.refl s)
  · rename_i hnone
    split
    · rename_i i hf
      refine (sheds_contact x.desk s).joins (joins_makeHold (freeHold_some hf) ?_ hnone)
      have hget : (contact x.desk s).slg.desks.get x.desk = contactDesk (s.slg.desks.get x.desk) := Tab.get_modify_same ..
      rw [hget]
      exact hopen
    · exact joins_of_sheds (sheds_of_slg rfl)

theorem ledgerSlot_some {id : Nat} {slot : Fin 96} (h : ledgerSlot s id = some slot) :
    (s.sch.showings.get slot).state ≠ .empty ∧ awaitsTally s slot = false := by
  obtain ⟨hs, ha⟩ := Option.filter_eq_some_iff.1 h
  exact ⟨(slotOf_some hs).1, by simpa using ha⟩

/-- HOLD adds a hold only of a showing that the ledger has. -/
theorem joins_takeHold (dk tag id seats period : Nat) (s : State) : Sheds s (takeHold dk tag id seats period s)
    ∨ ∃ slot, ledgerSlot s id = some slot ∧ Joins slot s (takeHold dk tag id seats period s) := by
  unfold takeHold
  split
  · exact .inl (sheds_of_slg rfl)
  · rename_i d _
    split
    · rename_i hopen
      unfold holdAtDesk
      split
      · exact .inl (sheds_of_slg rfl)
      · rename_i slot hs
        split_ifs
        · exact .inl (sheds_of_slg rfl)
        · exact .inl (sheds_of_slg rfl)
        · exact .inr ⟨slot, hs, joins_placeHold ⟨d, tag, slot, seats, holdPeriodOf s.slg period⟩ hopen⟩
    · exact .inl (sheds_of_slg rfl)

end Commands

end Sys2Proof.Machine
end

section
/-! PROOFS. No hold names a slot without a showing but for a state change still on its way (R28, R34, R37, R178), and with it the
counts that the opening tally of a new listing begins anew. -/

namespace Sys2Proof.Machine

/-! ## The requests on their way to the ledger -/

/-- A request that empties a slot, as a ledger that has taken `b` RESETs acts on it. -/
def Empties (b : Nat) (i : Fin 96) (m : Mail ToSlg) : Prop := b ≤ m.epoch ∧ ∃ c, m.body = .stateChange i .empty c

/-- A request that opens a slot with a new listing, as a ledger that has taken `b` RESETs acts on it. -/
def Opens (b : Nat) (i : Fin 96) (m : Mail ToSlg) : Prop := b ≤ m.epoch ∧ isOpening i m = true

/-- What `OpeningsOk` says, of the showings, the requests, the RESETs that the SCH and the SLG have taken, and the slots held. -/
def OpenOk (sh : Tab 96 Showing) (q : List (Mail ToSlg)) (a b : Nat) (held : Fin 96 → Prop) : Prop :=
  (∀ i, (sh.get i).state = .empty → a = b → held i → ∃ m ∈ q, Empties b i m)
    ∧ (∀ pre m post, q = pre ++ m :: post → ∀ i, Opens b i m → held i → ∃ m ∈ pre, Empties b i m)
    ∧ (a < b → ∀ i, ¬ held i)

theorem empties_iff (s : State) (i : Fin 96) (m : Mail ToSlg) : empties s i m = true ↔ Empties (s.taken.get 3) i m := by
  unfold empties Empties isFresh
  rw [Bool.and_eq_true, decide_eq_true_iff]
  refine and_congr_right fun _ => ?_
  split
  · rename_i j c hm
    simp [hm]
  · rename_i hno
    exact ⟨fun h => absurd h (by simp), fun ⟨c, hc⟩ => absurd hc (hno i c)⟩

theorem any_empties (s : State) (i : Fin 96) (l : List (Mail ToSlg)) :
    l.any (empties s i) = true ↔ ∃ m ∈ l, Empties (s.taken.get 3) i m := by
  simp only [List.any_eq_true, empties_iff]

theorem openingsOk_iff (s : State) :
    OpeningsOk s ↔ OpenOk s.sch.showings s.links.schSlg (s.taken.get 2) (s.taken.get 3) (Holding s.slg) := by
  have hor (i : Fin 96) (P : Prop) : (holdsWith (fun h => h.slot == i) s.slg = [] ∨ P) ↔ (Holding s.slg i → P) := by
    rw [holdsWith_slot_nil]
    exact ⟨fun h hi => h.resolve_left (not_not.2 hi), fun h => or_iff_not_imp_left.2 fun hn => h (not_not.1 hn)⟩
  unfold OpeningsOk OpenOk
  simp only [hor, any_empties, holdsWith_all_nil]
  refine and_congr Iff.rfl (and_congr ⟨fun h pre m post hq i ⟨hb, ho⟩ hi => ?_, fun h k hk m hm hf i ho hi => ?_⟩ Iff.rfl)
  · have hk := h pre.length (by simp [hq]) m (by simp [hq]) (decide_eq_true hb) i ho hi
    rwa [hq, List.take_left'] at hk
    rfl
  · have hget : s.links.schSlg[k]? = some m := hm
    refine h (s.links.schSlg.take k) m (s.links.schSlg.drop (k + 1)) ?_ i ⟨of_decide_eq_true hf, ho⟩ hi
    have hgetk : s.links.schSlg[k] = m := by simpa [hk] using hget
    rw [← hgetk, List.cons_getElem_drop_succ, List.take_append_drop]

section Requests

variable {sh sh' : Tab 96 Showing} {q : List (Mail ToSlg)} {a b : Nat} {held held' : Fin 96 → Prop}

theorem OpenOk.fewer (h : OpenOk sh q a b held) (hh : ∀ i, held' i → held i) : OpenOk sh q a b held' :=
  ⟨fun i he hab hi => h.1 i he hab (hh i hi), fun pre m post hq i ho hi => h.2.1 pre m post hq i ho (hh i hi),
    fun hab i hi => h.2.2 hab i (hh i hi)⟩

theorem OpenOk.showings (h : OpenOk sh q a b held) (hs : ∀ i, (sh'.get i).state = .empty → (sh.get i).state = .empty) :
    OpenOk sh' q a b held :=
  ⟨fun i he => h.1 i (hs i he), h.2⟩

/-- The oldest request taken: what it empties is held no more. -/
theorem OpenOk.tail {m : Mail ToSlg} (h : OpenOk sh (m :: q) a b held) (hh : ∀ i, held' i → held i) (hm : ∀ i, Empties b i m → ¬ held' i) :
    OpenOk sh q a b held' := by
  obtain ⟨h1, h2, h3⟩ := h
  have hrest {l : List (Mail ToSlg)} {i : Fin 96} (hi : held' i) : (∃ x ∈ m :: l, Empties b i x) → ∃ x ∈ l, Empties b i x := by
    rintro ⟨x, hx, he⟩
    rcases List.mem_cons.1 hx with rfl | hx
    · exact absurd hi (hm i he)
    · exact ⟨x, hx, he⟩
  exact ⟨fun i he hab hi => hrest hi (h1 i he hab (hh i hi)),
    fun pre x post hq i ho hi => hrest hi (h2 (m :: pre) x post (by rw [hq]; rfl) i ho (hh i hi)),
    fun hab i hi => h3 hab i (hh i hi)⟩

/-- A request more: an emptied slot's is its state change, and a slot that it opens was EMPTY. -/
theorem OpenOk.send {x : ToSlg} (h : OpenOk sh q a b held)
    (he : ∀ i, (sh'.get i).state = .empty → (sh.get i).state = .empty ∨ ∃ c, x = .stateChange i .empty c)
    (ho : ∀ i, isOpening i ⟨a, x⟩ = true → a = b ∧ (sh.get i).state = .empty) : OpenOk sh' (q ++ [⟨a, x⟩]) a b held := by
  obtain ⟨h1, h2, h3⟩ := h
  refine ⟨fun i hs hab hi => ?_, fun pre m post hq i hm hi => ?_, h3⟩
  · rcases he i hs with hs | ⟨c, hc⟩
    · obtain ⟨m, hm, hme⟩ := h1 i hs hab hi
      exact ⟨m, List.mem_append_left _ hm, hme⟩
    · exact ⟨⟨a, x⟩, by simp, hab.ge, c, hc⟩
  · rcases List.eq_nil_or_concat post with rfl | ⟨post, y, rfl⟩
    · obtain ⟨rfl, hxm⟩ := List.append_inj' hq rfl
      cases hxm
      obtain ⟨hab, hs⟩ := ho i hm.2
      exact h1 i hs hab hi
    · rw [List.concat_eq_append, ← List.cons_append, ← List.append_assoc] at hq
      exact h2 pre m post (List.append_inj' hq rfl).1 i hm hi

/-- A showing more held, that the SCH has and no opening awaits. -/
theorem OpenOk.join {slot : Fin 96} (h : OpenOk sh q a b held) (hab : a = b) (hs : (sh.get slot).state ≠ .empty)
    (ho : ∀ m ∈ q, ¬ Opens b slot m) (hh : ∀ i, held' i → held i ∨ i = slot) : OpenOk sh q a b held' := by
  obtain ⟨h1, h2, h3⟩ := h
  refine ⟨fun i he hab hi => ?_, fun pre m post hq i hm hi => ?_, fun hlt => absurd hab hlt.ne⟩
  · rcases hh i hi with hi | rfl
    · exact h1 i he hab hi
    · exact absurd he hs
  · rcases hh i hi with hi | rfl
    · exact h2 pre m post hq i hm hi
    · exact absurd hm (ho m (by simp [hq]))

theorem openOk_of_none (h : ∀ i, ¬ held i) : OpenOk sh q a b held :=
  ⟨fun i _ _ hi => absurd hi (h i), fun _ _ _ _ i _ hi => absurd hi (h i), fun _ => h⟩

/-- The opening tally of a slot that the ledger takes next finds no hold of it. -/
theorem OpenOk.opening {m : Mail ToSlg} {i : Fin 96} (h : OpenOk sh (m :: q) a b held) (hb : b ≤ m.epoch) (ho : isOpening i m = true) :
    ¬ held i := fun hi => by
  obtain ⟨x, hx, -⟩ := h.2.1 [] m q rfl i ⟨hb, ho⟩ hi
  cases hx

end Requests

/-! ## Every command -/

/-- The counts and the openings together. -/
def Seated (s : State) : Prop :=
  (Counted s.slg ∧ Shut s.slg) ∧ OpenOk s.sch.showings s.links.schSlg (s.taken.get 2) (s.taken.get 3) (Holding s.slg)

theorem seated_restsOn : RestsOn [.slg, .sch, .schSlg, .taken] Seated := fun s t h hs => by
  have hslg : t.slg = s.slg := h .slg (by simp)
  have hsch : t.sch = s.sch := h .sch (by simp)
  have hq : t.links.schSlg = s.links.schSlg := h .schSlg (by simp)
  have ht : t.taken = s.taken := h .taken (by simp)
  unfold Seated
  rw [hslg, hsch, hq, ht]
  exact hs

section Commands

variable {s t : State}

/-- A command that only sheds holds, and writes nothing else that counts. -/
theorem seated_of_sheds (h : Sheds s t) {w : List Part} (hk : Keeps w s t) (hw : ∀ p ∈ [Part.sch, .schSlg, .taken], p ∉ w) (hs : Seated s) :
    Seated t := by
  obtain ⟨⟨hc, hsh⟩, ho⟩ := hs
  refine ⟨⟨h.counted hc, h.shut hc hsh⟩, ?_⟩
  rw [hk.sch (hw .sch (by simp)), hk.schSlg (hw .schSlg (by simp)), hk.taken (hw .taken (by simp))]
  exact ho.fewer h.fewer

theorem running_sheds {f : State → State} (hf : ∀ u, Sheds u (f u)) (h : running s f = .next t) : Sheds s t := by
  refine running_preserves (I := fun u => Sheds s u) (fun _ hu => ?_) (.refl s) h
  exact hu.trans (hf s)

/-- A packet is delivered, or nothing happens. -/
theorem deliver_cases (b : Block) (pick : Packet → Option (Nat → State → State)) (s : State) : deliver b pick s = s
    ∨ ∃ x rest act, s.tif.fifo = x :: rest ∧ pick x.packet = some act ∧ deliver b pick s = act x.clock (s.withFifo rest) := by
  unfold deliver
  split
  · exact .inl rfl
  · rename_i x rest hx
    split
    · exact .inl rfl
    · rename_i act hact
      split
      · exact .inr ⟨x, rest, act, hx, hact, rfl⟩
      · exact .inl rfl

theorem deliver_sheds {b : Block} {pick : Packet → Option (Nat → State → State)} (hp : ∀ p act, pick p = some act → ∀ c u, Sheds u (act c u))
    (s : State) : Sheds s (deliver b pick s) := by
  rcases deliver_cases b pick s with h | ⟨x, rest, act, -, hact, h⟩
  · rw [h]
    exact .refl s
  · rw [h]
    exact Sheds.trans (t := s.withFifo rest) (sheds_of_slg rfl) (hp _ _ hact _ _)

theorem deliver_set_sheds {item : Nat} {act : Nat → Nat → State → State} (h : ∀ k v u, Sheds u (act k v u)) (s : State) :
    Sheds s (deliver .slg (pickSet item act) s) := by
  refine deliver_sheds (fun p f hf c u => ?_) s
  unfold pickSet at hf
  split at hf
  · split at hf <;> cases hf
    exact h _ _ u
  · cases hf

theorem deliver_desk_sheds {op : Nat} {act : Fin 16 → State → State} (h : ∀ d u, Sheds u (act d u)) (s : State) :
    Sheds s (deliver .slg (pickDesk op act) s) := by
  refine deliver_sheds (fun p f hf c u => ?_) s
  unfold pickDesk at hf
  split at hf
  · split at hf <;> cases hf
    split
    · exact h _ u
    · exact sheds_of_slg rfl
  · cases hf

/-! ### The ledger's own requests -/

theorem seated_listingTally (h : Seated s) : Seated (doListingTally s) := by
  unfold doListingTally
  split
  · rename_i ep slot capacity sold blocked stamp fresh rest _ hq
    obtain ⟨⟨hc, hsh⟩, ho⟩ := h
    rw [hq] at ho
    have hnone (i : Fin 96) : ¬ Empties (s.taken.get 3) i ⟨ep, .listingTally slot capacity sold blocked stamp fresh⟩ := by
      rintro ⟨-, c, hc⟩
      cases hc
    dsimp only
    split
    · rename_i hf
      have hshed := sheds_takeListingTally (s := s.withLinks { s.links with schSlg := rest }) (slot := slot) (fresh := fresh)
        (fun hfr => ho.opening (of_decide_eq_true hf) (by simp [isOpening, hfr])) capacity sold blocked stamp
      have hk := takeListingTally_keeps slot capacity sold blocked stamp fresh (s.withLinks { s.links with schSlg := rest })
      refine seated_of_sheds hshed hk (by decide) ⟨⟨hc, hsh⟩, ?_⟩
      exact ho.tail (fun _ => id) fun i hi => absurd hi (hnone i)
    · exact ⟨⟨hc, hsh⟩, ho.tail (fun _ => id) fun i hi => absurd hi (hnone i)⟩
  · exact h

theorem holding_setLedger (slot : Fin 96) (f : Ledger → Ledger) (u : State) (i : Fin 96) :
    Holding (setLedger slot f u).slg i ↔ Holding u.slg i := Iff.rfl

/-- An emptied showing is not held. -/
theorem not_holding_emptied (slot : Fin 96) (cause : Nat) (u : State) : ¬ Holding (takeStateChange slot .empty cause u).slg slot := by
  rw [takeStateChange, holding_setLedger]
  exact dropHolds_slot slot u

theorem seated_stateChange (h : Seated s) : Seated (doStateChange s) := by
  unfold doStateChange
  split
  · rename_i ep slot st cause rest _ hq
    obtain ⟨⟨hc, hsh⟩, ho⟩ := h
    rw [hq] at ho
    dsimp only
    split
    · have hshed := sheds_takeStateChange slot st cause (s.withLinks { s.links with schSlg := rest })
      have hk := takeStateChange_keeps slot st cause (s.withLinks { s.links with schSlg := rest })
      refine ⟨⟨hshed.counted hc, hshed.shut hc hsh⟩, ?_⟩
      rw [hk.sch, hk.schSlg, hk.taken]
      refine ho.tail hshed.fewer fun i ⟨_, c, hi⟩ hh => ?_
      cases hi
      exact not_holding_emptied slot cause _ hh
    · rename_i hf
      exact ⟨⟨hc, hsh⟩, ho.tail (fun _ => id) fun i hi => absurd (decide_eq_true hi.1) hf⟩
  · exact h

/-- HOLD adds a hold of a showing that both blocks have. -/
theorem seated_hold (hr : ResetsOk s) (h : Seated s) : Seated (deliver .slg pickHold s) := by
  rcases deliver_cases .slg pickHold s with he | ⟨x, rest, act, hx, hact, he⟩
  · rw [he]
    exact h
  · rw [he]
    have htaken : TakenOk s.taken s.tif.fifo s.tif.resetting := (resetsOk_iff s).1 hr
    rw [hx] at htaken
    cases hp : x.packet <;> rw [hp] at hact <;> cases hact
    rename_i dk tag id seats period
    have hnone := htaken.none_of_head (by simp [hp]) (by simp [hp])
    rw [hnone] at htaken
    have hsame : s.taken.get 2 = s.taken.get 3 := htaken.same .sch .slg
    have hk := takeHold_keeps dk tag id seats period (s.withFifo rest)
    have hs : Seated (s.withFifo rest) := h
    rcases joins_takeHold dk tag id seats period (s.withFifo rest) with hshed | ⟨slot, hslot, hj⟩
    · exact seated_of_sheds hshed hk (by decide) hs
    · obtain ⟨⟨hc, hsh⟩, ho⟩ := hs
      refine ⟨⟨hj.counted hc, hj.shut hc hsh⟩, ?_⟩
      rw [hk.sch, hk.schSlg, hk.taken]
      obtain ⟨hne, haw⟩ := ledgerSlot_some hslot
      refine ho.join hsame hne (fun m hm ⟨hb, hop⟩ => ?_) hj.fewer
      unfold awaitsTally at haw
      have hno := (Bool.or_eq_false_iff.1 haw).2
      rw [List.any_eq_false] at hno
      exact hno m hm (Bool.and_eq_true_iff.2 ⟨decide_eq_true hb, hop⟩)

end Commands

end Sys2Proof.Machine
end

section
/-! PROOFS. The schedule tells the ledger of every slot that it empties, and opens only EMPTY ones; so the seats held, the holds owned and
the RESETs taken stay in agreement (R11, R14, R18, R23, R178). -/

namespace Sys2Proof.Machine

section Schedule

variable {s : State}

/-- A slot EMPTY after a write was EMPTY before, or is the one written with an EMPTY showing. -/
theorem empty_of_set {sh : Tab 96 Showing} {i : Fin 96} {y : Showing} {j : Fin 96} (h : ((sh.set i y).get j).state = .empty) :
    (sh.get j).state = .empty ∨ j = i ∧ y.state = .empty := by
  rw [Tab.get_set] at h
  split at h
  · rename_i hij
    exact .inr ⟨hij.symm, h⟩
  · exact .inl h

/-- One request to the ledger, its showing set: an EMPTY one with its state change, and an opening only of a slot that was EMPTY. -/
theorem seated_scheduled {i : Fin 96} {y : Showing} {x : ToSlg} {l : List SchedEntry} {tst : List (Fin 96)} {ntc : List ToNtc} (h : Seated s)
    (he : y.state = .empty → ∃ c, x = .stateChange i .empty c)
    (ho : ∀ j, isOpening j ⟨s.taken.get 2, x⟩ = true → s.taken.get 2 = s.taken.get 3 ∧ (s.sch.showings.get j).state = .empty) :
    Seated (s.scheduled (s.sch.showings.set i y) l [x] tst ntc) := by
  obtain ⟨hc, hop⟩ := h
  refine ⟨hc, hop.send (fun j hj => ?_) ho⟩
  rcases empty_of_set hj with hj | ⟨rfl, hy⟩
  · exact .inl hj
  · exact .inr (he hy)

/-- The state of a showing changed, with its state change sent. -/
theorem seated_changed {i : Fin 96} {y : Showing} {st : ShowState} {c : Nat} {l : List SchedEntry} {tst : List (Fin 96)} {ntc : List ToNtc}
    (h : Seated s) (hy : y.state = .empty → st = .empty) : Seated (s.scheduled (s.sch.showings.set i y) l [.stateChange i st c] tst ntc) :=
  seated_scheduled h (fun he => ⟨c, by rw [hy he]⟩) fun j hj => by cases hj

theorem seated_reschedule (i : Fin 96) (h : Seated s) : Seated (reschedule i s) := by
  unfold reschedule Sch.reschedule
  split
  · exact h
  · exact h

theorem seated_noteCause {busy : Bool} {kind : Nat} (h : Seated s) : Seated (noteCause busy kind s) := h

/-! ## Firing -/

theorem seated_fireHead {kind : EntryKind} {ok : ShowState → Bool} {effect : Fin 96 → Nat → State → State} (h : Seated s)
    (heff : ∀ (i : Fin 96) (rest : List SchedEntry) (k : Nat), Seated (effect i k (s.handled s.sch.showings rest [] [] []))) :
    Seated (fireHead kind ok effect s) := by
  unfold fireHead
  split
  · exact h
  · split
    · rw [withList_eq]
      exact seated_reschedule _ (heff ..)
    · exact h

theorem seated_countdown {kind : EntryKind} {ok : ShowState → Bool} (h : Seated s) : Seated (fireHead kind ok countdownEffect s) := by
  refine seated_fireHead h fun i rest k => ?_
  have hq : s.links.schSlg ++ ([] : List ToSlg).map (mail .sch s) = s.links.schSlg := List.append_nil _
  obtain ⟨hc, ho⟩ := h
  rw [← hq] at ho
  exact ⟨hc, ho⟩

theorem seated_openAt {ok : ShowState → Bool} (h : Seated s) : Seated (fireHead .openAt ok openEffect s) := by
  refine seated_fireHead h fun i rest k => ?_
  rw [openEffect_handled]
  exact seated_changed h fun he => by cases he

theorem seated_boardAt {ok : ShowState → Bool} (h : Seated s) : Seated (fireHead .boardAt ok boardEffect s) := by
  refine seated_fireHead h fun i rest k => ?_
  rw [boardEffect_handled]
  exact seated_changed h fun he => by cases he

theorem seated_startAt {ok : ShowState → Bool} (h : Seated s) : Seated (fireHead .startAt ok startEffect s) := by
  refine seated_fireHead h fun i rest k => ?_
  rw [startEffect_handled]
  exact seated_changed h fun he => by cases he

theorem seated_endAt {ok : ShowState → Bool} (h : Seated s) : Seated (fireHead .endAt ok endEffect s) := by
  refine seated_fireHead h fun i rest k => ?_
  by_cases hlate : s.sch.lateWindow < (s.sch.showings.get i).runtime * 60
  · rw [endEffect_ended _ _ _ _ hlate]
    exact seated_changed h fun he => by cases he
  · rw [endEffect_emptied _ _ _ _ (Nat.not_lt.1 hlate)]
    exact seated_changed h fun _ => rfl

theorem seated_reapAt {ok : ShowState → Bool} (h : Seated s) : Seated (fireHead .reapAt ok reapEffect s) := by
  refine seated_fireHead h fun i rest k => ?_
  rw [reapEffect_handled]
  exact seated_changed h fun _ => rfl

/-! ## LISTING, CANCEL and REMOVE -/

theorem seated_listing (f : ListingFields) (stamp : Nat) (hsame : s.taken.get 2 = s.taken.get 3) (h : Seated s) :
    Seated (applyListing f stamp s) := by
  unfold applyListing
  split
  · exact h
  · rename_i slot new hnew
    split
    · exact h
    · refine seated_noteCause ?_
      split
      · rename_i he
        rw [newListing_eq hnew]
        refine seated_scheduled h (fun hs => by cases hs) fun j hj => ⟨hsame, ?_⟩
        have hjs : slot = j := beq_iff_eq.1 hj
        rw [← hjs]
        exact he
      · rename_i hne
        rw [updateListing_eq]
        exact seated_scheduled h (fun hs => absurd hs hne) fun j hj => by cases hj

theorem seated_cancel (id : Nat) (h : Seated s) : Seated (applyCancel id s) := by
  unfold applyCancel
  split
  · exact h
  · split
    · exact h
    · exact h
    · rw [cancelShowing_eq]
      exact seated_noteCause (seated_changed h fun he => by cases he)

theorem seated_remove (id : Nat) (h : Seated s) : Seated (applyRemove id s) := by
  unfold applyRemove
  split
  · exact h
  · rw [removeShowing_eq]
    exact seated_noteCause (seated_changed h fun _ => rfl)

/-! ## Reports, settings and the clock -/

/-- A showing that keeps its state. -/
theorem seated_setShowing {i : Fin 96} {y : Showing} (hy : y.state = (s.sch.showings.get i).state) (h : Seated s) :
    Seated (s.setShowing i y) := by
  obtain ⟨hc, ho⟩ := h
  refine ⟨hc, ho.showings fun j hj => ?_⟩
  rcases empty_of_set hj with hj | ⟨rfl, he⟩
  · exact hj
  · exact hy ▸ he

theorem seated_raiseReport (h : Seated s) : Seated (doRaiseReport s) := by
  unfold doRaiseReport
  split
  · dsimp only
    split
    · unfold takeRaiseReport
      dsimp only
      split
      · exact seated_setShowing rfl h
      · exact h
    · exact h
  · exact h

theorem seated_autoFree (h : Seated s) : Seated (doAutoFreeReport s) := by
  unfold doAutoFreeReport
  split
  · dsimp only
    split
    · unfold takeAutoFree
      split
      · exact seated_setShowing rfl h
      · exact h
    · exact h
  · exact h

theorem seated_filterLoad (h : Seated s) : Seated (doFilterLoadReport s) := by
  unfold doFilterLoadReport
  split
  · exact h
  · unfold evalRoster
    dsimp only
    split
    · exact h
    · exact h

theorem seated_setting {store : Sch → Sch} (hshow : (store s.sch).showings = s.sch.showings) (h : Seated s) :
    Seated (applySchSetting store s) := by
  unfold applySchSetting
  refine seated_noteCause ?_
  have hstored : Seated (s.withSch (store s.sch)) := by
    unfold Seated at *
    rw [State.withSch_sch, hshow]
    exact h
  have hall : Seated (rescheduleAll (s.withSch (store s.sch))) :=
    foldl_preserves (I := Seated) _ (fun i _ u hu => seated_reschedule i hu) hstored
  rw [purgeOnSale_eq]
  exact hall

theorem seated_title (k : Nat) (v : TableBody) (h : Seated s) : Seated (applyTitle k v s) := by
  unfold applyTitle
  split
  · split
    · exact h
    · split
      · exact h
      · rw [purgeTitle, foldl_purge_sch]
        exact h
  · exact h

theorem seated_time (v : Nat) (h : Seated s) : Seated (setTime v s) := by
  unfold setTime
  dsimp only
  have hmoved : Seated (if min v Config.clockTop / 60 = s.lck.clock / 60 then s.withLck (s.lck.write (min v Config.clockTop))
      else raiseMinute (s.withLck (s.lck.write (min v Config.clockTop)))) := by
    split
    · exact h
    · exact h
  split
  · exact seated_noteCause hmoved
  · split
    · rw [purgeOnSale_eq]
      exact hmoved
    · exact hmoved

theorem seated_secondsPulse (h : Seated s) : Seated (doSecondsPulse s) := by
  unfold doSecondsPulse advanceClock
  dsimp only
  rw [raiseMinute_if]
  split
  · exact h
  · exact h

theorem seated_clockHold (h : Seated s) : Seated (doClockHold s) := by
  unfold doClockHold
  split
  · exact h
  · exact h

/-! ## Resets -/

theorem counted_reset {g : Slg} (hh : g.holds = Tab.fill 64 none) (hl : g.ledger = Tab.fill 96 Ledger.empty)
    (hd : g.desks = Tab.fill 16 Desk.closed) : (Counted g ∧ Shut g) ∧ ∀ i, ¬ Holding g i := by
  have hnone (i : Fin 64) : g.holds.get i = none := by rw [hh, Tab.get_fill]
  refine ⟨⟨⟨fun i => ?_, fun d => ?_, fun i j h k hi => ?_⟩, fun d _ => ?_⟩, fun i ⟨j, h, hj, _⟩ => ?_⟩
  · rw [hl, Tab.get_fill, heldSum_eq_zero fun j x hj => by simp [hnone] at hj]
    rfl
  · rw [hd, Tab.get_fill, heldSum_eq_zero fun j x hj => by simp [hnone] at hj]
    rfl
  · simp [hnone] at hi
  · rw [hd, Tab.get_fill]
    rfl
  · simp [hnone] at hj

/-- With no hold left all counts agree. -/
theorem seated_of_reset (h : (Counted s.slg ∧ Shut s.slg) ∧ ∀ i, ¬ Holding s.slg i) : Seated s := ⟨h.1, openOk_of_none h.2⟩

/-- A block takes a RESET: the SLG drops every hold, and the SCH takes it only where the SLG has taken no fewer, or takes it next. -/
theorem seated_resetTake (b : Block) (hr : ResetsOk s) (h : Seated s) : Seated (doResetTake b s) := by
  unfold doResetTake
  split
  · exact h
  · rename_i r hres
    split
    · rename_i hw
      have hmem : b ∈ r.waiting := by
        have := (Bool.and_eq_true_iff.1 hw).1
        simpa using this
      have htk : TakenOk s.taken s.tif.fifo s.tif.resetting := (resetsOk_iff s).1 hr
      rw [hres] at htk
      refine seated_restsOn.keeps (resetTaken_keeps b r _) (by decide) ?_
      have hother (h2 : blockIx b ≠ 2) (h3 : blockIx b ≠ 3) (hw : ∀ p ∈ [Part.slg, .sch, .schSlg, .taken], p ∉ resetWrites b) :
          Seated (resetBlock b r.all (countReset b s)) := by
        refine seated_restsOn.keeps (resetBlock_keeps b r.all _) hw ?_
        obtain ⟨hc, ho⟩ := h
        refine ⟨hc, ?_⟩
        have htaken : (countReset b s).taken = s.taken.modify (blockIx b) fun n => n + 1 := rfl
        rw [htaken, Tab.get_modify_ne _ _ h2, Tab.get_modify_ne _ _ h3]
        exact ho
      cases b with
      | slg => cases r.all <;> exact seated_of_reset (counted_reset rfl rfl rfl)
      | sch =>
        obtain ⟨hc, ho⟩ := h
        have hsch : s.taken.get 2 + 1 = s.taken.get 0 := (htk.1 .sch).1 ⟨r, rfl, hmem⟩
        have hslg : s.taken.get 3 + 1 = s.taken.get 0 ∨ s.taken.get 3 = s.taken.get 0 := by
          by_cases hw : waitsFor (some r) .slg
          · exact .inl ((htk.1 .slg).1 hw)
          · exact .inr ((htk.1 .slg).2 hw)
        obtain ⟨h1, h2, h3⟩ := ho
        have htaken : (resetBlock .sch r.all (countReset .sch s)).taken = s.taken.modify 2 fun n => n + 1 := rfl
        have hq : (resetBlock .sch r.all (countReset .sch s)).links.schSlg = s.links.schSlg := rfl
        have hheld : (resetBlock .sch r.all (countReset .sch s)).slg = s.slg := rfl
        refine ⟨hc, ?_⟩
        rw [htaken, hq, hheld, Tab.get_modify_same, Tab.get_modify_ne _ _ (by decide)]
        exact ⟨fun i _ hab hi => absurd hi (h3 (by omega) i), h2, fun hlt => h3 (by omega)⟩
      | _ => exact hother (by decide) (by decide) (by decide)
    · exact h

theorem seated_beginReset (all : Bool) (h : Seated s) : Seated (beginReset all s) := by
  obtain ⟨hc, ho⟩ := h
  have htaken : (beginReset all s).taken = s.taken.modify 0 fun n => n + 1 := rfl
  refine ⟨hc, ?_⟩
  rw [htaken, Tab.get_modify_ne _ _ (by decide), Tab.get_modify_ne _ _ (by decide)]
  exact ho

end Schedule

theorem seated_exec (c : Instr) (s t : State) (hr : ResetsOk s) (h : Seated s) (hc : exec c s = .next t) : Seated t := by
  have hshed (hs : Sheds s t) (hd : ∀ p ∈ [Part.sch, .schSlg, .taken], p ∉ .fifo :: writes c) : Seated t :=
    seated_of_sheds hs (exec_keeps hc) hd h
  have hfifo (x : Taken) (rest : List Taken) (_ : s.tif.fifo = x :: rest) (h : Seated s) : Seated (s.withFifo rest) := h
  cases c with
  | openAt => exact running_preserves (fun _ => seated_openAt) h hc
  | windowAt => exact running_preserves (fun _ => seated_countdown) h hc
  | minuteAt => exact running_preserves (fun _ => seated_countdown) h hc
  | boardAt => exact running_preserves (fun _ => seated_boardAt) h hc
  | startAt => exact running_preserves (fun _ => seated_startAt) h hc
  | endAt => exact running_preserves (fun _ => seated_endAt) h hc
  | reapAt => exact running_preserves (fun _ => seated_reapAt) h hc
  | listing =>
    refine running_preserves (fun _ hs => ?_) h hc
    rcases deliver_cases .sch pickListing s with he | ⟨x, rest, act, hx, hact, he⟩
    · rw [he]
      exact hs
    · rw [he]
      have htk : TakenOk s.taken s.tif.fifo s.tif.resetting := (resetsOk_iff s).1 hr
      rw [hx] at htk
      cases hp : x.packet <;> rw [hp] at hact <;> cases hact
      rw [htk.none_of_head (by simp [hp]) (by simp [hp])] at htk
      exact seated_listing _ _ (htk.same .sch .slg) hs
  | cancel =>
    refine running_preserves (fun _ hs => deliver_preserves hs (fun x rest hx => hfifo x rest hx hs) fun p act hp c u hu => ?_) h hc
    cases p <;> cases hp
    exact seated_cancel _ hu
  | remove =>
    refine running_preserves (fun _ hs => deliver_preserves hs (fun x rest hx => hfifo x rest hx hs) fun p act hp c u hu => ?_) h hc
    cases p <;> cases hp
    exact seated_remove _ hu
  | time =>
    refine running_preserves (fun _ hs => deliver_preserves hs (fun x rest hx => hfifo x rest hx hs) fun p act hp c u hu => ?_) h hc
    cases p <;> cases hp
    exact seated_time _ hu
  | secondsPulse => exact running_preserves (fun _ => seated_secondsPulse) h hc
  | clockHold => exact running_preserves (fun _ => seated_clockHold) h hc
  | raiseReport => exact running_preserves (fun _ => seated_raiseReport) h hc
  | autoFreeReport => exact running_preserves (fun _ => seated_autoFree) h hc
  | filterLoadReport => exact running_preserves (fun _ => seated_filterLoad) h hc
  | setListLead | setCountdownWindow | setBoardLead | setLateWindow =>
    exact running_preserves (fun _ hs => deliver_set_preserves hs (fun x rest hx => hfifo x rest hx hs)
      fun _ _ _ hu => seated_setting rfl hu) h hc
  | tableTitle => exact running_preserves (fun _ hs => deliver_table_preserves hs (fun x rest hx => hfifo x rest hx hs)
      fun k v _ hu => seated_title k v hu) h hc
  | listingTally => exact running_preserves (fun _ => seated_listingTally) h hc
  | stateChange => exact running_preserves (fun _ => seated_stateChange) h hc
  | hold => exact running_preserves (fun _ => seated_hold hr) h hc
  | tally =>
    refine hshed (running_sheds (deliver_sheds fun p act hp c u => ?_) hc) (by decide)
    cases p <;> cases hp
    exact sheds_takeTally ..
  | release =>
    refine hshed (running_sheds (deliver_sheds fun p act hp c u => ?_) hc) (by decide)
    cases p <;> cases hp
    exact sheds_takeRelease ..
  | tallyStale => exact hshed (running_sheds sheds_tallyStale hc) (by decide)
  | holdExpiry => exact hshed (running_sheds sheds_holdExpiry hc) (by decide)
  | deskSilence => exact hshed (running_sheds sheds_deskSilence hc) (by decide)
  | deskOpen => exact hshed (running_sheds (deliver_desk_sheds sheds_openDesk) hc) (by decide)
  | deskClose => exact hshed (running_sheds (deliver_desk_sheds sheds_closeDesk) hc) (by decide)
  | deskBeat => exact hshed (running_sheds (deliver_desk_sheds sheds_beatDesk) hc) (by decide)
  | deskBadOperation =>
    refine hshed (running_sheds (deliver_sheds fun p act hp c u => ?_) hc) (by decide)
    unfold pickBadOperation at hp
    split at hp
    · split at hp <;> cases hp
      exact sheds_of_slg rfl
    · cases hp
  | setHoldPeriod | setSilenceLimit | setSoldoutLifetime =>
    refine hshed (running_sheds (fun u => ?_) hc) (by decide)
    refine deliver_set_sheds (fun _ v u => ?_) u
    exact sheds_withSlg rfl rfl rfl
  | setStaleLimit => exact hshed (running_sheds (deliver_set_sheds fun _ v u => sheds_applyStaleLimit v u) hc) (by decide)
  | setStep => exact hshed (running_sheds (deliver_set_sheds fun _ v u => sheds_applyStep v u) hc) (by decide)
  | setExactLimit | setPlentyLimit | setFastPct =>
    refine hshed (running_sheds (fun u => ?_) hc) (by decide)
    refine deliver_set_sheds (fun _ v u => ?_) u
    refine sheds_applyFigureSetting (fun g => ?_) (fun g => ?_) (fun g => ?_) u <;> rfl
  | resetTake b => exact running_preserves (fun _ => seated_resetTake b hr) h hc
  | resetAll | resetOps =>
    refine running_preserves (fun _ hs => ?_) h hc
    split
    · exact seated_beginReset _ hs
    · exact hs
  | pinReset =>
    cases hc
    exact seated_of_reset (counted_reset rfl rfl rfl)
  | _ => exact seated_restsOn.exec hc (of_decide_eq_true rfl) h

/-- Settles O10: every command keeps the three together. -/
theorem holdsStayOk : Obligations.HoldsStayOk := by
  unfold Obligations.HoldsStayOk
  have hiff (s : State) : (HoldsOk s ∧ OpeningsOk s ∧ ResetsOk s) ↔ (Seated s ∧ ResetsOk s) := by
    rw [holdsOk_iff, openingsOk_iff, ← and_assoc]
    rfl
  have hrests : RestsOn [.slg, .sch, .schSlg, .taken, .fifo, .resetting] fun s => Seated s ∧ ResetsOk s := fun s t h hs =>
    ⟨seated_restsOn s t (fun p hp => h p (by simp at hp ⊢; tauto)) hs.1, resetsOk_restsOn s t (fun p hp => h p (by simp at hp ⊢; tauto)) hs.2⟩
  intro s t hs hst
  rw [hiff] at *
  exact step_of_exec hrests (by decide) (fun c s t hs hc => ⟨seated_exec c s t hs.2 hs.1 hc, resetsOk_exec c s t hs.2 hc⟩) s t hs hst

end Sys2Proof.Machine
end

section
/-! PROOFS. The notices of a panel: each operation leaves one panel's notice state replaced and view changes sent, and says what becomes of
the pending list, the view and the save stack (R73 to R75, R87 to R94). -/

namespace Sys2Proof.Machine

/-! ## One panel replaced -/

/-- The machine with the notice state of a panel replaced and requests sent to the CMP. -/
def State.paneled (s : State) (p : Fin 8) (x : NtcPanel) (l : List ToCmp) : State :=
  { s with
    ntc := { s.ntc with panels := s.ntc.panels.set p x }
    links := { s.links with ntcCmp := s.links.ntcCmp ++ l.map (mail .ntc s) } }

section Paneled

variable {s : State} {p : Fin 8} {x y : NtcPanel} {l m : List ToCmp}

@[simp] theorem paneled_entries : (s.paneled p x l).ntc.entries = s.ntc.entries := rfl
@[simp] theorem paneled_sequence : (s.paneled p x l).ntc.sequence = s.ntc.sequence := rfl
@[simp] theorem paneled_lobbyOpen : (s.paneled p x l).ntc.lobbyOpen = s.ntc.lobbyOpen := rfl
@[simp] theorem paneled_panels : (s.paneled p x l).ntc.panels = s.ntc.panels.set p x := rfl
@[simp] theorem ntcPanel_paneled : ntcPanel (s.paneled p x l) p = x := Tab.get_set_same ..

theorem ntcPanel_paneled_ne {q : Fin 8} (h : p ≠ q) : ntcPanel (s.paneled p x l) q = ntcPanel s q := Tab.get_set_ne _ _ h

@[simp] theorem paneled_paneled : (s.paneled p x l).paneled p y m = s.paneled p y (l ++ m) := by
  unfold State.paneled
  simp only [Tab.set_set, List.map_append, List.append_assoc]
  rfl

theorem paneled_self : s.paneled p (ntcPanel s p) [] = s := by
  unfold State.paneled ntcPanel
  simp only [Tab.set_get, List.map_nil, List.append_nil]

theorem setNtcPanel_eq (f : NtcPanel → NtcPanel) : setNtcPanel p f s = s.paneled p (f (ntcPanel s p)) [] := by
  unfold State.paneled
  simp only [List.map_nil, List.append_nil]
  rfl

theorem sendCmp_eq (z : ToCmp) : sendCmp z s = s.paneled p (ntcPanel s p) [z] := by
  unfold State.paneled ntcPanel
  simp only [Tab.set_get]
  rfl

end Paneled

/-! ## The pending list (R73) -/

/-- The order of a pending list depends on the entries and the raise sequence only. -/
theorem insertWaiting_congr {c d : Ntc} (he : d.entries = c.entries) (hs : d.sequence = c.sequence) (e : Fin 24) (l : List Waiting) :
    insertWaiting d e l = insertWaiting c e l := by
  have hb (e f : Fin 24) : pendsBefore d e f = pendsBefore c e f := by
    unfold pendsBefore classOf sequencePlace
    rw [he, hs]
  induction l with
  | nil => rfl
  | cons w l ih => simp only [insertWaiting, hb, ih]

theorem insertWaiting_perm (c : Ntc) (e : Fin 24) (l : List Waiting) : (insertWaiting c e l).Perm (⟨e, false⟩ :: l) := by
  induction l with
  | nil => exact .refl _
  | cons w l ih =>
    unfold insertWaiting
    split
    · exact .refl _
    · exact (ih.cons w).trans (.swap ..)

theorem insertForced_eq (e : Fin 24) (l : List Waiting) :
    insertForced e l = l.takeWhile (fun w => w.forced) ++ ⟨e, true⟩ :: l.dropWhile fun w => w.forced := by
  induction l with
  | nil => rfl
  | cons w l ih =>
    unfold insertForced
    by_cases hw : w.forced = true
    · rw [if_pos hw, ih, List.takeWhile_cons_of_pos hw, List.dropWhile_cons_of_pos hw, List.cons_append]
    · rw [if_neg hw, List.takeWhile_cons_of_neg hw, List.dropWhile_cons_of_neg hw, List.nil_append]

theorem insertForced_perm (e : Fin 24) (l : List Waiting) : (insertForced e l).Perm (⟨e, true⟩ :: l) := by
  rw [insertForced_eq]
  exact List.perm_middle.trans (by rw [List.takeWhile_append_dropWhile])

/-! ## What each operation does to its panel -/

/-- A panel's notice state with an entry pending at its ordered place. -/
def NtcPanel.pended (x : NtcPanel) (c : Ntc) (e : Fin 24) : NtcPanel := { x with waiting := insertWaiting c e x.waiting }

/-- A panel's notice state with an entry out of its pending list. -/
def NtcPanel.unpended (x : NtcPanel) (e : Fin 24) : NtcPanel := { x with waiting := dropWaiting e x.waiting }

/-- What a take saves: a context, or with no room on the stack the current entry (R89, R90). -/
def NtcPanel.saved (x : NtcPanel) (c : Ntc) (k : Context) : NtcPanel :=
  if x.stack.length < 3 then { x with stack := k :: x.stack }
  else match x.view with
    | some f => x.pended c f
    | none => x

/-- A panel's notice state after the take of an entry. -/
def NtcPanel.took (x : NtcPanel) (c : Ntc) (k : Context) (e : Fin 24) : NtcPanel :=
  { (x.unpended e).saved c k with view := some e }

/-- A panel's notice state with the top context popped (R92). -/
def NtcPanel.popped (x : NtcPanel) : NtcPanel :=
  match x.stack with
  | [] => { x with view := none }
  | c :: rest => { x with view := c.view, stack := rest }

/-- A panel's notice state with an entry out of its save stack and its pending list (R93, R94). -/
def NtcPanel.spliced (x : NtcPanel) (e : Fin 24) : NtcPanel :=
  { x with stack := x.stack.filter fun c => c.view != some e, waiting := dropWaiting e x.waiting }

section Operations

variable {s : State} {p : Fin 8} {e : Fin 24}

theorem pend_eq : pend e p s = s.paneled p ((ntcPanel s p).pended s.ntc e) [] := setNtcPanel_eq _

theorem drop_eq : setNtcPanel p (fun x => { x with waiting := dropWaiting e x.waiting }) s = s.paneled p ((ntcPanel s p).unpended e) [] :=
  setNtcPanel_eq _

/-- A view change depends on the entries and on the panel's map only. -/
theorem viewChange_congr {t : State} (he : t.ntc.entries = s.ntc.entries) (hm : (ntcPanel t p).map = (ntcPanel s p).map) (v : View)
    (k : Tab 8 Nat) : viewChange t p v k = viewChange s p v k := by
  unfold viewChange mapLayout
  rw [he, hm]

theorem viewChange_paneled {x : NtcPanel} {l : List ToCmp} (hm : x.map = (ntcPanel s p).map) (v : View) (k : Tab 8 Nat) :
    viewChange (s.paneled p x l) p v k = viewChange s p v k :=
  viewChange_congr (s := s) (t := s.paneled p x l) rfl (by rw [ntcPanel_paneled]; exact hm) v k

theorem showView_eq (v : View) (k : Tab 8 Nat) :
    showView p v k s = s.paneled p { ntcPanel s p with view := v } [.view (viewChange s p v k)] := by
  unfold showView
  rw [setNtcPanel_eq, sendCmp_eq (p := p), ntcPanel_paneled, paneled_paneled]
  rfl

theorem saved_map (x : NtcPanel) (c : Ntc) (k : Context) : (x.saved c k).map = x.map := by
  unfold NtcPanel.saved
  split
  · rfl
  · split <;> rfl

theorem saveView_eq : saveView p s = s.paneled p ((ntcPanel s p).saved s.ntc (contextOf s p)) [] := by
  unfold saveView NtcPanel.saved
  split
  · exact setNtcPanel_eq _
  · cases (ntcPanel s p).view with
    | some f => exact pend_eq
    | none => exact paneled_self.symm

theorem pended_congr {c d : Ntc} (he : d.entries = c.entries) (hs : d.sequence = c.sequence) (x : NtcPanel) (f : Fin 24) :
    x.pended d f = x.pended c f := by
  unfold NtcPanel.pended
  rw [insertWaiting_congr he hs]

theorem saved_congr {c d : Ntc} (he : d.entries = c.entries) (hs : d.sequence = c.sequence) (x : NtcPanel) (k : Context) :
    x.saved d k = x.saved c k := by
  unfold NtcPanel.saved
  simp only [pended_congr he hs]

/-- The context that a take saves does not depend on the pending list. -/
theorem contextOf_unpended : contextOf (s.paneled p ((ntcPanel s p).unpended e) []) p = contextOf s p := by
  rw [← drop_eq]
  unfold contextOf
  have hview : (ntcPanel (setNtcPanel p (fun x => { x with waiting := dropWaiting e x.waiting }) s) p).view = (ntcPanel s p).view := by
    rw [drop_eq, ntcPanel_paneled]
    rfl
  rw [hview]
  rfl

/-- A take (R89, R90): the panel's notice state, and the view change to the entry. -/
theorem takeEntry_eq : takeEntry e p s
    = s.paneled p ((ntcPanel s p).took s.ntc (contextOf s p) e) [.view (viewChange s p (some e) (Tab.fill 8 0))] := by
  unfold takeEntry
  rw [drop_eq, saveView_eq, ntcPanel_paneled, paneled_paneled, showView_eq, ntcPanel_paneled, paneled_paneled, contextOf_unpended]
  have hsaved := saved_congr (c := s.ntc) (d := (s.paneled p ((ntcPanel s p).unpended e) []).ntc) rfl rfl ((ntcPanel s p).unpended e)
    (contextOf s p)
  have hmap : (((ntcPanel s p).unpended e).saved s.ntc (contextOf s p)).map = (ntcPanel s p).map := saved_map ..
  rw [hsaved, viewChange_paneled hmap]
  rfl

/-- The view change of a pop: the top context's view, from its cursors where its layout is the one it would use now (R92). -/
def popChange (s : State) (p : Fin 8) : ViewChange :=
  match (ntcPanel s p).stack with
  | [] => viewChange s p none (Tab.fill 8 0)
  | c :: _ => viewChange s p c.view (if c.layout = layoutNow s p c.view then c.cursors else Tab.fill 8 0)

theorem popped_nil {x : NtcPanel} (h : x.stack = []) : x.popped = { x with view := none } := by
  unfold NtcPanel.popped
  rw [h]

theorem popped_cons {x : NtcPanel} {c : Context} {rest : List Context} (h : x.stack = c :: rest) :
    x.popped = { x with view := c.view, stack := rest } := by
  unfold NtcPanel.popped
  rw [h]

theorem popChange_nil (h : (ntcPanel s p).stack = []) : popChange s p = viewChange s p none (Tab.fill 8 0) := by
  unfold popChange
  rw [h]

theorem popChange_cons {c : Context} {rest : List Context} (h : (ntcPanel s p).stack = c :: rest) :
    popChange s p = viewChange s p c.view (if c.layout = layoutNow s p c.view then c.cursors else Tab.fill 8 0) := by
  unfold popChange
  rw [h]

theorem popView_eq : popView p s = s.paneled p (ntcPanel s p).popped [.view (popChange s p)] := by
  unfold popView
  split
  · rename_i hst
    rw [popped_nil hst, popChange_nil hst]
    exact showView_eq ..
  · rename_i c rest hst
    have hmap : { ntcPanel s p with stack := rest }.map = (ntcPanel s p).map := rfl
    rw [popped_cons hst, popChange_cons hst, setNtcPanel_eq, showView_eq, ntcPanel_paneled, paneled_paneled, viewChange_paneled hmap]
    rfl

theorem leavePanel_frame : (leavePanel e p s).ntc.panels = s.ntc.panels ∧ (leavePanel e p s).ntc.sequence = s.ntc.sequence
    ∧ (leavePanel e p s).links = s.links := by
  unfold leavePanel
  split <;> exact ⟨rfl, rfl, rfl⟩

/-- An entry retired from one panel (R91 to R94). -/
theorem retireFrom_eq : retireFrom e p s = (leavePanel e p s).paneled p
    (if (ntcPanel s p).view = some e then (ntcPanel s p).popped else (ntcPanel s p).spliced e)
    (if (ntcPanel s p).view = some e then [.view (popChange (leavePanel e p s) p)] else []) := by
  have hpanel : ntcPanel (leavePanel e p s) p = ntcPanel s p := by
    unfold ntcPanel
    rw [leavePanel_frame.1]
  unfold retireFrom
  dsimp only
  rw [hpanel]
  split
  · rw [popView_eq, hpanel]
  · rw [setNtcPanel_eq, hpanel]
    rfl

end Operations

/-! ## Takes evaluated (R87, R88) -/

section Takes

variable {s : State} {p : Fin 8}

/-- A take of a candidate of the pending list, one after the other, leaves one panel changed; `P` is what every such take keeps of it. -/
theorem takeLoop_paneled {P : NtcPanel → Prop} (hP : ∀ (c : Ntc) (x : NtcPanel) (k : Context) (e : Fin 24), P x →
      firstCandidate c x = some e → k.view = x.view → P (x.took c k e)) (n : Nat) (s : State) (h : P (ntcPanel s p)) :
    ∃ x l, takeLoop n p s = s.paneled p x l ∧ P x := by
  induction n generalizing s with
  | zero => exact ⟨ntcPanel s p, [], paneled_self.symm, h⟩
  | succ n ih =>
    unfold takeLoop
    split
    · rename_i e he
      rw [takeEntry_eq]
      obtain ⟨x, l, hx, hPx⟩ := ih (s.paneled p ((ntcPanel s p).took s.ntc (contextOf s p) e) [.view (viewChange s p (some e) (Tab.fill 8 0))])
        (by rw [ntcPanel_paneled]; exact hP _ _ _ _ h he rfl)
      exact ⟨x, _, hx.trans paneled_paneled, hPx⟩
    · exact ⟨ntcPanel s p, [], paneled_self.symm, h⟩

theorem evalTakes_paneled {P : NtcPanel → Prop} (hP : ∀ (c : Ntc) (x : NtcPanel) (k : Context) (e : Fin 24), P x →
      firstCandidate c x = some e → k.view = x.view → P (x.took c k e)) (s : State) (h : P (ntcPanel s p)) :
    ∃ x l, evalTakes p s = s.paneled p x l ∧ P x := by
  unfold evalTakes
  split
  · exact takeLoop_paneled hP takeFuel s h
  · exact ⟨ntcPanel s p, [], paneled_self.symm, h⟩

end Takes

end Sys2Proof.Machine
end

section
/-! PROOFS. The one place of every entry on a panel, and the save stacks, under each operation on a panel (R71, R74). -/

namespace Sys2Proof.Machine

section Places

variable {x : NtcPanel} {c : Ntc} {k : Context} {e f : Fin 24} {w : Fin 24 → Bool}

/-- The places of an entry in a pending list. -/
def pendingCount (e : Fin 24) (l : List Waiting) : Nat := (l.map fun w => w.entry).count e

/-- The places of an entry among a panel's views. -/
def shownCount (e : Fin 24) (l : List View) : Nat := (l.filterMap id).count e

theorem places_eq (e : Fin 24) (x : NtcPanel) : places e x = pendingCount e x.waiting + shownCount e (shownViews x) := List.count_append

@[simp] theorem shownCount_nil (e : Fin 24) : shownCount e [] = 0 := rfl

@[simp] theorem shownCount_none (e : Fin 24) (l : List View) : shownCount e (none :: l) = shownCount e l := rfl

@[simp] theorem shownCount_some (e f : Fin 24) (l : List View) : shownCount e (some f :: l) = shownCount e l + if f = e then 1 else 0 := by
  simp [shownCount, List.count_cons]

theorem shownCount_eq_zero {l : List View} : shownCount e l = 0 ↔ some e ∉ l := by
  simp [shownCount, List.count_eq_zero]

theorem pendingCount_cons (e : Fin 24) (y : Waiting) (l : List Waiting) :
    pendingCount e (y :: l) = pendingCount e l + if y.entry = e then 1 else 0 := by
  simp [pendingCount, List.count_cons]

theorem pendingCount_perm {l m : List Waiting} (h : l.Perm m) (e : Fin 24) : pendingCount e l = pendingCount e m := (h.map _).count_eq e

theorem pendingCount_pos {l : List Waiting} {y : Waiting} (h : y ∈ l) : 0 < pendingCount y.entry l :=
  List.count_pos_iff.2 (List.mem_map_of_mem h)

theorem pendingCount_dropWaiting (l : List Waiting) : pendingCount f (dropWaiting e l) = if f = e then 0 else pendingCount f l := by
  induction l with
  | nil => simp [dropWaiting, pendingCount]
  | cons y l ih =>
    have hcons : dropWaiting e (y :: l) = if y.entry = e then dropWaiting e l else y :: dropWaiting e l := by
      by_cases hy : y.entry = e <;> simp [dropWaiting, hy]
    rw [hcons, pendingCount_cons]
    split
    · rename_i hy
      rw [ih, hy]
      split
      · rfl
      · rename_i hf
        rw [if_neg (Ne.symm hf)]
        rfl
    · rename_i hy
      rw [pendingCount_cons, ih]
      split
      · rename_i hf
        rw [hf, if_neg hy]
      · rfl

theorem places_pended : places f (x.pended c e) = places f x + if e = f then 1 else 0 := by
  have hp : pendingCount f (insertWaiting c e x.waiting) = pendingCount f x.waiting + if e = f then 1 else 0 := by
    rw [pendingCount_perm (insertWaiting_perm c e x.waiting), pendingCount_cons]
  rw [places_eq, places_eq, NtcPanel.pended, hp]
  exact Nat.add_right_comm ..

theorem places_unpended : places f (x.unpended e) = if f = e then shownCount f (shownViews x) else places f x := by
  rw [places_eq, NtcPanel.unpended, pendingCount_dropWaiting, places_eq]
  split
  · exact Nat.zero_add _
  · rfl

/-- The place of a panel's current view joins the stack or the pending list, and the entry taken has the place of the view. -/
theorem places_saved (hk : k.view = x.view) : places f { x.saved c k with view := some e } = places f x + if e = f then 1 else 0 := by
  unfold NtcPanel.saved
  split
  · have hshown : shownViews { x with stack := k :: x.stack, view := some e } = some e :: shownViews x := by
      simp [shownViews, hk]
    rw [places_eq, places_eq, hshown, shownCount_some]
    exact (Nat.add_assoc ..).symm
  · cases hv : x.view with
    | none =>
      have hshown : shownViews x = none :: x.stack.map fun c => c.view := by simp [shownViews, hv]
      rw [places_eq, places_eq, hshown, shownCount_none]
      have hnew : shownViews { x with view := some e } = some e :: x.stack.map fun c => c.view := rfl
      rw [hnew, shownCount_some]
      exact (Nat.add_assoc ..).symm
    | some g =>
      have hshown : shownViews x = some g :: x.stack.map fun c => c.view := by simp [shownViews, hv]
      have hpend := places_pended (x := x) (c := c) (e := g) (f := f)
      rw [places_eq, places_eq] at hpend
      rw [places_eq, places_eq]
      have hsame : shownViews (x.pended c g) = shownViews x := rfl
      rw [hsame, hshown, shownCount_some] at hpend
      have hnew : shownViews { x.pended c g with view := some e } = some e :: x.stack.map fun c => c.view := rfl
      rw [hnew, hshown, shownCount_some, shownCount_some]
      dsimp only at hpend ⊢
      omega

/-- A take of an entry that the panel does not show: the entry has one place, and every other as many as before (R71). -/
theorem places_took (hk : k.view = x.view) (he : some e ∉ shownViews x) : places f (x.took c k e) = if f = e then 1 else places f x := by
  unfold NtcPanel.took
  rw [places_saved (x := x.unpended e) hk, places_unpended]
  by_cases hf : f = e
  · subst hf
    rw [if_pos rfl, if_pos rfl, if_pos rfl, shownCount_eq_zero.2 he]
  · rw [if_neg hf, if_neg hf, if_neg (Ne.symm hf)]
    rfl

theorem places_popped {y : Context} {rest : List Context} (hv : x.view = some e) (hs : x.stack = y :: rest) :
    places f x = places f x.popped + if e = f then 1 else 0 := by
  have hshown : shownViews x = some e :: y.view :: rest.map fun c => c.view := by simp [shownViews, hv, hs]
  rw [popped_cons hs, places_eq, places_eq, hshown, shownCount_some]
  have hnew : shownViews { x with view := y.view, stack := rest } = y.view :: rest.map fun c => c.view := rfl
  rw [hnew]
  exact (Nat.add_assoc ..).symm

theorem shownCount_filter (l : List Context) : shownCount f ((l.filter fun c => c.view != some e).map fun c => c.view)
    = if f = e then 0 else shownCount f (l.map fun c => c.view) := by
  induction l with
  | nil => simp
  | cons y l ih =>
    rw [List.filter_cons, List.map_cons]
    cases hv : y.view with
    | none => simpa [hv] using ih
    | some g =>
      by_cases hg : g = e
      · by_cases hf : f = e
        · simpa [hg, hf] using ih
        · simpa [hg, hf, Ne.symm hf] using ih
      · by_cases hf : f = e
        · subst hf
          simpa [hv, hg] using ih
        · simpa [hv, hg, hf] using ih

theorem places_spliced (hv : x.view ≠ some e) : places f (x.spliced e) = if f = e then 0 else places f x := by
  have hview : shownViews (x.spliced e) = x.view :: (x.stack.filter fun c => c.view != some e).map fun c => c.view := rfl
  have hold : shownViews x = x.view :: x.stack.map fun c => c.view := rfl
  rw [places_eq, places_eq, hview, hold]
  have hw : (x.spliced e).waiting = dropWaiting e x.waiting := rfl
  rw [hw, pendingCount_dropWaiting]
  cases hg : x.view with
  | none =>
    rw [shownCount_none, shownCount_none, shownCount_filter]
    split <;> rfl
  | some g =>
    rw [shownCount_some, shownCount_some, shownCount_filter]
    split
    · rename_i hf
      have hge : g ≠ f := by
        rintro rfl
        exact hv (by rw [hg, hf])
      rw [if_neg hge]
    · rfl

/-! ## The save stack (R74) -/

theorem stackOk_took (h : StackOk x) (hk : k.view = x.view) : StackOk (x.took c k e) := by
  obtain ⟨hlen, hempty, hlast, hrest⟩ := h
  have hstack : (x.took c k e).stack = if x.stack.length < 3 then k :: x.stack else x.stack := by
    unfold NtcPanel.took NtcPanel.saved NtcPanel.unpended
    dsimp only
    split
    · rfl
    · split <;> rfl
  have hview : (x.took c k e).view = some e := rfl
  unfold StackOk
  rw [hstack, hview]
  split
  · rename_i hroom
    refine ⟨by simpa using hroom, by simp, fun y hy => ?_, fun y hy => ?_⟩
    · cases hst : x.stack with
      | nil =>
        rw [hst] at hy
        cases hy
        exact hk.trans (hempty.1 hst)
      | cons z l =>
        rw [hst, List.getLast?_cons_cons] at hy
        exact hlast y (by rw [hst]; exact hy)
    · cases hst : x.stack with
      | nil =>
        rw [hst] at hy
        exact absurd hy List.not_mem_nil
      | cons z l =>
        rw [hst, List.dropLast_cons_cons] at hy
        rcases List.mem_cons.1 hy with rfl | hy
        · rw [hk]
          exact fun hn => by simp [hst] at hempty; exact hempty hn
        · exact hrest y (by rw [hst]; exact hy)
  · rename_i hfull
    refine ⟨hlen, ?_, hlast, hrest⟩
    have hne : x.stack ≠ [] := fun hn => hfull (by simp [hn])
    simp [hne]

theorem stackOk_popped {y : Context} {rest : List Context} (h : StackOk x) (hs : x.stack = y :: rest) : StackOk x.popped := by
  obtain ⟨hlen, hempty, hlast, hrest⟩ := h
  rw [hs] at hlen hlast hrest
  rw [popped_cons hs]
  refine ⟨Nat.le_of_succ_le hlen, ⟨fun hr => ?_, fun hv => ?_⟩, fun z hz => ?_, fun z hz => ?_⟩
  · have hr : rest = [] := hr
    subst hr
    exact hlast y rfl
  · cases rest with
    | nil => rfl
    | cons z l => exact absurd hv (hrest y (by simp))
  · cases rest with
    | nil => exact absurd hz (by simp)
    | cons u l => exact hlast z (by rw [List.getLast?_cons_cons]; exact hz)
  · cases rest with
    | nil => exact absurd hz List.not_mem_nil
    | cons u l => exact hrest z (by rw [List.dropLast_cons_cons]; exact List.mem_cons_of_mem _ hz)

/-- The contexts left without an entry's: the last one is BASE as before. -/
theorem stackOk_spliced (h : StackOk x) : StackOk (x.spliced e) := by
  obtain ⟨hlen, hempty, hlast, hrest⟩ := h
  have hstack : (x.spliced e).stack = x.stack.filter fun c => c.view != some e := rfl
  have hview : (x.spliced e).view = x.view := rfl
  unfold StackOk
  rw [hstack, hview]
  rcases List.eq_nil_or_concat x.stack with hnil | ⟨l, y, hconcat⟩
  · rw [hnil]
    exact ⟨by simp, by simpa [hnil] using hempty, by simp, by simp⟩
  · rw [List.concat_eq_append] at hconcat
    have hy : y.view = none := hlast y (by simp [hconcat])
    have hfilter : (x.stack.filter fun c => c.view != some e) = (l.filter fun c => c.view != some e) ++ [y] := by
      simp [hconcat, hy]
    rw [hfilter]
    have hne : x.stack ≠ [] := by simp [hconcat]
    refine ⟨?_, ?_, by simp [hy], fun z hz => ?_⟩
    · have hle := List.length_filter_le (fun c : Context => c.view != some e) l
      rw [hconcat] at hlen
      simp only [List.length_append, List.length_singleton] at hlen ⊢
      omega
    · have hv : x.view ≠ none := fun hn => hne (hempty.2 hn)
      simp [hv]
    · rw [List.dropLast_concat] at hz
      exact hrest z (by rw [hconcat, List.dropLast_concat]; exact (List.mem_filter.1 hz).1)

/-! ## A panel that holds the entries of a set -/

/-- The panel holds every entry of the set in exactly one place and no other, and its stack is well formed (R71, R74). -/
def Stands (w : Fin 24 → Bool) (x : NtcPanel) : Prop := (∀ e, places e x = if w e = true then 1 else 0) ∧ StackOk x

theorem Stands.congr {v : Fin 24 → Bool} (h : Stands w x) (hv : ∀ e, v e = w e) : Stands v x := (funext hv : v = w) ▸ h

/-- Only the pending list, the view and the stack are looked at. -/
theorem Stands.same {y : NtcPanel} (h : Stands w x) (hw : y.waiting = x.waiting) (hv : y.view = x.view) (hs : y.stack = x.stack) :
    Stands w y := by
  unfold Stands places shownViews StackOk at *
  rw [hw, hv, hs]
  exact h

theorem Stands.pended (h : Stands w x) (he : w e = false) : Stands (Function.update w e true) (x.pended c e) := by
  refine ⟨fun f => ?_, h.2⟩
  rw [places_pended, h.1]
  by_cases hf : f = e
  · subst hf
    simp [he]
  · simp [hf, Ne.symm hf]

/-- A take of an entry that the panel does not show. -/
theorem Stands.took (h : Stands w x) (hk : k.view = x.view) (he : some e ∉ shownViews x) :
    Stands (Function.update w e true) (x.took c k e) := by
  refine ⟨fun f => ?_, stackOk_took h.2 hk⟩
  rw [places_took hk he, h.1]
  by_cases hf : f = e
  · subst hf
    simp
  · simp [hf]

/-- An entry pending on the panel is not shown on it. -/
theorem Stands.not_shown (h : Stands w x) {y : Waiting} (hy : y ∈ x.waiting) : some y.entry ∉ shownViews x := by
  have hp := h.1 y.entry
  rw [places_eq] at hp
  have hpos := pendingCount_pos hy
  rw [← shownCount_eq_zero]
  split at hp <;> omega

theorem Stands.pending (h : Stands w x) {y : Waiting} (hy : y ∈ x.waiting) : w y.entry = true := by
  have hp := h.1 y.entry
  rw [places_eq] at hp
  have hpos := pendingCount_pos hy
  split at hp
  · assumption
  · omega

theorem update_same {w : Fin 24 → Bool} (he : w e = true) : Function.update w e true = w := by
  funext f
  by_cases hf : f = e
  · subst hf
    simp [he]
  · simp [hf]

/-- A take from the pending list. -/
theorem Stands.took_pending (h : Stands w x) (hk : k.view = x.view) {y : Waiting} (hy : y ∈ x.waiting) : Stands w (x.took c k y.entry) := by
  have := h.took (c := c) hk (h.not_shown hy)
  rwa [update_same (h.pending hy)] at this

/-- An entry of the pending list put at its ordered place. -/
theorem Stands.repended (h : Stands w x) {y : Waiting} (hy : y ∈ x.waiting) : Stands w ((x.unpended y.entry).pended c y.entry) := by
  refine ⟨fun f => ?_, h.2⟩
  rw [places_pended, places_unpended]
  by_cases hf : f = y.entry
  · subst hf
    rw [if_pos rfl, if_pos rfl, shownCount_eq_zero.2 (h.not_shown hy), if_pos (h.pending hy)]
  · rw [if_neg hf, if_neg (Ne.symm hf), h.1]
    rfl

/-- An entry that the panel does not show, forced (R83). -/
theorem Stands.forced (h : Stands w x) (he : some e ∉ shownViews x) :
    Stands (Function.update w e true) { x with waiting := insertForced e (dropWaiting e x.waiting) } := by
  refine ⟨fun f => ?_, h.2⟩
  have hshown : shownViews { x with waiting := insertForced e (dropWaiting e x.waiting) } = shownViews x := rfl
  have hold := h.1 f
  rw [places_eq] at hold ⊢
  rw [hshown, pendingCount_perm (insertForced_perm e (dropWaiting e x.waiting)), pendingCount_cons, pendingCount_dropWaiting]
  by_cases hf : f = e
  · subst hf
    simp [shownCount_eq_zero.2 he]
  · rw [if_neg hf, if_neg (Ne.symm hf), Function.update_of_ne hf]
    exact hold

/-- An entry of the panel retired from it (R91 to R94). -/
theorem Stands.retired (h : Stands w x) (he : w e = true) :
    Stands (Function.update w e false) (if x.view = some e then x.popped else x.spliced e) := by
  split
  · rename_i hv
    cases hs : x.stack with
    | nil => exact absurd (h.2.2.1.1 hs) (by simp [hv])
    | cons y rest =>
      refine ⟨fun f => ?_, stackOk_popped h.2 hs⟩
      have hp := places_popped (f := f) hv hs
      rw [h.1] at hp
      by_cases hf : f = e
      · subst hf
        simp only [he, if_true] at hp
        simp only [Function.update_self, Bool.false_eq_true, if_false]
        omega
      · rw [Function.update_of_ne hf, hp, if_neg (Ne.symm hf)]
        rfl
  · rename_i hv
    refine ⟨fun f => ?_, stackOk_spliced h.2⟩
    rw [places_spliced hv, h.1]
    by_cases hf : f = e
    · subst hf
      simp
    · simp [hf]

theorem classShown_of_shown {e : Fin 24} (h : some e ∈ shownViews x) : classShown c (classOf c e) x = true :=
  List.any_eq_true.2 ⟨some e, h, beq_self_eq_true _⟩

theorem stands_reset : Stands (fun _ => false) NtcPanel.reset := ⟨fun _ => rfl, by decide⟩

end Places

end Sys2Proof.Machine
end

section
/-! PROOFS. Every command keeps the raise sequence, the one place of every entry on each panel, and the save stacks (R71, R74). -/

namespace Sys2Proof.Machine

/-! ## The panels that hold an entry -/

/-- The entries that a panel is to hold: those with the panel in their set (R71). -/
def wants (c : Ntc) (p : Fin 8) (e : Fin 24) : Bool := (c.entries.get e).any fun n => n.panels.getLsbD p.val

/-- Every panel holds the entries of its set, each in one place, and no other. -/
def Standing (W : Fin 8 → Fin 24 → Bool) (s : State) : Prop := ∀ p, Stands (W p) (ntcPanel s p)

/-- The raise sequence is that of the LIVE entries. -/
def Sequenced (c : Ntc) : Prop := c.sequence.Nodup ∧ ∀ e, e ∈ c.sequence ↔ (c.entries.get e).isSome = true

theorem noticesOk_iff (s : State) : NoticesOk s ↔ Sequenced s.ntc ∧ Standing (wants s.ntc) s := by
  have hrest : (HeldOk s ∧ ∀ p, StackOk (s.ntc.panels.get p)) ↔ Standing (wants s.ntc) s :=
    ⟨fun ⟨hh, hs⟩ p => ⟨fun e => hh e p, hs p⟩, fun h => ⟨fun e p => (h p).1 e, fun p => (h p).2⟩⟩
  unfold NoticesOk Sequenced
  rw [hrest, and_assoc]

theorem noticesOk_restsOn : RestsOn [.ntc] NoticesOk := fun s t h hs => by
  have hntc : t.ntc = s.ntc := h .ntc (by simp)
  unfold NoticesOk HeldOk at *
  rw [hntc]
  exact hs

/-- The set of one entry changed on one panel. -/
def wantsAt (W : Fin 8 → Fin 24 → Bool) (p : Fin 8) (e : Fin 24) (b : Bool) : Fin 8 → Fin 24 → Bool :=
  Function.update W p (Function.update (W p) e b)

section Standing

variable {W : Fin 8 → Fin 24 → Bool} {s t : State} {p : Fin 8} {e : Fin 24}

theorem Standing.congr {V : Fin 8 → Fin 24 → Bool} (h : Standing W s) (hV : ∀ p e, V p e = W p e) : Standing V s :=
  fun p => (h p).congr (hV p)

theorem Standing.of_panels (h : Standing W s) (hp : t.ntc.panels = s.ntc.panels) : Standing W t := fun p => by
  unfold ntcPanel
  rw [hp]
  exact h p

theorem Standing.paneled {x : NtcPanel} {l : List ToCmp} {w : Fin 24 → Bool} (h : Standing W s) (hx : Stands w x) :
    Standing (Function.update W p w) (s.paneled p x l) := fun q => by
  by_cases hq : q = p
  · subst hq
    rw [Function.update_self, ntcPanel_paneled]
    exact hx
  · rw [Function.update_of_ne hq, ntcPanel_paneled_ne (Ne.symm hq)]
    exact h q

theorem Standing.paneled_same {x : NtcPanel} {l : List ToCmp} (h : Standing W s) (hx : Stands (W p) x) : Standing W (s.paneled p x l) := by
  have := h.paneled (p := p) (l := l) hx
  rwa [Function.update_eq_self] at this

/-- An operation on each panel of a list changes one entry's set on those panels. -/
theorem Standing.fold {a b : Fin 8 → Bool} {g : Fin 8 → State → State} {I : State → Prop} (hI : ∀ p u, I u → I (g p u))
    (hg : ∀ p u V, I u → Standing V u → V p e = a p → Standing (wantsAt V p e (b p)) (g p u)) (l : List (Fin 8)) (hl : l.Nodup)
    (hs : I s) (h : Standing W s) (ha : ∀ p ∈ l, W p e = a p) :
    Standing (fun p f => if p ∈ l ∧ f = e then b p else W p f) (l.foldl (fun u p => g p u) s) := by
  induction l generalizing s W with
  | nil => exact h.congr fun p f => by simp
  | cons q l ih =>
    obtain ⟨hq, hl⟩ := List.nodup_cons.1 hl
    have hstep := hg q s W hs h (ha q List.mem_cons_self)
    have hrest := ih hl (hI q s hs) hstep fun p hp => by
      have hpq : p ≠ q := fun he => hq (he ▸ hp)
      rw [wantsAt, Function.update_of_ne hpq]
      exact ha p (List.mem_cons_of_mem _ hp)
    refine hrest.congr fun p f => ?_
    by_cases hpq : p = q
    · subst hpq
      by_cases hf : f = e
      · simp [hq, hf, wantsAt]
      · simp [hf, wantsAt]
    · simp [hpq, wantsAt]

end Standing

/-! ## Takes -/

/-- The entries and the raise sequence stay, and so does every set of entries that the panels hold. -/
structure Steady (s t : State) : Prop where
  entries : t.ntc.entries = s.ntc.entries
  sequence : t.ntc.sequence = s.ntc.sequence
  standing : ∀ W, Standing W s → Standing W t

section Steady

variable {s t u : State} {p : Fin 8}

theorem Steady.refl (s : State) : Steady s s := ⟨rfl, rfl, fun _ => id⟩

theorem Steady.trans (h : Steady s t) (k : Steady t u) : Steady s u :=
  ⟨k.entries.trans h.entries, k.sequence.trans h.sequence, fun W hs => k.standing W (h.standing W hs)⟩

theorem steady_of_ntc (h : t.ntc = s.ntc) : Steady s t := ⟨by rw [h], by rw [h], fun W hs => hs.of_panels (by rw [h])⟩

theorem steady_paneled {x : NtcPanel} {l : List ToCmp} (hx : ∀ w, Stands w (ntcPanel s p) → Stands w x) : Steady s (s.paneled p x l) :=
  ⟨rfl, rfl, fun W hs => hs.paneled_same (hx _ (hs p))⟩

theorem foldl_steady {α : Type} {g : State → α → State} (hg : ∀ a u, Steady u (g u a)) (l : List α) (s : State) : Steady s (l.foldl g s) := by
  induction l generalizing s with
  | nil => exact .refl s
  | cons a l ih => exact (hg a s).trans (ih (g s a))

theorem Steady.noticesOk (h : Steady s t) (hs : NoticesOk s) : NoticesOk t := by
  rw [noticesOk_iff] at *
  have hw : wants t.ntc = wants s.ntc := by
    funext p e
    unfold wants
    rw [h.entries]
  refine ⟨?_, hw ▸ h.standing _ hs.2⟩
  unfold Sequenced
  rw [h.entries, h.sequence]
  exact hs.1

/-- A candidate is of the pending list, and not shown (R88). -/
theorem firstCandidate_some {c : Ntc} {x : NtcPanel} {e : Fin 24} (h : firstCandidate c x = some e) :
    ∃ y ∈ x.waiting, y.entry = e ∧ isCandidate c x e = true := by
  obtain ⟨y, hy, rfl⟩ := Option.map_eq_some_iff.1 h
  exact ⟨y, List.mem_of_find?_eq_some hy, rfl, List.find?_some (p := fun w : Waiting => isCandidate c x w.entry) hy⟩

theorem steady_evalTakes (p : Fin 8) (s : State) : Steady s (evalTakes p s) := by
  obtain ⟨x, l, hx, hP⟩ := evalTakes_paneled (p := p) (P := fun x => ∀ w, Stands w (ntcPanel s p) → Stands w x) (fun c x k e hx he hk w hw => by
    obtain ⟨y, hy, rfl, -⟩ := firstCandidate_some he
    exact (hx w hw).took_pending hk hy) s (fun _ => id)
  rw [hx]
  exact steady_paneled hP

theorem steady_evalSet (m : BitVec 8) (s : State) : Steady s (evalSet m s) := foldl_steady (fun p u => steady_evalTakes p u) _ s

theorem headForced_some {x : NtcPanel} {e : Fin 24} (h : headForced x = some e) : ∃ y ∈ x.waiting, y.entry = e := by
  unfold headForced at h
  split at h
  · rename_i y rest hw
    split at h
    · cases h
      exact ⟨y, by simp [hw], rfl⟩
    · cases h
  · cases h

/-- A forced entry of the pending list taken, or pending again without its mark (R83). -/
theorem steady_forcedStep {e : Fin 24} (h : ∃ y ∈ (ntcPanel s p).waiting, y.entry = e) : Steady s (forcedStep e p s) := by
  obtain ⟨y, hy, rfl⟩ := h
  unfold forcedStep
  split
  · rw [drop_eq, pend_eq, ntcPanel_paneled, paneled_paneled]
    exact steady_paneled fun w hw => hw.repended hy
  · rw [takeEntry_eq]
    exact steady_paneled fun w hw => hw.took_pending rfl hy

theorem steady_forcedLoop (n : Nat) (p : Fin 8) (s : State) : Steady s (forcedLoop n p s) := by
  induction n generalizing s with
  | zero => exact .refl s
  | succ n ih =>
    unfold forcedLoop
    split
    · rename_i e he
      exact (steady_forcedStep (headForced_some he)).trans (ih _)
    · exact .refl s

/-- A panel's settings, its map and its presence are not looked at. -/
theorem steady_setNtcPanel {f : NtcPanel → NtcPanel} (hw : ∀ x, (f x).waiting = x.waiting) (hv : ∀ x, (f x).view = x.view)
    (hk : ∀ x, (f x).stack = x.stack) : Steady s (setNtcPanel p f s) := by
  rw [setNtcPanel_eq]
  exact steady_paneled fun w h => h.same (hw _) (hv _) (hk _)

end Steady

/-! ## Retirement -/

section Retire

variable {s : State} {e : Fin 24} {p : Fin 8}

/-- A set with an entry that the panel does not have, and without one that it has. -/
theorem wants_eq_false (h : s.ntc.entries.get e = none) (p : Fin 8) : wants s.ntc p e = false := by
  unfold wants
  rw [h]
  rfl

theorem standing_retireFrom {W : Fin 8 → Fin 24 → Bool} (h : Standing W s) (he : W p e = true) :
    Standing (wantsAt W p e false) (retireFrom e p s) := by
  rw [retireFrom_eq]
  exact (h.of_panels leavePanel_frame.1).paneled ((h p).retired he)

/-- What a retirement from a panel leaves of the entries: the panel is out of the entry's set. -/
theorem retireFrom_entries : (retireFrom e p s).ntc.entries = s.ntc.entries.set e
    ((s.ntc.entries.get e).map fun n => { n with panels := dropPanel n.panels p }) := by
  rw [retireFrom_eq, paneled_entries]
  unfold leavePanel
  split
  · rename_i n hn
    rw [hn]
    rfl
  · rename_i hn
    rw [hn, Option.map_none]
    conv_lhs => rw [← Tab.set_get s.ntc.entries e, hn]

theorem retireFrom_sequence : (retireFrom e p s).ntc.sequence = s.ntc.sequence := by
  rw [retireFrom_eq, paneled_sequence, leavePanel_frame.2.1]

theorem mem_panelsOf {m : BitVec 8} : p ∈ panelsOf m ↔ m.getLsbD p.val = true := by
  unfold panelsOf
  rw [List.mem_filter]
  exact and_iff_right (List.mem_finRange p)

theorem panelsOf_nodup (m : BitVec 8) : (panelsOf m).Nodup := (List.nodup_finRange 8).filter _

theorem entryPanels_eq (p : Fin 8) : (entryPanels s e).getLsbD p.val = wants s.ntc p e := by
  unfold entryPanels wants
  split
  · rename_i n hn
    rw [hn]
    rfl
  · rename_i hn
    rw [hn]
    exact BitVec.getLsbD_zero

/-- The entries but one, the raise sequence, and whether the one is LIVE. -/
def KeepsOthers (e : Fin 24) (s t : State) : Prop :=
  (∀ f, f ≠ e → t.ntc.entries.get f = s.ntc.entries.get f) ∧ (t.ntc.entries.get e).isSome = (s.ntc.entries.get e).isSome
    ∧ t.ntc.sequence = s.ntc.sequence

theorem keepsOthers_retireFrom {u : State} (h : KeepsOthers e s u) : KeepsOthers e s (retireFrom e p u) := by
  obtain ⟨ho, hi, hs⟩ := h
  refine ⟨fun f hf => ?_, ?_, retireFrom_sequence.trans hs⟩
  · rw [retireFrom_entries, Tab.get_set_ne _ _ (Ne.symm hf)]
    exact ho f hf
  · rw [retireFrom_entries, Tab.get_set_same, Option.isSome_map]
    exact hi

/-- A LIVE entry becomes FREE, in the table and in the raise sequence. -/
theorem freeNotice_frame {n : Notice} (h : s.ntc.entries.get e = some n) : (freeNotice e s).ntc
    = { s.ntc with entries := s.ntc.entries.set e none, sequence := s.ntc.sequence.filter fun f => f != e } := by
  unfold freeNotice
  rw [h]
  dsimp only
  split <;> rfl

theorem noticesOk_retireAll (e : Fin 24) (h : NoticesOk s) : NoticesOk (retireAll e s) := by
  rw [noticesOk_iff] at *
  obtain ⟨⟨hnodup, hmem⟩, hst⟩ := h
  unfold retireAll
  have hfold := hst.fold (e := e) (a := fun _ => true) (b := fun _ => false) (g := fun p u => retireFrom e p u) (I := fun u => KeepsOthers e s u)
    (fun _ _ => keepsOthers_retireFrom) (fun p u V _ hV hp => standing_retireFrom hV hp) (panelsOf (entryPanels s e)) (panelsOf_nodup _)
    ⟨fun _ _ => rfl, rfl, rfl⟩ (fun p hp => by rw [← entryPanels_eq, mem_panelsOf.1 hp])
  have hkeeps : KeepsOthers e s ((panelsOf (entryPanels s e)).foldl (fun u p => retireFrom e p u) s) :=
    foldl_preserves (I := fun u => KeepsOthers e s u) _ (fun _ _ _ => keepsOthers_retireFrom) ⟨fun _ _ => rfl, rfl, rfl⟩
  generalize (panelsOf (entryPanels s e)).foldl (fun u p => retireFrom e p u) s = u at hfold hkeeps
  obtain ⟨ho, hi, hs⟩ := hkeeps
  cases he : u.ntc.entries.get e with
  | none =>
    have hfree : freeNotice e u = u := by
      unfold freeNotice
      rw [he]
    have hse : s.ntc.entries.get e = none := by
      rw [he] at hi
      exact Option.isNone_iff_eq_none.1 (by simpa using hi.symm)
    have hentries (f : Fin 24) : u.ntc.entries.get f = s.ntc.entries.get f := by
      by_cases hf : f = e
      · rw [hf, he, hse]
      · exact ho f hf
    rw [hfree]
    refine ⟨⟨by rwa [hs], fun f => by rw [hs, hentries, hmem]⟩, hfold.congr fun p f => ?_⟩
    unfold wants
    rw [hentries]
    split
    · rename_i hpf
      rw [hpf.2, hse]
      rfl
    · rfl
  | some n =>
    have hframe := freeNotice_frame he
    refine ⟨?_, ?_⟩
    · unfold Sequenced
      rw [hframe]
      dsimp only
      rw [hs]
      refine ⟨hnodup.filter _, fun f => ?_⟩
      rw [List.mem_filter, hmem, Tab.get_set]
      by_cases hf : f = e
      · subst hf
        simp
      · simp [hf, Ne.symm hf, ho f hf]
    · refine (Standing.of_panels (t := freeNotice e u) hfold (by rw [hframe])).congr fun p f => ?_
      unfold wants
      rw [hframe]
      dsimp only
      rw [Tab.get_set]
      by_cases hf : f = e
      · subst hf
        rw [if_pos rfl]
        split
        · rfl
        · rename_i hp
          have hwf : (entryPanels s f).getLsbD p.val = false := by
            by_contra hb
            exact hp ⟨mem_panelsOf.2 (by simpa using hb), rfl⟩
          rw [entryPanels_eq] at hwf
          exact hwf.symm
      · rw [if_neg (Ne.symm hf), if_neg fun h => hf h.2, ho f hf]

theorem noticesOk_retireEach (l : List (Fin 24)) (h : NoticesOk s) : NoticesOk (retireEach l s) :=
  (steady_evalSet _ _).noticesOk (foldl_preserves (I := NoticesOk) l (fun e _ u hu => noticesOk_retireAll e hu) h)

end Retire

/-! ## Raises -/

section Raise

variable {s : State} {e : Fin 24} {p : Fin 8}

theorem standing_pend {W : Fin 8 → Fin 24 → Bool} (h : Standing W s) (he : W p e = false) : Standing (wantsAt W p e true) (pend e p s) := by
  rw [pend_eq]
  exact h.paneled ((h p).pended he)

theorem pendEach_frame (m : BitVec 8) : (pendEach e m s).ntc.entries = s.ntc.entries ∧ (pendEach e m s).ntc.sequence = s.ntc.sequence :=
  foldl_preserves (I := fun u => u.ntc.entries = s.ntc.entries ∧ u.ntc.sequence = s.ntc.sequence) _ (fun _ _ _ hu => hu) ⟨rfl, rfl⟩

/-- A FREE entry made LIVE and pending on its panels (R77, R80). -/
theorem noticesOk_added {n : Notice} (hfree : s.ntc.entries.get e = none) (h : NoticesOk s) :
    NoticesOk (pendEach e n.panels (addEntry e n s)) := by
  rw [noticesOk_iff] at *
  obtain ⟨⟨hnodup, hmem⟩, hst⟩ := h
  obtain ⟨hentries, hseq⟩ := pendEach_frame (s := addEntry e n s) (e := e) n.panels
  have hadd : Standing (wants s.ntc) (addEntry e n s) := hst.of_panels rfl
  have hfold := hadd.fold (e := e) (a := fun _ => false) (b := fun _ => true) (g := fun p u => pend e p u) (I := fun _ => True)
    (fun _ _ => id) (fun p u V _ hV hp => standing_pend hV hp) (panelsOf n.panels) (panelsOf_nodup _) trivial
    (fun p _ => wants_eq_false hfree p)
  refine ⟨?_, hfold.congr fun p f => ?_⟩
  · have hnot : e ∉ s.ntc.sequence := fun he => by
      have := (hmem e).1 he
      simp [hfree] at this
    unfold Sequenced
    rw [hentries, hseq]
    refine ⟨List.Nodup.append hnodup (List.nodup_singleton e) (by simpa using hnot), fun f => ?_⟩
    show f ∈ s.ntc.sequence ++ [e] ↔ ((s.ntc.entries.set e (some n)).get f).isSome = true
    rw [List.mem_append, List.mem_singleton, hmem, Tab.get_set]
    by_cases hf : f = e
    · simp [hf]
    · simp [hf, Ne.symm hf]
  · unfold wants
    rw [hentries]
    show ((s.ntc.entries.set e (some n)).get f).any _ = _
    rw [Tab.get_set]
    by_cases hf : f = e
    · subst hf
      rw [if_pos rfl, hfree]
      by_cases hp : p ∈ panelsOf n.panels
      · rw [if_pos ⟨hp, rfl⟩]
        exact mem_panelsOf.1 hp
      · rw [if_neg fun h => hp h.1]
        have : n.panels.getLsbD p.val = false := by
          by_contra hb
          exact hp (mem_panelsOf.2 (by simpa using hb))
        simpa using this
    · rw [if_neg (Ne.symm hf), if_neg fun h => hf h.2]

theorem dropPanel_absent {m : BitVec 8} (h : m.getLsbD p.val = false) : dropPanel m p = m := by
  revert m p
  decide

theorem steady_movePending : Steady s (movePending e p s) := by
  unfold movePending
  split
  · rename_i hw
    obtain ⟨y, hy, hye⟩ := List.any_eq_true.1 hw
    have hye : y.entry = e := by
      have := (Bool.and_eq_true_iff.1 hye).1
      simpa using this
    subst hye
    rw [drop_eq, pend_eq, ntcPanel_paneled, paneled_paneled]
    exact steady_paneled fun w hw => hw.repended hy
  · exact .refl s

/-- One panel under a re-raise holds the entry where the new set has it (R78, R79). -/
theorem standing_rePanel {W : Fin 8 → Fin 24 → Bool} {old new : BitVec 8} {moved : Bool} (h : Standing W s)
    (he : W p e = old.getLsbD p.val) : Standing (wantsAt W p e (new.getLsbD p.val)) (rePanel e old new moved p s) := by
  have hsame (hb : W p e = new.getLsbD p.val) : wantsAt W p e (new.getLsbD p.val) = W := by
    rw [wantsAt, ← hb, Function.update_eq_self, Function.update_eq_self]
  unfold rePanel
  split
  · rename_i hboth
    obtain ⟨hold, hnew⟩ := hboth
    rw [hsame (by rw [he, hold, hnew])]
    have hmoved : Standing W (if moved = true then movePending e p s else s) := by
      split
      · exact steady_movePending.standing W h
      · exact h
    dsimp only
    generalize (if moved = true then movePending e p s else s) = t at hmoved ⊢
    split
    · exact hmoved.of_panels rfl
    · exact hmoved
  · rename_i hnot
    split
    · rename_i hnew
      rw [hnew]
      refine standing_pend h ?_
      rw [he]
      by_contra hold
      exact hnot ⟨by simpa using hold, hnew⟩
    · rename_i hnew
      have hnew : new.getLsbD p.val = false := by simpa using hnew
      split
      · rename_i hold
        rw [hnew]
        exact standing_retireFrom h (by rw [he, hold])
      · rename_i hold
        rw [hsame]
        · exact h
        · rw [he, hnew]
          simpa using hold

/-- A re-raise keeps the entries and the raise sequence, the panel taken out being none of the new set's. -/
theorem rePanel_frame {old : BitVec 8} {n : Notice} {moved : Bool} (hn : s.ntc.entries.get e = some n) :
    (rePanel e old n.panels moved p s).ntc.entries = s.ntc.entries ∧ (rePanel e old n.panels moved p s).ntc.sequence = s.ntc.sequence := by
  unfold rePanel
  split
  · have hmoved : (if moved = true then movePending e p s else s).ntc.entries = s.ntc.entries
        ∧ (if moved = true then movePending e p s else s).ntc.sequence = s.ntc.sequence := by
      split
      · exact ⟨steady_movePending.entries, steady_movePending.sequence⟩
      · exact ⟨rfl, rfl⟩
    dsimp only
    generalize (if moved = true then movePending e p s else s) = t at hmoved ⊢
    split
    · exact hmoved
    · exact hmoved
  · split
    · rw [pend_eq]
      exact ⟨rfl, rfl⟩
    · rename_i hnew
      split
      · refine ⟨?_, retireFrom_sequence⟩
        rw [retireFrom_entries, hn, Option.map_some, dropPanel_absent (by simpa using hnew), ← hn, Tab.set_get]
      · exact ⟨rfl, rfl⟩

/-- One LIVE entry's notice replaced: its panels are those of the notice. -/
theorem wants_set {n : Notice} {f : Fin 24} {c : Ntc} : ((c.entries.set e (some n)).get f).any (fun n => n.panels.getLsbD p.val)
    = if f = e then n.panels.getLsbD p.val else wants c p f := by
  rw [Tab.get_set]
  by_cases hf : f = e
  · rw [if_pos hf, if_pos hf.symm]
    rfl
  · rw [if_neg hf, if_neg (Ne.symm hf)]
    rfl

theorem sequenced_set {n m : Notice} {c d : Ntc} (hn : c.entries.get e = some n) (he : d.entries = c.entries.set e (some m))
    (hs : d.sequence = c.sequence) (h : Sequenced c) : Sequenced d := by
  unfold Sequenced at *
  rw [he, hs]
  refine ⟨h.1, fun f => ?_⟩
  rw [h.2, Tab.get_set]
  split
  · rename_i hf
    rw [← hf, hn]
    rfl
  · rfl

theorem noticesOk_reRaise {old new : Notice} (hold : s.ntc.entries.get e = some old) (h : NoticesOk s) : NoticesOk (reRaise e old new s) := by
  unfold reRaise
  refine (steady_evalSet _ _).noticesOk ?_
  rw [noticesOk_iff] at *
  obtain ⟨hseq, hst⟩ := h
  have hset : (setEntry e (some new) s).ntc.entries = s.ntc.entries.set e (some new) := rfl
  have hI (p : Fin 8) (u : State) (hu : u.ntc.entries = s.ntc.entries.set e (some new) ∧ u.ntc.sequence = s.ntc.sequence) :
      (rePanel e old.panels new.panels (decide (old.cls ≠ new.cls)) p u).ntc.entries = s.ntc.entries.set e (some new)
      ∧ (rePanel e old.panels new.panels (decide (old.cls ≠ new.cls)) p u).ntc.sequence = s.ntc.sequence := by
    obtain ⟨he, hq⟩ := hu
    obtain ⟨he', hq'⟩ := rePanel_frame (p := p) (old := old.panels) (moved := decide (old.cls ≠ new.cls)) (s := u) (e := e) (n := new)
      (by rw [he, Tab.get_set_same])
    exact ⟨he'.trans he, hq'.trans hq⟩
  have hreplaced : Standing (wants s.ntc) (setEntry e (some new) s) := hst.of_panels rfl
  have hfold := hreplaced.fold (s := setEntry e (some new) s) (e := e) (a := fun p => old.panels.getLsbD p.val)
    (b := fun p => new.panels.getLsbD p.val) (g := rePanel e old.panels new.panels (decide (old.cls ≠ new.cls)))
    (I := fun u => u.ntc.entries = s.ntc.entries.set e (some new) ∧ u.ntc.sequence = s.ntc.sequence) hI
    (fun p u V _ hV hp => standing_rePanel hV hp) (fins 8) (List.nodup_finRange 8) ⟨rfl, rfl⟩ (fun p _ => by
      unfold wants
      rw [hold]
      rfl)
  obtain ⟨he, hq⟩ := foldl_preserves (I := fun u => u.ntc.entries = s.ntc.entries.set e (some new) ∧ u.ntc.sequence = s.ntc.sequence)
    (f := fun u p => rePanel e old.panels new.panels (decide (old.cls ≠ new.cls)) p u) (fins 8) (fun p _ u => hI p u)
    (s := setEntry e (some new) s) ⟨rfl, rfl⟩
  refine ⟨sequenced_set hold he hq hseq, hfold.congr fun p f => ?_⟩
  have hp : p ∈ fins 8 := List.mem_finRange p
  have hwants : wants ((fins 8).foldl (fun u p => rePanel e old.panels new.panels (decide (old.cls ≠ new.cls)) p u)
      (setEntry e (some new) s)).ntc p f = ((s.ntc.entries.set e (some new)).get f).any fun n => n.panels.getLsbD p.val := by
    unfold wants
    rw [he]
  rw [hwants, wants_set]
  simp only [hp, true_and]

end Raise

end Sys2Proof.Machine
end

section
/-! PROOFS. The commands of the Notice Controller keep its tables (R71, R74, R76 to R99). -/

namespace Sys2Proof.Machine

section Commands

variable {s : State}

theorem noticesOk_of_ntc {t : State} (h : t.ntc = s.ntc) (hs : NoticesOk s) : NoticesOk t := (steady_of_ntc h).noticesOk hs

theorem noticesOk_raise (f : RaiseFields) (h : NoticesOk s) : NoticesOk (takeRaise f s) := by
  unfold takeRaise
  split
  · exact noticesOk_of_ntc rfl h
  · split
    · exact (steady_evalSet _ _).noticesOk (noticesOk_added ‹_› h)
    · split
      · exact noticesOk_of_ntc rfl h
      · exact noticesOk_reRaise ‹_› h

theorem freeAuto_some {c : Ntc} {e : Fin 24} (h : freeAuto c = some e) : 18 ≤ e.val ∧ c.entries.get e = none := by
  have := List.find?_some h
  simpa using this

theorem reportRaise_ntc (r : AutoRaise) (e : Option (Fin 24)) (u : State) : (reportRaise r e u).ntc = u.ntc := by
  unfold reportRaise
  split <;> rfl

theorem noticesOk_takeAutoRaise (r : AutoRaise) (h : NoticesOk s) : NoticesOk (takeAutoRaise r s) := by
  unfold takeAutoRaise
  split
  · exact noticesOk_of_ntc (reportRaise_ntc ..) h
  · rename_i e he
    refine (steady_evalSet _ _).noticesOk (noticesOk_of_ntc (reportRaise_ntc ..) ?_)
    exact noticesOk_added (n := autoNotice r) (freeAuto_some he).2 h

theorem noticesOk_autoRaise (x : RaiseSender) (h : NoticesOk s) : NoticesOk (doAutoRaise x s) := by
  unfold doAutoRaise
  split
  · unfold autoRaiseSch
    split
    · dsimp only
      split
      · exact noticesOk_takeAutoRaise _ (noticesOk_of_ntc (t := s.withLinks _) rfl h)
      · exact h
    · exact h
  · unfold autoRaiseSlg
    split
    · exact h
    · dsimp only
      split
      · exact noticesOk_takeAutoRaise _ (noticesOk_of_ntc (t := s.withLinks _) rfl h)
      · exact h

theorem noticesOk_withdraw (k : Nat) (h : NoticesOk s) : NoticesOk (takeWithdraw k s) := by
  unfold takeWithdraw
  split
  · exact h
  · split
    · exact noticesOk_retireEach _ h
    · exact h

theorem addPanel_bit (m : BitVec 8) (p q : Fin 8) : (addPanel m p).getLsbD q.val = (m.getLsbD q.val || decide (q = p)) := by
  revert m p q
  decide

/-- An entry forced onto a panel that does not show its class joins that panel, taken there or waiting (R82, R83). -/
theorem noticesOk_applyForce {e : Fin 24} {n : Notice} {p : Fin 8} (hn : s.ntc.entries.get e = some n)
    (hclass : classShown s.ntc n.cls.val (ntcPanel s p) = false) (h : NoticesOk s) : NoticesOk (applyForce e n p s) := by
  have hnot : some e ∉ shownViews (ntcPanel s p) := fun he => by
    have := classShown_of_shown (c := s.ntc) he
    rw [classOf, hn] at this
    simp [hclass] at this
  have hset : ∀ t : State, t.ntc.entries = s.ntc.entries.set e (some { n with panels := addPanel n.panels p }) →
      t.ntc.sequence = s.ntc.sequence → Standing (wantsAt (wants s.ntc) p e true) t → NoticesOk t := fun t hte hts hst => by
    rw [noticesOk_iff] at *
    refine ⟨sequenced_set hn hte hts h.1, hst.congr fun q f => ?_⟩
    have hw : wants t.ntc q f = ((s.ntc.entries.set e (some { n with panels := addPanel n.panels p })).get f).any fun n => n.panels.getLsbD q.val := by
      unfold wants
      rw [hte]
    rw [hw, wants_set]
    by_cases hf : f = e
    · subst hf
      by_cases hq : q = p
      · subst hq
        simp [wantsAt, addPanel_bit]
      · have hold : wants s.ntc q f = n.panels.getLsbD q.val := by
          unfold wants
          rw [hn]
          rfl
        rw [if_pos rfl, addPanel_bit, wantsAt, Function.update_of_ne hq, hold]
        simp only [hq, decide_false, Bool.or_false]
    · by_cases hq : q = p
      · subst hq
        simp [wantsAt, hf]
      · simp [wantsAt, hf, hq]
  have hst : Standing (wants s.ntc) s := ((noticesOk_iff s).1 h).2
  unfold applyForce
  dsimp only
  split
  · refine (steady_evalTakes _ _).noticesOk ?_
    rw [takeEntry_eq]
    refine hset _ rfl rfl ?_
    exact (hst.of_panels (t := setEntry e _ s) rfl).paneled ((hst p).took rfl hnot)
  · rw [setNtcPanel_eq]
    refine hset _ rfl rfl ?_
    exact (hst.of_panels (t := setEntry e _ s) rfl).paneled ((hst p).forced hnot)

theorem noticesOk_force (k q : Nat) (h : NoticesOk s) : NoticesOk (takeForce k q s) := by
  unfold takeForce
  split
  · split
    · exact h
    · split
      · exact h
      · rename_i hclass
        exact noticesOk_applyForce ‹_› (Bool.eq_false_iff.2 hclass) h
  · exact h

theorem noticesOk_setLobby (b : Bool) (h : NoticesOk s) : NoticesOk (setLobby b s) := by
  unfold setLobby
  split
  · exact h
  · exact (steady_evalSet _ _).noticesOk h

theorem noticesOk_deliver_lobby {ok : Nat → Bool} {act : State → State} (hact : ∀ u, NoticesOk u → NoticesOk (act u)) (h : NoticesOk s) :
    NoticesOk (deliver .ntc (pickLobby ok act) s) := by
  refine deliver_preserves h (fun x rest _ => h) fun p f hf c u hu => ?_
  unfold pickLobby at hf
  split at hf
  · split at hf <;> cases hf
    exact hact u hu
  · cases hf

/-- Lifetimes counted leave the panels of every entry. -/
theorem noticesOk_countLife (h : NoticesOk s) :
    NoticesOk (s.withNtc { s.ntc with entries := s.ntc.entries.map fun n => n.map countLife }) := by
  rw [noticesOk_iff] at *
  have hget (e : Fin 24) : (s.ntc.entries.map fun n => n.map countLife).get e = (s.ntc.entries.get e).map countLife := Tab.get_map ..
  obtain ⟨⟨hnodup, hmem⟩, hst⟩ := h
  refine ⟨⟨hnodup, fun e => ?_⟩, (hst.of_panels (t := s.withNtc _) rfl).congr fun p e => ?_⟩
  · rw [State.withNtc_ntc, hget, Option.isSome_map]
    exact hmem e
  · unfold wants
    rw [State.withNtc_ntc, hget]
    cases s.ntc.entries.get e <;> rfl

theorem noticesOk_expiry (h : NoticesOk s) : NoticesOk (doNoticeExpiry s) := by
  unfold doNoticeExpiry
  split
  · exact noticesOk_retireEach _ (noticesOk_countLife (s := s.withLinks { s.links with pulseNtc := s.links.pulseNtc - 1 }) h)
  · exact h

theorem noticesOk_saleEnd (h : NoticesOk s) : NoticesOk (doSaleEnd s) := by
  unfold doSaleEnd
  split
  · dsimp only
    split
    · exact noticesOk_retireEach _ (noticesOk_of_ntc (t := s.withLinks _) rfl h)
    · exact h
  · exact h

theorem noticesOk_takePresence (p : Fin 8) (mode : Mode) (h : NoticesOk s) : NoticesOk (takePresenceNtc p mode s) := by
  have hlive : Steady s (setNtcPanel p (fun x => { x with live := mode == .live }) s) :=
    steady_setNtcPanel (fun _ => rfl) (fun _ => rfl) fun _ => rfl
  have htaken (n : Nat) (u : State) (hu : NoticesOk u) : NoticesOk (if mode = .live then evalTakes p (forcedLoop n p u) else u) := by
    split
    · exact ((steady_forcedLoop n p u).trans (steady_evalTakes p _)).noticesOk hu
    · exact hu
  exact htaken 24 _ (hlive.noticesOk h)

theorem noticesOk_presence (p : Fin 8) (h : NoticesOk s) : NoticesOk (doPresenceReportNtc p s) := by
  unfold doPresenceReportNtc
  split
  · exact h
  · split
    · exact noticesOk_takePresence p _ (noticesOk_of_ntc (t := s.withLinks _) rfl h)
    · exact h

theorem noticesOk_panelSet {item q : Nat} {f : Option (NtcPanel → NtcPanel)} (hw : ∀ g ∈ f, ∀ x, (g x).waiting = x.waiting)
    (hv : ∀ g ∈ f, ∀ x, (g x).view = x.view) (hk : ∀ g ∈ f, ∀ x, (g x).stack = x.stack) (h : NoticesOk s) :
    NoticesOk (panelSet item q f s) := by
  unfold panelSet
  split
  · exact h
  · split
    · exact h
    · exact ((steady_setNtcPanel (hw _ rfl) (hv _ rfl) (hk _ rfl)).trans (steady_evalTakes _ _)).noticesOk h

theorem noticesOk_noticeLayout (key v : Nat) (h : NoticesOk s) : NoticesOk (applyNoticeLayout key v s) := by
  unfold applyNoticeLayout
  split
  · exact h
  · rename_i p _
    split
    · rename_i c l _ _
      have hmap : Steady s (setNtcPanel p (fun x => { x with map := x.map.set c l }) s) :=
        steady_setNtcPanel (fun _ => rfl) (fun _ => rfl) fun _ => rfl
      unfold storeMap
      dsimp only
      split
      · rw [showView_eq]
        exact (hmap.trans (steady_paneled fun w hw => hw.same rfl rfl rfl)).noticesOk h
      · exact hmap.noticesOk h
    · exact h

/-- With every entry FREE and nothing held. -/
theorem noticesOk_free (he : ∀ e, s.ntc.entries.get e = none) (hs : s.ntc.sequence = [])
    (hp : ∀ p, (ntcPanel s p).waiting = [] ∧ (ntcPanel s p).view = none ∧ (ntcPanel s p).stack = []) : NoticesOk s := by
  rw [noticesOk_iff]
  refine ⟨⟨by simp [hs], fun e => by simp [hs, he]⟩, fun p => ?_⟩
  obtain ⟨hw, hv, hk⟩ := hp p
  exact (stands_reset.same hw hv hk).congr fun e => wants_eq_false (he e) p

theorem noticesOk_reset : NoticesOk State.reset := by
  refine noticesOk_free (fun e => Tab.get_fill ..) rfl fun p => ?_
  have hp : ntcPanel State.reset p = NtcPanel.reset := Tab.get_fill ..
  rw [hp]
  exact ⟨rfl, rfl, rfl⟩

theorem noticesOk_resetBlock (b : Block) (all : Bool) (h : NoticesOk s) : NoticesOk (resetBlock b all s) := by
  cases b with
  | ntc =>
    unfold resetBlock resetNtc
    dsimp only
    refine foldl_preserves (I := NoticesOk) _ (fun e _ u hu => noticesOk_of_ntc rfl hu) ?_
    cases all with
    | true =>
      refine noticesOk_free (fun e => Tab.get_fill ..) rfl fun p => ?_
      have hp : ntcPanel (s.withNtc (s.ntc.onReset true)) p = NtcPanel.reset := Tab.get_fill ..
      rw [hp]
      exact ⟨rfl, rfl, rfl⟩
    | false =>
      refine noticesOk_free (fun e => Tab.get_fill ..) rfl fun p => ?_
      have hp : ntcPanel (s.withNtc (s.ntc.onReset false)) p = NtcPanel.onOps (ntcPanel s p) := Tab.get_map ..
      rw [hp]
      exact ⟨rfl, rfl, rfl⟩
  | _ => exact noticesOk_restsOn.keeps (resetBlock_keeps _ all s) (of_decide_eq_true rfl) h

end Commands

theorem noticesOk_exec (c : Instr) (s t : State) (h : NoticesOk s) (hc : exec c s = .next t) : NoticesOk t := by
  have hfifo (u : State) (x : Taken) (rest : List Taken) (_ : u.tif.fifo = x :: rest) (h : NoticesOk u) : NoticesOk (u.withFifo rest) := h
  cases c with
  | raise =>
    refine running_preserves (fun _ hs => deliver_preserves hs (fun x rest hx => hfifo _ x rest hx hs) fun p act hp c u hu => ?_) h hc
    cases p <;> cases hp
    exact noticesOk_raise _ hu
  | autoRaise x => exact running_preserves (fun _ => noticesOk_autoRaise x) h hc
  | withdraw =>
    refine running_preserves (fun _ hs => deliver_preserves hs (fun x rest hx => hfifo _ x rest hx hs) fun p act hp c u hu => ?_) h hc
    cases p <;> cases hp
    exact noticesOk_withdraw _ hu
  | force =>
    refine running_preserves (fun _ hs => deliver_preserves hs (fun x rest hx => hfifo _ x rest hx hs) fun p act hp c u hu => ?_) h hc
    cases p <;> cases hp
    exact noticesOk_force _ _ hu
  | lobbyOpen => exact running_preserves (fun _ => noticesOk_deliver_lobby fun _ => noticesOk_setLobby true) h hc
  | lobbyClosed => exact running_preserves (fun _ => noticesOk_deliver_lobby fun _ => noticesOk_setLobby false) h hc
  | lobbyBadMode =>
    refine running_preserves (fun _ hs => ?_) h hc
    refine noticesOk_deliver_lobby (fun u hu => ?_) hs
    exact hu
  | noticeExpiry => exact running_preserves (fun _ => noticesOk_expiry) h hc
  | saleEnd => exact running_preserves (fun _ => noticesOk_saleEnd) h hc
  | presenceReportNtc p => exact running_preserves (fun _ => noticesOk_presence p) h hc
  | setEnableMask | setClosedMask =>
    refine running_preserves (fun _ hs => deliver_set_preserves hs (fun x rest hx => hfifo _ x rest hx hs) fun p v u hu => ?_) h hc
    split
    · exact noticesOk_panelSet (by simp) (by simp) (by simp) hu
    · exact noticesOk_panelSet (by simp) (by simp) (by simp) hu
  | setNoticeHold =>
    refine running_preserves (fun _ hs => deliver_set_preserves hs (fun x rest hx => hfifo _ x rest hx hs) fun p v u hu => ?_) h hc
    cases yesNo v with
    | none => exact noticesOk_panelSet (by simp) (by simp) (by simp) hu
    | some b => exact noticesOk_panelSet (by simp) (by simp) (by simp) hu
  | setNoticeLayout => exact running_preserves (fun _ hs => deliver_set_preserves hs (fun x rest hx => hfifo _ x rest hx hs)
      fun k v _ hu => noticesOk_noticeLayout k v hu) h hc
  | resetTake b => exact running_preserves (fun _ => noticesOk_restsOn.resetTake (of_decide_eq_true rfl) fun all _ => noticesOk_resetBlock b all) h hc
  | pinReset =>
    cases hc
    exact noticesOk_of_ntc rfl noticesOk_reset
  | _ => exact noticesOk_restsOn.exec hc (of_decide_eq_true rfl) h

/-- Settles O11: every command keeps the notice tables. -/
theorem noticesStayOk : Obligations.NoticesStayOk := by
  unfold Obligations.NoticesStayOk
  exact step_of_exec noticesOk_restsOn (by decide) noticesOk_exec

end Sys2Proof.Machine
end

section
/-! PROOFS. While RESET_N is low no block runs, and after a reset every invariant holds (R6, R194). -/

namespace Sys2Proof.Machine

/-- Settles O3: every command but the ones named waits for the blocks to run. -/
theorem nothingRunsInReset : Obligations.NothingRunsInReset := by
  unfold Obligations.NothingRunsInReset
  refine ⟨fun c s hr hpin hrises hfall hrise hframe hlink => ?_, fun p s hr => ?_, fun s => rfl⟩
  · cases c with
    | pinReset => exact absurd rfl hpin
    | resetNRises => exact absurd rfl hrises
    | presenceFall p => exact absurd rfl (hfall p)
    | presenceRise p => exact absurd rfl (hrise p)
    | frameStart p => exact absurd rfl (hframe p)
    | linkPhaseIdle p => exact absurd rfl (hlink p)
    | _ => exact running_inReset _ hr
  · show execPresenceFall p s = _
    unfold execPresenceFall
    rw [if_pos hr]
    rfl

/-- Settles O13: each invariant by its own fact about the reset state. -/
theorem resetIsWellFormed : Obligations.ResetIsWellFormed := by
  unfold Obligations.ResetIsWellFormed
  intro s
  have hseated : Seated s := seated_of_reset (counted_reset rfl rfl rfl)
  have hopen : OpeningsOk s := (openingsOk_iff s).2 hseated.2
  have hholds : HoldsOk s := (holdsOk_iff s).2 hseated.1
  have hport (p : Fin 8) : s.ports.get p = Port.reset false := Tab.get_fill ..
  have hntc (p : Fin 8) : s.ntc.panels.get p = NtcPanel.reset := Tab.get_fill ..
  have hcmp (p : Fin 8) : s.cmp.panels.get p = CmpPanel.reset := Tab.get_fill ..
  refine ⟨⟨clockOk_reset, by decide, by decide, by decide, by decide, timetabled_reset, hholds, hopen, resetsOk_reset, noticesOk_reset,
    tilesOk_reset, by decide⟩, by decide, fun i => ?_, fun i => Tab.get_fill .., fun d => ?_, fun e => Tab.get_fill .., by decide, rfl, rfl,
    rfl, rfl, fun p => ?_⟩
  · have hslot : s.tst.slots.get i = ⟨.free, none, [], 0, 0⟩ := Tab.get_fill ..
    exact ⟨Tab.get_fill .., Tab.get_fill .., by rw [hslot]⟩
  · have hdesk : s.slg.desks.get d = Desk.closed := Tab.get_fill ..
    rw [hdesk]
    rfl
  · rw [hport, hntc, hcmp]
    decide

end Sys2Proof.Machine
end

section
/-! PROOFS. RAISE and the auto raises (R71, R76 to R80), and the reports that the schedule takes (R22, R25). -/

namespace Sys2Proof.Machine

theorem paneled_nil {s : State} {p : Fin 8} {x : NtcPanel} :
    s.paneled p x [] = { s with ntc := { s.ntc with panels := s.ntc.panels.set p x } } := by
  unfold State.paneled
  rw [List.map_nil, List.append_nil]

/-- An entry put at its ordered place anew (R79, R83). -/
theorem repend_eq {e : Fin 24} {p : Fin 8} {s : State} :
    pend e p (setNtcPanel p (fun x => { x with waiting := dropWaiting e x.waiting }) s)
      = s.paneled p (((ntcPanel s p).unpended e).pended s.ntc e) [] := by
  have hsame := pended_congr (c := s.ntc) (d := (s.paneled p ((ntcPanel s p).unpended e) []).ntc) rfl rfl ((ntcPanel s p).unpended e) e
  rw [drop_eq, pend_eq, ntcPanel_paneled, paneled_paneled, hsame]
  rfl

/-! ## An entry pending on its panels -/

/-- The panels of a list with an entry pending at its ordered place. -/
theorem foldl_pend (e : Fin 24) (l : List (Fin 8)) (hl : l.Nodup) (s : State) : l.foldl (fun s p => pend e p s) s
    = { s with ntc := { s.ntc with
        panels := Tab.make 8 fun p => if p ∈ l then (ntcPanel s p).pended s.ntc e else ntcPanel s p } } := by
  induction l generalizing s with
  | nil =>
    have hsame : (Tab.make 8 fun p => ntcPanel s p) = s.ntc.panels := Tab.ext_get fun p => Tab.get_make ..
    simp only [List.foldl_nil, List.not_mem_nil, if_false, hsame]
  | cons q l ih =>
    obtain ⟨hq, hl⟩ := List.nodup_cons.1 hl
    have hpanel (p : Fin 8) : ntcPanel (pend e q s) p = if p = q then (ntcPanel s q).pended s.ntc e else ntcPanel s p := by
      rw [pend_eq]
      by_cases hp : p = q
      · rw [if_pos hp, hp, ntcPanel_paneled]
      · rw [if_neg hp, ntcPanel_paneled_ne (Ne.symm hp)]
    have hset : Tab.make 8 (fun p => if p ∈ l then (ntcPanel (pend e q s) p).pended (pend e q s).ntc e else ntcPanel (pend e q s) p)
        = Tab.make 8 fun p => if p ∈ q :: l then (ntcPanel s p).pended s.ntc e else ntcPanel s p := by
      refine Tab.ext_get fun p => ?_
      rw [Tab.get_make, Tab.get_make, hpanel]
      by_cases hp : p = q
      · subst hp
        rw [if_neg hq, if_pos rfl, if_pos List.mem_cons_self]
      · have hmem : p ∈ q :: l ↔ p ∈ l := by simp [hp]
        simp only [hmem, if_neg hp]
        split
        · exact pended_congr (c := s.ntc) (d := (pend e q s).ntc) rfl rfl _ _
        · rfl
    rw [List.foldl_cons, ih hl, hset]
    rfl

/-- An entry pending on the panels of a set, all at once. -/
theorem pendEach_eq (e : Fin 24) (m : BitVec 8) (s : State) : pendEach e m s = s.pended e m := by
  unfold pendEach State.pended
  rw [foldl_pend e _ (panelsOf_nodup m)]
  simp only [mem_panelsOf]
  rfl

/-! ## The checks of RAISE (R76) -/

theorem glyphsOk_iff (l : List Nat) : glyphsOk l = true ↔ ∀ g ∈ l, g ≤ 1023 := by
  simp [glyphsOk]

theorem lineOk_iff (l : List Nat) : lineOk l = true ↔ 1 ≤ l.length ∧ l.length ≤ 64 ∧ ∀ g ∈ l, g ≤ 1023 := by
  unfold lineOk
  rw [Bool.and_eq_true, Bool.and_eq_true, decide_eq_true_iff, decide_eq_true_iff, glyphsOk_iff, and_assoc]

/-- The fields of a RAISE are in their ranges (R76 steps 1 and 2). -/
def RaiseInRange (f : RaiseFields) : Prop :=
  f.entry ≤ 17 ∧ f.cls < 12 ∧ 0 < f.panels ∧ f.panels < 256 ∧ 1 ≤ f.lines.length ∧ f.lines.length ≤ 3
    ∧ ∀ l ∈ f.lines, 1 ≤ l.length ∧ l.length ≤ 64 ∧ ∀ g ∈ l, g ≤ 1023

theorem raiseTarget_of_ok {f : RaiseFields} (h : RaiseInRange f) {e : Fin 24} {c : Fin 12} (he : e.val = f.entry) (hc : c.val = f.cls) :
    raiseTarget f = some (e, c) := by
  obtain ⟨hentry, -, hpos, hlt, hone, hthree, hlines⟩ := h
  have hall : f.lines.all lineOk = true := List.all_eq_true.2 fun l hl => (lineOk_iff l).2 (hlines l hl)
  unfold raiseTarget
  rw [← he, ← hc, asFin_val, asFin_val]
  exact if_pos ⟨he ▸ hentry, hpos, hlt, hone, hthree, hall⟩

theorem raiseTarget_of_not {f : RaiseFields} (h : ¬ RaiseInRange f) : raiseTarget f = none := by
  by_contra hne
  obtain ⟨x, hx⟩ := Option.ne_none_iff_exists'.1 hne
  unfold raiseTarget at hx
  split at hx
  · rename_i e c he hc
    split at hx
    · rename_i hok
      obtain ⟨hentry, hpos, hlt, hone, hthree, hall⟩ := hok
      have hcls : f.cls < 12 := by
        by_contra hge
        rw [asFin_eq_none (Nat.not_lt.1 hge)] at hc
        cases hc
      exact h ⟨hentry, hcls, hpos, hlt, hone, hthree, fun l hl => (lineOk_iff l).1 (List.all_eq_true.1 hall l hl)⟩
    · cases hx
  · cases hx

theorem shownAnywhere_iff (s : State) (e : Fin 24) : shownAnywhere s e = true ↔ ∃ p, some e ∈ shownViews (s.ntc.panels.get p) := by
  unfold shownAnywhere shownOn ntcPanel
  rw [List.any_eq_true]
  simp [fins]

/-! ## One panel under a re-raise (R78, R79) -/

section RePanel

variable {e : Fin 24} {old new : BitVec 8} {p : Fin 8} {s : State}

theorem rePanel_same (ho : old.getLsbD p.val = true) (hn : new.getLsbD p.val = true) : rePanel e old new false p s
    = { s with links := { s.links with ntcCmp := s.links.ntcCmp ++ if (ntcPanel s p).view = some e then [mail .ntc s (.content p)] else [] } } := by
  refine (if_pos ⟨ho, hn⟩).trans ?_
  show (if (ntcPanel s p).view = some e then sendCmp (.content p) s else s) = _
  split
  · rfl
  · rw [List.append_nil]

theorem rePanel_moved (ho : old.getLsbD p.val = true) (hn : new.getLsbD p.val = true) (hv : (ntcPanel s p).view ≠ some e) :
    rePanel e old new true p s = { s with ntc := { s.ntc with
      panels := s.ntc.panels.set p { ntcPanel s p with waiting :=
        if ⟨e, false⟩ ∈ (ntcPanel s p).waiting then insertWaiting s.ntc e ((ntcPanel s p).waiting.filter fun w => w.entry != e)
        else (ntcPanel s p).waiting } } } := by
  have hany : ((ntcPanel s p).waiting.any fun w => w.entry == e && !w.forced) = true ↔ ⟨e, false⟩ ∈ (ntcPanel s p).waiting := by
    rw [List.any_eq_true]
    constructor
    · rintro ⟨⟨f, b⟩, hw, hb⟩
      obtain ⟨rfl, rfl⟩ : f = e ∧ b = false := by simpa using hb
      exact hw
    · exact fun hw => ⟨_, hw, by simp⟩
  have hmove : movePending e p s = s.paneled p
      { ntcPanel s p with
        waiting := if ⟨e, false⟩ ∈ (ntcPanel s p).waiting then insertWaiting s.ntc e (dropWaiting e (ntcPanel s p).waiting)
          else (ntcPanel s p).waiting } [] := by
    unfold movePending
    split
    · rename_i hw
      rw [if_pos (hany.1 hw), repend_eq]
      rfl
    · rename_i hw
      rw [if_neg fun h => hw (hany.2 h)]
      exact paneled_self.symm
  refine (if_pos ⟨ho, hn⟩).trans ?_
  dsimp only
  rw [if_pos rfl, hmove, ntcPanel_paneled, if_neg hv, paneled_nil]
  rfl

end RePanel

/-- Settles O31: RAISE by its checks, and one panel under a re-raise by the two sets. -/
theorem raiseIsTaken : Obligations.RaiseIsTaken := by
  unfold Obligations.RaiseIsTaken
  refine ⟨fun f clock rest s hdel => ?_, fun e old new moved p s => ?_⟩
  · intro s' ok
    have hex {u : State} (hu : takeRaise f s' = u) : exec .raise s = .next u := deliver_leaves (act := fun _ => takeRaise f) hdel rfl hu
    refine ⟨fun hok => hex ?_, fun hok e c he hc => ?_⟩
    · unfold takeRaise
      rw [raiseTarget_of_not hok]
    · have htarget := raiseTarget_of_ok hok he hc
      refine ⟨fun hfree => hex ?_, fun old hold => ⟨fun hne hshown => hex ?_, fun hor => hex ?_⟩⟩
      · have hfree' : s'.ntc.entries.get e = none := hfree
        unfold takeRaise
        rw [htarget]
        dsimp only
        rw [hfree']
        dsimp only
        rw [newRaise, pendEach_eq]
        rfl
      · have hold' : s'.ntc.entries.get e = some old := hold
        unfold takeRaise
        rw [htarget]
        dsimp only
        rw [hold']
        exact if_pos ⟨hne, (shownAnywhere_iff s' e).2 hshown⟩
      · have hold' : s'.ntc.entries.get e = some old := hold
        unfold takeRaise
        rw [htarget]
        dsimp only
        rw [hold']
        refine (if_neg ?_).trans rfl
        rintro ⟨hne, hshown⟩
        obtain ⟨p, hp⟩ := (shownAnywhere_iff s' e).1 hshown
        exact hor.elim (fun h => hne h) fun h => h p hp
  · intro x had has act
    refine ⟨fun ho hn hm => ?_, fun ho hn hm hv => ?_, fun ho hn => ?_, fun ho hn => ?_, fun ho hn => ?_⟩
    · rw [show act = rePanel e old new false p s from congrArg (fun b => rePanel e old new b p s) hm]
      exact rePanel_same ho hn
    · rw [show act = rePanel e old new true p s from congrArg (fun b => rePanel e old new b p s) hm]
      exact rePanel_moved ho hn hv
    · have ho' : old.getLsbD p.val = false := ho
      refine (if_neg fun h => ?_).trans ((if_pos hn).trans ?_)
      · rw [ho'] at h
        exact Bool.false_ne_true h.1
      · rw [pend_eq, paneled_nil]
        rfl
    · have hn' : ¬ new.getLsbD p.val = true := by
        have hn : new.getLsbD p.val = false := hn
        rw [hn]
        exact Bool.false_ne_true
      exact (if_neg fun h => hn' h.2).trans ((if_neg hn').trans (if_pos ho))
    · have hn' : ¬ new.getLsbD p.val = true := by
        have hn : new.getLsbD p.val = false := hn
        rw [hn]
        exact Bool.false_ne_true
      have ho' : ¬ old.getLsbD p.val = true := by
        have ho : old.getLsbD p.val = false := ho
        rw [ho]
        exact Bool.false_ne_true
      exact (if_neg fun h => hn' h.2).trans ((if_neg hn').trans (if_neg ho'))

end Sys2Proof.Machine
end

section
/-! PROOFS. Auto raises from either sender, and the reports that the schedule takes (R22, R25, R80, R104). -/

namespace Sys2Proof.Machine

section AutoRaise

variable {s : State} {r : AutoRaise}

/-- The lowest FREE entry of the auto pool (R80). -/
theorem freeAuto_eq {c : Ntc} {e : Fin 24} (he : 18 ≤ e.val) (hfree : c.entries.get e = none)
    (hlow : ∀ f : Fin 24, 18 ≤ f.val → f < e → (c.entries.get f).isSome = true) : freeAuto c = some e := by
  refine List.find?_eq_some_iff_append.2 ⟨by simp [he, hfree], ?_⟩
  obtain ⟨l, m, hlm⟩ := List.append_of_mem (List.mem_finRange e)
  have hsorted : (l ++ e :: m).Pairwise (· < ·) := hlm ▸ List.pairwise_lt_finRange 24
  refine ⟨l, m, hlm, fun f hf => ?_⟩
  have hlt : f < e := (List.pairwise_append.1 hsorted).2.2 f hf e List.mem_cons_self
  by_cases h18 : 18 ≤ f.val
  · have := hlow f h18 hlt
    simp [this]
  · simp [h18]

theorem freeAuto_none {c : Ntc} (h : ∀ f : Fin 24, 18 ≤ f.val → (c.entries.get f).isSome = true) : freeAuto c = none := by
  refine List.find?_eq_none.2 fun f _ hf => ?_
  obtain ⟨h18, hnone⟩ : 18 ≤ f.val ∧ c.entries.get f = none := by simpa using hf
  exact absurd (h f h18) (by simp [hnone])

/-- The raise report of a boarding raise (R22, R80). -/
theorem reportRaise_eq (e : Option (Fin 24)) (u : State) : reportRaise r e u = { u with links := { u.links with
    ntcSch := u.links.ntcSch ++ if r.boarding then [mail .ntc u (.raiseReport r.slot r.id e)] else [] } } := by
  unfold reportRaise
  split
  · rfl
  · rw [List.append_nil]

theorem takeAutoRaise_free {e : Fin 24} (h : freeAuto s.ntc = some e) : takeAutoRaise r s
    = evalSet r.panels (reportRaise r (some e) ((addEntry e (autoNotice r) s).pended e r.panels)) := by
  unfold takeAutoRaise
  rw [h]
  dsimp only
  rw [pendEach_eq]

theorem takeAutoRaise_full (h : freeAuto s.ntc = none) :
    takeAutoRaise r s = reportRaise r none (refuse .ntc r.cause .autoPoolFull (r.id.getD 0) s) := by
  unfold takeAutoRaise
  rw [h]

theorem doAutoRaise_sch {ep : Nat} {rest : List (Mail ToNtc)} (hq : s.links.schNtc = ⟨ep, .autoRaise r⟩ :: rest)
    (hf : s.taken.get (blockIx .ntc) ≤ ep) :
    doAutoRaise .sch s = takeAutoRaise r { s with links := { s.links with schNtc := rest } } := by
  unfold doAutoRaise autoRaiseSch
  dsimp only
  rw [hq]
  exact if_pos (decide_eq_true hf)

theorem doAutoRaise_slg {ep : Nat} {rest : List (Mail AutoRaise)} (hq : s.links.slgNtc = ⟨ep, r⟩ :: rest)
    (hf : s.taken.get (blockIx .ntc) ≤ ep) :
    doAutoRaise .slg s = takeAutoRaise r { s with links := { s.links with slgNtc := rest } } := by
  unfold doAutoRaise autoRaiseSlg
  dsimp only
  rw [hq]
  exact if_pos (decide_eq_true hf)

end AutoRaise

/-! ## The reports (R22, R25, R104) -/

section Reports

variable {s : State} {ep : Nat}

theorem doRaiseReport_eq {slot : Fin 96} {id : Option Nat} {entry : Option (Fin 24)} {rest : List (Mail ToSch)}
    (hq : s.links.ntcSch = ⟨ep, .raiseReport slot id entry⟩ :: rest) (hf : s.taken.get (blockIx .sch) ≤ ep) :
    doRaiseReport s = takeRaiseReport slot id entry (s.withLinks { s.links with ntcSch := rest }) := by
  unfold doRaiseReport
  rw [hq]
  exact if_pos (decide_eq_true hf)

theorem takeRaiseReport_eq (slot : Fin 96) (id : Option Nat) (entry : Option (Fin 24)) (u : State) : takeRaiseReport slot id entry u
    = u.setShowing slot (if (u.sch.showings.get slot).state = .boarding ∧ (u.sch.showings.get slot).id = id then
        { u.sch.showings.get slot with autoEntry := entry } else u.sch.showings.get slot) := by
  unfold takeRaiseReport State.setShowing
  dsimp only
  split
  · rfl
  · rw [Tab.set_get]
    rfl

theorem doAutoFreeReport_eq {slot : Fin 96} {entry : Fin 24} {rest : List (Mail ToSch)}
    (hq : s.links.ntcSch = ⟨ep, .autoFree entry slot⟩ :: rest) (hf : s.taken.get (blockIx .sch) ≤ ep) :
    doAutoFreeReport s = takeAutoFree entry slot (s.withLinks { s.links with ntcSch := rest }) := by
  unfold doAutoFreeReport
  rw [hq]
  exact if_pos (decide_eq_true hf)

theorem takeAutoFree_eq (slot : Fin 96) (entry : Fin 24) (u : State) : takeAutoFree entry slot u
    = u.setShowing slot (if (u.sch.showings.get slot).autoEntry = some entry then
        { u.sch.showings.get slot with autoEntry := none } else u.sch.showings.get slot) := by
  unfold takeAutoFree clearAutoEntry State.setShowing
  split
  · rfl
  · rw [Tab.set_get]
    rfl

theorem doFilterLoadReport_eq {f : Fin 8} {rest : List (Fin 8)} (hq : s.links.cmpSch = f :: rest) :
    doFilterLoadReport s = evalRoster f (s.withLinks { s.links with cmpSch := rest }) := by
  unfold doFilterLoadReport
  rw [hq]

end Reports

/-- Settles O32: the sender's request taken, and then the pool; each report by its own equation. -/
theorem autoRaiseIsTaken : Obligations.AutoRaiseIsTaken := by
  unfold Obligations.AutoRaiseIsTaken
  refine ⟨fun sender ep r s s' hr hf hsender => ?_, fun s hr => ⟨fun ep slot id entry rest hq hf => ?_,
    fun ep entry slot rest hq hf => ?_, fun f rest hq => ?_⟩⟩
  · intro told
    have hex : exec (.autoRaise sender) s = .next (takeAutoRaise r s') ∧ s'.ntc = s.ntc ∧ s'.taken = s.taken := by
      cases sender with
      | sch =>
        obtain ⟨rest, hq, rfl⟩ := hsender
        exact ⟨(running_next _ hr).trans (congrArg Host.Outcome.next (doAutoRaise_sch hq hf)), rfl, rfl⟩
      | slg =>
        obtain ⟨rest, hq, rfl⟩ := hsender
        exact ⟨(running_next _ hr).trans (congrArg Host.Outcome.next (doAutoRaise_slg hq hf)), rfl, rfl⟩
    obtain ⟨hex, hntc, htaken⟩ := hex
    have htold (t : State) (ht : t.taken = s.taken) (e : Option (Fin 24)) : reportRaise r e t = told t e := by
      rw [reportRaise_eq]
      show _ = ({ t with links := _ } : State)
      unfold mail
      rw [ht]
    refine ⟨fun e he hfree hlow => ?_, fun hfull => hex.trans (congrArg Host.Outcome.next ?_)⟩
    · intro t
      refine hex.trans (congrArg Host.Outcome.next ?_)
      have ht : addEntry e (autoNotice r) s' = t := by
        unfold addEntry
        rw [hntc]
        rfl
      rw [takeAutoRaise_free (e := e), ht, htold]
      · exact htaken
      · rw [hntc]
        exact freeAuto_eq he hfree hlow
    · rw [takeAutoRaise_full, htold]
      · exact htaken
      · rw [hntc]
        exact freeAuto_none hfull
  · refine (running_next _ hr).trans (congrArg Host.Outcome.next ?_)
    rw [doRaiseReport_eq hq hf, takeRaiseReport_eq]
    rfl
  · refine (running_next _ hr).trans (congrArg Host.Outcome.next ?_)
    rw [doAutoFreeReport_eq hq hf, takeAutoFree_eq]
    rfl
  · refine (running_next _ hr).trans (congrArg Host.Outcome.next ?_)
    rw [doFilterLoadReport_eq hq, evalRoster_eq]
    rfl

end Sys2Proof.Machine
end

section
/-! PROOFS. Retirement: WITHDRAW, SALE_END and NOTICE_EXPIRY (R71, R80, R81, R91 to R96). -/

namespace Sys2Proof.Machine

/-! ## One panel (R91 to R94) -/

section Panel

variable {x : NtcPanel} {e f : Fin 24}

/-- A panel's notice state with an entry retired from it. -/
def NtcPanel.retired (x : NtcPanel) (e : Fin 24) : NtcPanel := if x.view = some e then x.popped else x.spliced e

theorem holds_iff : Holds e x ↔ 0 < places e x := by
  rw [places, List.count_pos_iff, List.mem_append]
  refine or_congr Iff.rfl ?_
  simp [List.mem_filterMap]

/-- A retirement puts no entry anywhere. -/
theorem places_retired_le : places f (x.retired e) ≤ places f x := by
  unfold NtcPanel.retired
  split
  · rename_i hv
    cases hs : x.stack with
    | nil =>
      have hold : shownViews x = [some e] := by simp [shownViews, hv, hs]
      have hnew : shownViews x.popped = [none] := by simp [popped_nil hs, shownViews, hs]
      have hw : x.popped.waiting = x.waiting := by rw [popped_nil hs]
      rw [places_eq, places_eq, hold, hnew, hw]
      exact Nat.add_le_add_left (Nat.zero_le _) _
    | cons y rest =>
      rw [places_popped hv hs]
      exact Nat.le_add_right _ _
  · rename_i hv
    rw [places_spliced hv]
    split
    · exact Nat.zero_le _
    · exact Nat.le_refl _

/-- An entry that the panel holds once is held no more. -/
theorem places_retired_self (h : places e x ≤ 1) : places e (x.retired e) = 0 := by
  unfold NtcPanel.retired
  split
  · rename_i hv
    cases hs : x.stack with
    | nil =>
      have hold : shownViews x = [some e] := by simp [shownViews, hv, hs]
      have hnew : shownViews x.popped = [none] := by simp [popped_nil hs, shownViews, hs]
      have hw : x.popped.waiting = x.waiting := by rw [popped_nil hs]
      rw [places_eq, hold] at h
      rw [places_eq, hnew, hw]
      simp only [shownCount_some, shownCount_none, shownCount_nil, if_true] at h ⊢
      omega
    | cons y rest =>
      rw [places_popped hv hs, if_pos rfl] at h
      omega
  · rename_i hv
    rw [places_spliced hv, if_pos rfl]

end Panel

/-! ## All the panels of an entry -/

section Entry

variable {s : State} {e : Fin 24} {n : Notice}

/-- The machine while an entry is being retired: its notice, the panels and the view changes sent. -/
def State.retiring (s : State) (e : Fin 24) (n : Notice) (panels : Tab 8 NtcPanel) (changes : List (Mail ToCmp)) : State :=
  { s with
    ntc := { s.ntc with entries := s.ntc.entries.set e (some n), panels := panels }
    links := { s.links with ntcCmp := s.links.ntcCmp ++ changes } }

theorem retiring_start (h : s.ntc.entries.get e = some n) : s.retiring e n s.ntc.panels [] = s := by
  unfold State.retiring
  rw [← h, Tab.set_get, List.append_nil]

theorem retireFrom_retiring (m : Notice) (P : Tab 8 NtcPanel) (C : List (Mail ToCmp)) (p : Fin 8) :
    ∃ D, retireFrom e p (s.retiring e m P C)
      = s.retiring e { m with panels := dropPanel m.panels p } (P.set p ((P.get p).retired e)) (C ++ D) := by
  have hentry : (s.retiring e m P C).ntc.entries.get e = some m := Tab.get_set_same ..
  have hleave : leavePanel e p (s.retiring e m P C) = s.retiring e { m with panels := dropPanel m.panels p } P C := by
    unfold leavePanel
    rw [hentry]
    unfold State.retiring setEntry
    simp only [State.withNtc, Tab.set_set]
  rw [retireFrom_eq, hleave]
  refine ⟨(if (ntcPanel (s.retiring e m P C) p).view = some e then
    [ToCmp.view (popChange (s.retiring e { m with panels := dropPanel m.panels p } P C) p)] else []).map (mail .ntc s), ?_⟩
  unfold State.paneled State.retiring
  rw [List.append_assoc]
  rfl

/-- The panels of a list with an entry retired from them. -/
theorem foldl_retireFrom (l : List (Fin 8)) (hl : l.Nodup) (m : Notice) (P : Tab 8 NtcPanel) (C : List (Mail ToCmp)) :
    ∃ k D, k.origin = m.origin ∧ l.foldl (fun u p => retireFrom e p u) (s.retiring e m P C)
      = s.retiring e k (Tab.make 8 fun p => if p ∈ l then (P.get p).retired e else P.get p) (C ++ D) := by
  induction l generalizing m P C with
  | nil =>
    refine ⟨m, [], rfl, ?_⟩
    have hP : (Tab.make 8 fun p => P.get p) = P := Tab.ext_get fun p => Tab.get_make ..
    simp only [List.foldl_nil, List.not_mem_nil, if_false, hP, List.append_nil]
  | cons q l ih =>
    obtain ⟨hq, hl⟩ := List.nodup_cons.1 hl
    obtain ⟨D, hD⟩ := retireFrom_retiring (s := s) m P C q
    obtain ⟨k, D', hk, hD'⟩ := ih hl { m with panels := dropPanel m.panels q } (P.set q ((P.get q).retired e)) (C ++ D)
    refine ⟨k, D ++ D', hk, ?_⟩
    rw [List.foldl_cons, hD, hD', List.append_assoc]
    congr 1
    refine Tab.ext_get fun p => ?_
    rw [Tab.get_make, Tab.get_make, Tab.get_set]
    by_cases hp : p = q
    · subst hp
      simp [hq]
    · simp [hp, Ne.symm hp]

/-- An entry becomes FREE (R71, R80, R91). -/
theorem freeNotice_eq (h : s.ntc.entries.get e = some n) : freeNotice e s = { s with
    ntc := { s.ntc with entries := s.ntc.entries.set e none, sequence := s.ntc.sequence.filter fun f => f != e }
    links := { s.links with
      ntcBlc := s.links.ntcBlc ++ [e]
      ntcSch := s.links.ntcSch ++ (n.origin.map fun slot => mail .ntc s (.autoFree e slot)).toList } } := by
  unfold freeNotice
  rw [h]
  dsimp only
  cases n.origin with
  | none =>
    rw [Option.map_none, Option.toList_none, List.append_nil]
    rfl
  | some slot => rfl

/-- A LIVE entry retired: the panels of its set hold it no more, the others stay. -/
theorem retireAll_eq (h : s.ntc.entries.get e = some n) :
    ∃ D, retireAll e s = s.retired [e] (Tab.make 8 fun p =>
      if n.panels.getLsbD p.val = true then (ntcPanel s p).retired e else ntcPanel s p) D := by
  have hset : entryPanels s e = n.panels := by
    unfold entryPanels
    rw [h]
  obtain ⟨k, D, hk, hD⟩ := foldl_retireFrom (s := s) (e := e) (panelsOf n.panels) (panelsOf_nodup _) n s.ntc.panels []
  rw [retiring_start h] at hD
  refine ⟨[] ++ D, ?_⟩
  unfold retireAll
  rw [hset, hD, freeNotice_eq (n := k) (Tab.get_set_same ..), hk]
  simp only [mem_panelsOf]
  have hentries : s.ntc.entries.set e none = Tab.make 24 fun f => if f ∈ [e] then none else s.ntc.entries.get f := by
    refine Tab.ext_get fun f => ?_
    rw [Tab.get_set, Tab.get_make]
    simp only [List.mem_singleton, eq_comm]
  have hseq : (s.ntc.sequence.filter fun f => f != e) = s.ntc.sequence.filter fun f => decide (f ∉ [e]) := by
    refine List.filter_congr fun f _ => ?_
    simp [bne, Bool.beq_eq_decide_eq]
  have hsch : (n.origin.map fun slot => mail .ntc s (ToSch.autoFree e slot)).toList = [e].filterMap fun e =>
      ((s.ntc.entries.get e).bind fun n => n.origin).map fun slot => mail .ntc s (.autoFree e slot) := by
    rw [List.filterMap_cons, h, Option.bind_some, List.filterMap_nil]
    cases n.origin <;> rfl
  unfold State.retired
  rw [← hentries, ← hseq, ← hsch]
  unfold State.retiring
  simp only [Tab.set_set]
  rfl

end Entry

/-! ## Several entries, one after the other (R95, R96) -/

section Several

variable {s : State}

/-- Retirements one after the other are one retirement of all. -/
theorem retired_retired {a : Fin 24} {l : List (Fin 24)} (ha : a ∉ l) (P Q : Tab 8 NtcPanel) (C D : List (Mail ToCmp)) :
    (s.retired [a] P C).retired l Q D = s.retired (a :: l) Q (C ++ D) := by
  have hentries : (Tab.make 24 fun e => if e ∈ l then none else (s.retired [a] P C).ntc.entries.get e)
      = Tab.make 24 fun e => if e ∈ a :: l then none else s.ntc.entries.get e := by
    refine Tab.ext_get fun e => ?_
    have hget : (s.retired [a] P C).ntc.entries.get e = if e ∈ [a] then none else s.ntc.entries.get e := Tab.get_make ..
    rw [Tab.get_make, Tab.get_make, hget]
    by_cases hel : e ∈ l
    · rw [if_pos hel, if_pos (List.mem_cons_of_mem _ hel)]
    · rw [if_neg hel]
      simp [hel]
  have hseq : ((s.retired [a] P C).ntc.sequence.filter fun e => decide (e ∉ l)) = s.ntc.sequence.filter fun e => decide (e ∉ a :: l) := by
    show ((s.ntc.sequence.filter fun e => decide (e ∉ [a])).filter fun e => decide (e ∉ l)) = _
    rw [List.filter_filter]
    refine List.filter_congr fun e _ => ?_
    simp [not_or, Bool.and_comm]
  have hsch : (l.filterMap fun e => (((s.retired [a] P C).ntc.entries.get e).bind fun n => n.origin).map fun slot =>
        mail .ntc (s.retired [a] P C) (ToSch.autoFree e slot))
      = l.filterMap fun e => ((s.ntc.entries.get e).bind fun n => n.origin).map fun slot => mail .ntc s (.autoFree e slot) := by
    refine List.filterMap_congr fun e he => ?_
    have hget : (s.retired [a] P C).ntc.entries.get e = if e ∈ [a] then none else s.ntc.entries.get e := Tab.get_make ..
    have hne : e ∉ [a] := fun h => ha (List.mem_singleton.1 h ▸ he)
    rw [hget, if_neg hne]
    rfl
  have hcons : ((a :: l).filterMap fun e => ((s.ntc.entries.get e).bind fun n => n.origin).map fun slot => mail .ntc s (ToSch.autoFree e slot))
      = ([a].filterMap fun e => ((s.ntc.entries.get e).bind fun n => n.origin).map fun slot => mail .ntc s (ToSch.autoFree e slot))
        ++ l.filterMap fun e => ((s.ntc.entries.get e).bind fun n => n.origin).map fun slot => mail .ntc s (.autoFree e slot) := by
    rw [← List.filterMap_append]
    rfl
  unfold State.retired at hentries hseq hsch ⊢
  dsimp only at hentries hseq hsch ⊢
  rw [hentries, hseq, hsch, hcons]
  simp only [List.append_assoc, List.cons_append, List.nil_append]

/-- What the retirement of some LIVE entries leaves of a panel: no entry in more places than before, an entry of the panel that was held
once held no more, and the panel as before where none of the entries has it in its set. -/
def RetiredPanels (s : State) (l : List (Fin 24)) (P : Tab 8 NtcPanel) : Prop :=
  ∀ p, (∀ f, places f (P.get p) ≤ places f (ntcPanel s p))
    ∧ (∀ e ∈ l, wants s.ntc p e = true → places e (ntcPanel s p) ≤ 1 → places e (P.get p) = 0)
    ∧ ((∀ e ∈ l, wants s.ntc p e = false) → P.get p = ntcPanel s p)

theorem foldl_retireAll (l : List (Fin 24)) (hl : l.Nodup) (hlive : ∀ e ∈ l, (s.ntc.entries.get e).isSome = true) :
    ∃ P D, l.foldl (fun u e => retireAll e u) s = s.retired l P D ∧ RetiredPanels s l P := by
  induction l generalizing s with
  | nil =>
    refine ⟨s.ntc.panels, [], ?_, fun p => ⟨fun _ => Nat.le_refl _, by simp, fun _ => rfl⟩⟩
    have hentries : (Tab.make 24 fun e => s.ntc.entries.get e) = s.ntc.entries := Tab.ext_get fun e => Tab.get_make ..
    unfold State.retired
    simp [hentries]
  | cons a l ih =>
    obtain ⟨ha, hl⟩ := List.nodup_cons.1 hl
    obtain ⟨n, hn⟩ := Option.isSome_iff_exists.1 (hlive a List.mem_cons_self)
    obtain ⟨C, hC⟩ := retireAll_eq hn
    generalize hP : (Tab.make 8 fun p => if n.panels.getLsbD p.val = true then (ntcPanel s p).retired a else ntcPanel s p) = P at hC
    have hget (e : Fin 24) (he : e ∈ l) : (s.retired [a] P C).ntc.entries.get e = s.ntc.entries.get e := by
      have hget : (s.retired [a] P C).ntc.entries.get e = if e ∈ [a] then none else s.ntc.entries.get e := Tab.get_make ..
      have hne : e ∉ [a] := fun h => ha (List.mem_singleton.1 h ▸ he)
      rw [hget, if_neg hne]
    obtain ⟨Q, D, hD, hQ⟩ := ih (s := s.retired [a] P C) hl fun e he => by
      rw [hget e he]
      exact hlive e (List.mem_cons_of_mem _ he)
    refine ⟨Q, C ++ D, ?_, fun p => ?_⟩
    · rw [List.foldl_cons, hC, hD, retired_retired ha]
    · obtain ⟨hle, hself, hsame⟩ := hQ p
      have hpanel : ntcPanel (s.retired [a] P C) p = if n.panels.getLsbD p.val = true then (ntcPanel s p).retired a else ntcPanel s p := by
        show P.get p = _
        rw [← hP, Tab.get_make]
      have hwa : wants s.ntc p a = n.panels.getLsbD p.val := by
        unfold wants
        rw [hn]
        rfl
      have hwl (e : Fin 24) (he : e ∈ l) : wants (s.retired [a] P C).ntc p e = wants s.ntc p e := by
        unfold wants
        rw [hget e he]
      have hfirst (f : Fin 24) : places f (ntcPanel (s.retired [a] P C) p) ≤ places f (ntcPanel s p) := by
        rw [hpanel]
        split
        · exact places_retired_le
        · exact Nat.le_refl _
      refine ⟨fun f => (hle f).trans (hfirst f), fun e he hw honce => ?_, fun hnone => ?_⟩
      · rcases List.mem_cons.1 he with rfl | he
        · have hzero : places e (ntcPanel (s.retired [e] P C) p) = 0 := by
            rw [hpanel, if_pos (hwa ▸ hw)]
            exact places_retired_self honce
          exact Nat.le_zero.1 (hzero ▸ hle e)
        · exact hself e he (by rw [hwl e he, hw]) ((hfirst e).trans honce)
      · rw [hsame fun e he => by rw [hwl e he, hnone e (List.mem_cons_of_mem _ he)], hpanel, if_neg]
        rw [← hwa, hnone a List.mem_cons_self]
        exact Bool.false_ne_true

/-- What `Obligations.EntriesAreRetired` says of a retirement of some entries, `t` being the machine in which it begins. -/
theorem retireEach_gone {t : State} {l : List (Fin 24)} (hl : l.Nodup) (hpanels : t.ntc.panels = s.ntc.panels)
    (hwants : ∀ p e, wants t.ntc p e = wants s.ntc p e) (hlive : ∀ e ∈ l, (t.ntc.entries.get e).isSome = true) :
    let u := l.foldl (fun u e => retireAll e u) t
    let panels := u.ntc.panels
    retireEach l t = evalSet (l.foldl (fun m e => m ||| entryPanels s e) 0#8) u
      ∧ u = t.retired l panels (u.links.ntcCmp.drop t.links.ntcCmp.length)
      ∧ (∀ e ∈ l, ∀ p, (entryPanels s e).getLsbD p.val = true → HeldOnce e (s.ntc.panels.get p) → ¬ Holds e (panels.get p))
      ∧ ∀ p, (∀ e ∈ l, (entryPanels s e).getLsbD p.val = false) → panels.get p = s.ntc.panels.get p := by
  obtain ⟨P, D, hD, hP⟩ := foldl_retireAll l hl hlive
  have hsets (e : Fin 24) : entryPanels t e = entryPanels s e := by
    refine BitVec.eq_of_getLsbD_eq fun i hi => ?_
    have ht := entryPanels_eq (s := t) (e := e) ⟨i, hi⟩
    have hs := entryPanels_eq (s := s) (e := e) ⟨i, hi⟩
    exact ht.trans ((hwants ⟨i, hi⟩ e).trans hs.symm)
  have hpanel (p : Fin 8) : ntcPanel t p = s.ntc.panels.get p := by rw [ntcPanel, hpanels]
  intro u panels
  have hu : u = t.retired l P D := hD
  have hpan : panels = P := congrArg (fun x => x.ntc.panels) hu
  refine ⟨?_, ?_, fun e he p hw honce hholds => ?_, fun p hnone => ?_⟩
  · unfold retireEach
    simp only [hsets]
    rfl
  · have hdrop : u.links.ntcCmp.drop t.links.ntcCmp.length = D := by
      rw [hu]
      exact List.drop_left
    rw [hdrop, hpan]
    exact hu
  · have hzero := (hP p).2.1 e he (by rw [hwants, ← entryPanels_eq]; exact hw) (by rw [hpanel]; exact honce)
    rw [holds_iff, hpan, hzero] at hholds
    exact Nat.lt_irrefl 0 hholds
  · rw [hpan, (hP p).2.2 fun e he => by rw [hwants, ← entryPanels_eq]; exact hnone e he, hpanel]

end Several

/-! ## One entry, and one panel -/

section One

variable {s : State} {e : Fin 24} {n : Notice} {p : Fin 8}

/-- The entry retired is LIVE to the end, with its origin. -/
theorem foldl_retireFrom_origin (h : s.ntc.entries.get e = some n) (l : List (Fin 8)) :
    ∃ k, k.origin = n.origin ∧ (l.foldl (fun u p => retireFrom e p u) s).ntc.entries.get e = some k := by
  refine foldl_preserves (I := fun u => ∃ k : Notice, k.origin = n.origin ∧ u.ntc.entries.get e = some k) l (fun p _ u hu => ?_) ⟨n, rfl, h⟩
  obtain ⟨k, hk, hu⟩ := hu
  refine ⟨{ k with panels := dropPanel k.panels p }, hk, ?_⟩
  rw [retireFrom_entries, Tab.get_set_same, hu]
  rfl

theorem leavePanel_eq (h : s.ntc.entries.get e = some n) :
    leavePanel e p s = setEntry e (some { n with panels := dropPanel n.panels p }) s := by
  unfold leavePanel
  rw [h]

/-- The view change to a view, field by field (R75). -/
theorem viewChange_spec (t : State) (v : View) (k : Tab 8 Nat) : ∃ cls layout,
    viewChange t p v k = ⟨p, v.filter fun f => (t.ntc.entries.get f).isSome, cls, layout, k⟩
      ∧ (∀ f m, v = some f → t.ntc.entries.get f = some m → cls = some m.cls ∧ layout = some ((ntcPanel t p).map.get m.cls))
      ∧ (v = none → cls = none ∧ layout = none) := by
  cases v with
  | none =>
    refine ⟨none, none, rfl, fun f m h => ?_, fun _ => ⟨rfl, rfl⟩⟩
    cases h
  | some f =>
    cases hf : t.ntc.entries.get f with
    | none =>
      refine ⟨none, none, ?_, fun g m hg hm => ?_, fun h => absurd h (by simp)⟩
      · unfold viewChange
        dsimp only
        rw [hf]
        simp [Option.filter_some, hf]
      · cases hg
        rw [hf] at hm
        cases hm
    | some m =>
      refine ⟨some m.cls, some ((ntcPanel t p).map.get m.cls), ?_, fun g k hg hk => ?_, fun h => absurd h (by simp)⟩
      · unfold viewChange
        dsimp only
        rw [hf]
        simp [Option.filter_some, hf, mapLayout]
      · cases hg
        rw [hf] at hk
        cases hk
        exact ⟨rfl, rfl⟩

/-- The current view retired: the top context is popped (R92). -/
theorem retireFrom_current (h : s.ntc.entries.get e = some n) {c : Context} {rest : List Context}
    (hv : (ntcPanel s p).view = some e) (hst : (ntcPanel s p).stack = c :: rest) (hc : c.view ≠ some e) :
    ∃ cls layout, retireFrom e p s = { s with
        ntc := { s.ntc with
          entries := s.ntc.entries.set e (some { n with panels := dropPanel n.panels p })
          panels := s.ntc.panels.set p { ntcPanel s p with view := c.view, stack := rest } }
        links := { s.links with ntcCmp := s.links.ntcCmp ++ [mail .ntc s (.view ⟨p, c.view.filter fun f => (s.ntc.entries.get f).isSome,
          cls, layout, if c.layout = layoutNow s p c.view then c.cursors else Tab.fill 8 0⟩)] } }
      ∧ (∀ f m, c.view = some f → s.ntc.entries.get f = some m → cls = some m.cls ∧ layout = some ((ntcPanel s p).map.get m.cls))
      ∧ (c.view = none → cls = none ∧ layout = none) := by
  have hother (f : Fin 24) (hf : c.view = some f) : (leavePanel e p s).ntc.entries.get f = s.ntc.entries.get f := by
    rw [leavePanel_eq h]
    exact Tab.get_set_ne _ _ fun he => hc (by rw [hf, he])
  have hpanel : ntcPanel (leavePanel e p s) p = ntcPanel s p := by rw [ntcPanel, leavePanel_frame.1, ntcPanel]
  have hlayout : layoutNow (leavePanel e p s) p c.view = layoutNow s p c.view := by
    have hcmp : cmpPanel (leavePanel e p s) p = cmpPanel s p := by
      rw [leavePanel_eq h]
      rfl
    unfold layoutNow
    cases hcv : c.view with
    | none => rw [hcmp]
    | some f =>
      dsimp only
      rw [hother f hcv, hpanel, hcmp]
  have hpop : popChange (leavePanel e p s) p
      = viewChange (leavePanel e p s) p c.view (if c.layout = layoutNow s p c.view then c.cursors else Tab.fill 8 0) := by
    rw [popChange_cons (c := c) (rest := rest) (by rw [hpanel, hst]), hlayout]
  obtain ⟨cls, layout, hchange, hsome, hnone⟩ := viewChange_spec (p := p) (leavePanel e p s) c.view
    (if c.layout = layoutNow s p c.view then c.cursors else Tab.fill 8 0)
  have hview : (c.view.filter fun f => ((leavePanel e p s).ntc.entries.get f).isSome)
      = c.view.filter fun f => (s.ntc.entries.get f).isSome := by
    cases hcv : c.view with
    | none => rfl
    | some f => rw [Option.filter_some, Option.filter_some, hother f hcv]
  refine ⟨cls, layout, ?_, fun f m hf hm => ?_, hnone⟩
  · rw [retireFrom_eq, if_pos hv, if_pos hv, popped_cons hst, hpop, hchange, hview, leavePanel_eq h]
    rfl
  · have := hsome f m hf (by rw [hother f hf]; exact hm)
    rwa [hpanel] at this

/-- A stacked view spliced out, or a pending entry out of the list, with no view change (R93, R94). -/
theorem retireFrom_other (h : s.ntc.entries.get e = some n) (hv : (ntcPanel s p).view ≠ some e) : retireFrom e p s
    = { s with ntc := { s.ntc with
      entries := s.ntc.entries.set e (some { n with panels := dropPanel n.panels p })
      panels := s.ntc.panels.set p ((ntcPanel s p).spliced e) } } := by
  rw [retireFrom_eq, if_neg hv, if_neg hv, paneled_nil, leavePanel_eq h]
  rfl

end One

theorem fins_filter_nodup {n : Nat} (p : Fin n → Bool) : ((fins n).filter p).Nodup := (List.nodup_finRange n).filter _

/-- Settles O33: `retireEach_gone` for the three commands, and then one entry and one panel. -/
theorem entriesAreRetired : Obligations.EntriesAreRetired := by
  unfold Obligations.EntriesAreRetired
  refine ⟨?_, fun e n s h => ?_, fun e p n s h => ?_, fun p s => ⟨rfl, fun e n h => ?_⟩⟩
  · intro gone
    refine ⟨fun k clock rest s hdel => ?_, fun ep slot rest s hr hq hf => ?_, fun s hr hpulse => ?_⟩
    · have hex {u : State} (hu : takeWithdraw k (s.withFifo rest) = u) : exec .withdraw s = .next u :=
        deliver_leaves (act := fun _ => takeWithdraw k) hdel rfl hu
      refine ⟨fun hk => hex ?_, fun e he => ⟨fun hnone => hex ?_, fun hsome => ?_⟩⟩
      · unfold takeWithdraw
        rw [asFin_eq_none hk]
      · have hnone' : ((s.withFifo rest).ntc.entries.get e).isSome = false := by
          show (s.ntc.entries.get e).isSome = false
          rw [hnone]
          rfl
        unfold takeWithdraw
        rw [← he, asFin_val]
        dsimp only
        rw [hnone']
        rfl
      · have hlive : ((s.withFifo rest).ntc.entries.get e).isSome = true := Option.isSome_iff_ne_none.2 hsome
        obtain ⟨heq, hrest⟩ := retireEach_gone (s := s) (t := s.withFifo rest) (l := [e]) (List.nodup_singleton e) rfl (fun _ _ => rfl)
          (by simpa using hlive)
        refine ⟨hex (Eq.trans ?_ heq), hrest⟩
        unfold takeWithdraw
        rw [← he, asFin_val]
        exact if_pos hlive
    · have hlinked : linkedEntries s.ntc slot = (fins 24).filter fun e => (s.ntc.entries.get e).any fun n => n.linked == some slot := by
        unfold linkedEntries
        refine List.filter_congr fun e _ => ?_
        cases s.ntc.entries.get e <;> rfl
      obtain ⟨heq, hrest⟩ := retireEach_gone (s := s) (t := { s with links := { s.links with schNtc := rest } })
        (l := (fins 24).filter fun e => (s.ntc.entries.get e).any fun n => n.linked == some slot) (fins_filter_nodup _) rfl (fun _ _ => rfl)
        (fun e he => by
          have hany := (List.mem_filter.1 he).2
          cases hn : s.ntc.entries.get e with
          | none =>
            rw [hn] at hany
            cases hany
          | some n => rfl)
      refine ⟨(running_next _ hr).trans (congrArg Host.Outcome.next (Eq.trans ?_ heq)), hrest⟩
      unfold doSaleEnd
      rw [hq]
      refine (if_pos (decide_eq_true hf)).trans ?_
      exact congrArg (fun l => retireEach l _) hlinked
    · have hexp : expiring s.ntc = (fins 24).filter fun e => (s.ntc.entries.get e).any fun n => n.lifetime == 1 := by
        unfold expiring
        refine List.filter_congr fun e _ => ?_
        cases s.ntc.entries.get e <;> rfl
      generalize ht : ({ s with
          ntc := { s.ntc with entries := s.ntc.entries.map fun o => o.map fun n => { n with lifetime := n.lifetime - 1 } }
          links := { s.links with pulseNtc := s.links.pulseNtc - 1 } } : State) = t
      have hget (e : Fin 24) : t.ntc.entries.get e = (s.ntc.entries.get e).map fun n => { n with lifetime := n.lifetime - 1 } := by
        rw [← ht]
        exact Tab.get_map ..
      obtain ⟨heq, hrest⟩ := retireEach_gone (s := s) (t := t)
        (l := (fins 24).filter fun e => (s.ntc.entries.get e).any fun n => n.lifetime == 1) (fins_filter_nodup _) (by rw [← ht])
        (fun p e => by
          unfold wants
          rw [hget]
          cases s.ntc.entries.get e <;> rfl)
        (fun e he => by
          have hany := (List.mem_filter.1 he).2
          rw [hget]
          cases hn : s.ntc.entries.get e with
          | none =>
            rw [hn] at hany
            cases hany
          | some n => rfl)
      refine ⟨(running_next _ hr).trans (congrArg Host.Outcome.next (Eq.trans ?_ heq)), hrest⟩
      refine (if_pos hpulse).trans ?_
      rw [← ht, ← hexp]
      rfl
  · intro u
    obtain ⟨k, hk, hu⟩ := foldl_retireFrom_origin h (panelsOf n.panels)
    have hset : entryPanels s e = n.panels := by
      unfold entryPanels
      rw [h]
    refine ⟨rfl, ?_⟩
    unfold retireAll
    rw [hset, freeNotice_eq hu, hk]
    have hseq : (u.ntc.sequence.filter fun f => f != e) = u.ntc.sequence.filter fun f => decide (f ≠ e) := by
      refine List.filter_congr fun f _ => ?_
      simp [bne, Bool.beq_eq_decide_eq]
    rw [← hseq]
  · intro x entries
    refine ⟨fun c rest hv hst hc => retireFrom_current h hv hst hc, fun hv => ?_⟩
    have hstack : (x.stack.filter fun c => decide (c.view ≠ some e)) = x.stack.filter fun c => c.view != some e := by
      refine List.filter_congr fun c _ => ?_
      simp [bne, Bool.beq_eq_decide_eq]
    have hwaiting : (x.waiting.filter fun w => decide (w.entry ≠ e)) = dropWaiting e x.waiting := by
      refine List.filter_congr fun w _ => ?_
      simp [bne, Bool.beq_eq_decide_eq]
    rw [hstack, hwaiting]
    exact retireFrom_other h hv
  · unfold layoutNow
    dsimp only
    rw [h]
    rfl

end Sys2Proof.Machine
end

section
/-! PROOFS. Takes (R73, R87 to R90): the order of a pending list, the class that a take raises, and the end of the takes of a panel. -/

namespace Sys2Proof.Machine

/-! ## The order of a pending list (R73) -/

theorem pendsBefore_iff (c : Ntc) (e f : Fin 24) : pendsBefore c e f = true
    ↔ classOf c e < classOf c f ∨ (classOf c e = classOf c f ∧ c.sequence.idxOf e < c.sequence.idxOf f) := by
  unfold pendsBefore sequencePlace
  rw [Bool.or_eq_true, Bool.and_eq_true, decide_eq_true_iff, decide_eq_true_iff, beq_iff_eq]

theorem pendsBefore_trans {c : Ntc} {e f g : Fin 24} (h : pendsBefore c e f = true) (k : pendsBefore c f g = true) :
    pendsBefore c e g = true := by
  rw [pendsBefore_iff] at *
  omega

theorem pendsBefore_asymm {c : Ntc} {e f : Fin 24} (h : pendsBefore c e f = true) : pendsBefore c f e = false := by
  rw [← Bool.not_eq_true]
  rw [pendsBefore_iff] at *
  omega

/-- One pending entry may stand ahead of another: a forced one, or one that the other does not rank before. -/
def Ahead (c : Ntc) (a b : Waiting) : Prop := a.forced = true ∨ (b.forced = false ∧ pendsBefore c b.entry a.entry = false)

theorem insertWaiting_ordered {c : Ntc} (e : Fin 24) {l : List Waiting} (h : l.Pairwise (Ahead c)) :
    (insertWaiting c e l).Pairwise (Ahead c) := by
  induction l with
  | nil => exact List.pairwise_singleton _ _
  | cons w l ih =>
    obtain ⟨hw, hl⟩ := List.pairwise_cons.1 h
    unfold insertWaiting
    by_cases hb : w.forced = false ∧ pendsBefore c e w.entry = true
    · obtain ⟨hunforced, hbefore⟩ := hb
      rw [if_pos ⟨hunforced, hbefore⟩]
      refine List.pairwise_cons.2 ⟨fun b hb => .inr ?_, h⟩
      rcases List.mem_cons.1 hb with rfl | hb
      · exact ⟨hunforced, pendsBefore_asymm hbefore⟩
      · rcases hw b hb with hforced | ⟨hb, hlater⟩
        · exact absurd hforced (by simp [hunforced])
        · refine ⟨hb, ?_⟩
          by_contra hearlier
          exact absurd (pendsBefore_trans (Bool.not_eq_false _ ▸ hearlier) hbefore) (by simp [hlater])
    · rw [if_neg hb]
      refine List.pairwise_cons.2 ⟨fun b hmem => ?_, ih hl⟩
      rcases List.mem_cons.1 ((insertWaiting_perm c e l).mem_iff.1 hmem) with rfl | hmem
      · by_cases hforced : w.forced = true
        · exact .inl hforced
        · exact .inr ⟨rfl, by simpa [hforced] using hb⟩
      · exact hw b hmem

theorem insertForced_ordered {c : Ntc} (e : Fin 24) {l : List Waiting} (h : l.Pairwise (Ahead c)) :
    (insertForced e l).Pairwise (Ahead c) := by
  induction l with
  | nil => exact List.pairwise_singleton _ _
  | cons w l ih =>
    obtain ⟨hw, hl⟩ := List.pairwise_cons.1 h
    unfold insertForced
    by_cases hforced : w.forced = true
    · rw [if_pos hforced]
      exact List.pairwise_cons.2 ⟨fun _ _ => .inl hforced, ih hl⟩
    · rw [if_neg hforced]
      exact List.pairwise_cons.2 ⟨fun _ _ => .inl rfl, h⟩

/-! ## Candidates (R88) -/

section Candidates

variable {c : Ntc} {x : NtcPanel} {e : Fin 24}

theorem classShown_iff (c : Ntc) (k : Nat) (x : NtcPanel) :
    classShown c k x = true ↔ ∃ f, some f ∈ shownViews x ∧ classOf c f = k := by
  unfold classShown
  rw [List.any_eq_true]
  constructor
  · rintro ⟨v, hv, hk⟩
    cases v with
    | none => cases hk
    | some f => exact ⟨f, hv, beq_iff_eq.1 hk⟩
  · rintro ⟨f, hf, hk⟩
    exact ⟨some f, hf, beq_iff_eq.2 hk⟩

theorem classShown_eq_false (c : Ntc) (k : Nat) (x : NtcPanel) :
    classShown c k x = false ↔ ∀ f, some f ∈ shownViews x → classOf c f ≠ k := by
  rw [← Bool.not_eq_true, classShown_iff]
  exact ⟨fun h f hf hk => h ⟨f, hf, hk⟩, fun h ⟨f, hf, hk⟩ => h f hf hk⟩

theorem outranks_iff (c : Ntc) (k : Nat) (x : NtcPanel) : outranks c k x = true ↔ ∀ f, x.view = some f → k < classOf c f := by
  unfold outranks
  cases x.view <;> simp

theorem gateOpen_iff (b : Bool) (x : NtcPanel) (k : Nat) : gateOpen b x k = true
    ↔ x.enableMask.getLsbD k = true ∧ if b then x.hold = false else x.closedMask.getLsbD k = true := by
  unfold gateOpen
  cases b <;> simp

theorem isCandidate_iff (c : Ntc) (x : NtcPanel) (e : Fin 24) : isCandidate c x e = true
    ↔ x.enableMask.getLsbD (classOf c e) = true ∧ (if c.lobbyOpen then x.hold = false else x.closedMask.getLsbD (classOf c e) = true)
      ∧ (∀ f, some f ∈ shownViews x → classOf c f ≠ classOf c e) ∧ ∀ f, x.view = some f → classOf c e < classOf c f := by
  unfold isCandidate
  rw [Bool.and_eq_true, Bool.and_eq_true, gateOpen_iff, Bool.not_eq_true', classShown_eq_false, outranks_iff, and_assoc, and_assoc]

theorem isCandidate_congr {d : Ntc} (he : d.entries = c.entries) (ho : d.lobbyOpen = c.lobbyOpen) (x : NtcPanel) (e : Fin 24) :
    isCandidate d x e = isCandidate c x e := by
  have hc (f : Fin 24) : classOf d f = classOf c f := by
    unfold classOf
    rw [he]
  rw [Bool.eq_iff_iff, isCandidate_iff, isCandidate_iff]
  simp only [hc, ho]

theorem firstCandidate_none : firstCandidate c x = none ↔ ∀ w ∈ x.waiting, isCandidate c x w.entry = false := by
  unfold firstCandidate
  rw [Option.map_eq_none_iff, List.find?_eq_none]
  exact ⟨fun h w hw => Bool.not_eq_true _ ▸ h w hw, fun h w hw => by rw [h w hw]; decide⟩

/-! ## The class that a take raises -/

/-- The class of the current view of a panel; 12, below every class, for BASE. -/
def viewClass (c : Ntc) (x : NtcPanel) : Nat :=
  match x.view with
  | none => 12
  | some f => classOf c f

theorem classOf_free (c : Ntc) (e : Fin 24) (h : c.entries.get e = none) : classOf c e = 12 := by
  unfold classOf
  rw [h]

theorem classOf_live (c : Ntc) (e : Fin 24) (n : Notice) (h : c.entries.get e = some n) : classOf c e = n.cls.val := by
  unfold classOf
  rw [h]

theorem classOf_le (c : Ntc) (e : Fin 24) : classOf c e ≤ 12 := by
  cases h : c.entries.get e with
  | none => exact (classOf_free c e h).le
  | some n => exact (classOf_live c e n h).trans_le n.cls.isLt.le

theorem viewClass_le (c : Ntc) (x : NtcPanel) : viewClass c x ≤ 12 := by
  unfold viewClass
  split
  · exact le_rfl
  · exact classOf_le ..

/-- A candidate is of a class above that of the current view. -/
theorem classOf_lt_viewClass (h : isCandidate c x e = true) : classOf c e < viewClass c x := by
  obtain ⟨henabled, -, -, hview⟩ := (isCandidate_iff c x e).1 h
  unfold viewClass
  split
  · exact BitVec.lt_of_getLsbD henabled
  · exact hview _ ‹_›

end Candidates

section Loop

variable {s : State} {p : Fin 8} {e : Fin 24}

theorem viewClass_takeEntry : viewClass (takeEntry e p s).ntc (ntcPanel (takeEntry e p s) p) = classOf s.ntc e := by
  rw [takeEntry_eq, ntcPanel_paneled]
  rfl

theorem viewClass_takeEntry_lt (h : firstCandidate s.ntc (ntcPanel s p) = some e) :
    viewClass (takeEntry e p s).ntc (ntcPanel (takeEntry e p s) p) < viewClass s.ntc (ntcPanel s p) := by
  obtain ⟨y, -, rfl, hc⟩ := firstCandidate_some h
  rw [viewClass_takeEntry]
  exact classOf_lt_viewClass hc

theorem takeLoop_some {n : Nat} (h : firstCandidate s.ntc (ntcPanel s p) = some e) :
    takeLoop (n + 1) p s = takeLoop n p (takeEntry e p s) := by
  rw [takeLoop, h]

theorem takeLoop_none {n : Nat} (h : firstCandidate s.ntc (ntcPanel s p) = none) : takeLoop n p s = s := by
  cases n with
  | zero => rfl
  | succ n => rw [takeLoop, h]

/-- Takes end with no candidate left once the fuel covers the classes above that of the view. -/
theorem takeLoop_settled {n : Nat} (h : viewClass s.ntc (ntcPanel s p) ≤ n) :
    firstCandidate (takeLoop n p s).ntc (ntcPanel (takeLoop n p s) p) = none := by
  induction n generalizing s with
  | zero =>
    cases hc : firstCandidate s.ntc (ntcPanel s p) with
    | none => exact hc
    | some e => exact absurd (viewClass_takeEntry_lt hc) (by omega)
  | succ n ih =>
    cases hc : firstCandidate s.ntc (ntcPanel s p) with
    | none => rwa [takeLoop_none hc]
    | some e =>
      rw [takeLoop_some hc]
      exact ih (Nat.le_of_lt_succ ((viewClass_takeEntry_lt hc).trans_le h))

/-- With that much fuel, more makes no difference. -/
theorem takeLoop_succ {n : Nat} (h : viewClass s.ntc (ntcPanel s p) ≤ n) : takeLoop (n + 1) p s = takeLoop n p s := by
  induction n generalizing s with
  | zero =>
    cases hc : firstCandidate s.ntc (ntcPanel s p) with
    | none => rw [takeLoop_none hc, takeLoop_none hc]
    | some e => exact absurd (viewClass_takeEntry_lt hc) (by omega)
  | succ n ih =>
    cases hc : firstCandidate s.ntc (ntcPanel s p) with
    | none => rw [takeLoop_none hc, takeLoop_none hc]
    | some e =>
      rw [takeLoop_some hc, takeLoop_some hc]
      exact ih (Nat.le_of_lt_succ ((viewClass_takeEntry_lt hc).trans_le h))

theorem evalTakes_live (h : (ntcPanel s p).live = true) : evalTakes p s = takeLoop takeFuel p s := if_pos h

theorem evalTakes_dead (h : (ntcPanel s p).live = false) : evalTakes p s = s := if_neg (by simp [h])

theorem evalTakes_settled (h : (ntcPanel s p).live = true) :
    ∀ w ∈ (ntcPanel (evalTakes p s) p).waiting, isCandidate (evalTakes p s).ntc (ntcPanel (evalTakes p s) p) w.entry = false := by
  rw [evalTakes_live h]
  exact firstCandidate_none.1 (takeLoop_settled ((viewClass_le _ _).trans (by decide)))

theorem took_live (x : NtcPanel) (c : Ntc) (k : Context) (e : Fin 24) : (x.took c k e).live = x.live := by
  unfold NtcPanel.took NtcPanel.saved
  dsimp only
  split
  · rfl
  · split <;> rfl

theorem takeEntry_live : (ntcPanel (takeEntry e p s) p).live = (ntcPanel s p).live := by
  rw [takeEntry_eq, ntcPanel_paneled, took_live]

/-- On a LIVE panel the first candidate is taken, and takes evaluated again. -/
theorem evalTakes_step (hlive : (ntcPanel s p).live = true) (h : firstCandidate s.ntc (ntcPanel s p) = some e) :
    evalTakes p s = evalTakes p (takeEntry e p s) := by
  have hless := viewClass_takeEntry_lt h
  have htop := viewClass_le s.ntc (ntcPanel s p)
  rw [evalTakes_live hlive, evalTakes_live (takeEntry_live.trans hlive), takeFuel, takeLoop_some h, ← takeLoop_succ (by omega)]

/-- Takes on a panel replace its notice state and send view changes. -/
theorem evalTakes_eq (p : Fin 8) (s : State) : ∃ x l, evalTakes p s = s.paneled p x l ∧ x.live = (ntcPanel s p).live :=
  evalTakes_paneled (P := fun x => x.live = (ntcPanel s p).live) (fun c x k e hx _ _ => (took_live x c k e).trans hx) s rfl

end Loop

/-! ## The layout and cursors that a take saves (R89, log 10) -/

/-- A fold that keeps the last value that its elements give. -/
theorem foldl_keep_last {α β : Type} (f : α → Option β) (l : List α) (r : Option β) :
    l.foldl (fun r a => (f a).or r) r = (l.filterMap f).getLast?.or r := by
  induction l generalizing r with
  | nil => rfl
  | cons a l ih =>
    rw [List.foldl_cons, ih, List.filterMap_cons]
    cases hf : f a with
    | none => rfl
    | some b => cases hl : (l.filterMap f).getLast? <;> simp [List.getLast?_cons, hl]

/-- The view change that a request on its way to the CMP is of a panel, if the CMP has taken no RESET since. -/
def changeOf (s : State) (p : Fin 8) (m : Mail ToCmp) : Option ViewChange :=
  match m.body with
  | .view v => if v.panel = p ∧ s.taken.get (blockIx .cmp) ≤ m.epoch then some v else none
  | .content _ => none

theorem changeInFlight_eq (s : State) (p : Fin 8) : changeInFlight s p = (s.links.ntcCmp.filterMap (changeOf s p)).getLast? := by
  rw [← Option.or_none (o := (s.links.ntcCmp.filterMap (changeOf s p)).getLast?), ← foldl_keep_last]
  unfold changeInFlight
  congr 1
  funext r m
  unfold changeOf isFresh
  cases m.body with
  | view v => simp only [decide_eq_true_iff]; split <;> rfl
  | content q => rfl

/-- Settles O35: a take by its equation; the takes of a panel by the class that each raises; the order by the insertions. -/
theorem takesAreEvaluated : Obligations.TakesAreEvaluated := by
  unfold Obligations.TakesAreEvaluated
  refine ⟨fun e n p s hn => ?_, ⟨fun p s => evalTakes_dead, fun p s hlive => ?_, fun p s hlive => ?_, fun m s => rfl, isCandidate_iff⟩,
    fun c e l => ?_, pendsBefore_iff, fun p s => ?_⟩
  · intro x left sent y
    have hchange : viewChange s p (some e) (Tab.fill 8 0) = ⟨p, some e, some n.cls, some (x.map.get n.cls), Tab.fill 8 0⟩ := by
      unfold viewChange
      dsimp only
      rw [hn]
      rfl
    have htake (z : NtcPanel) (hz : (x.took s.ntc (contextOf s p) e) = z) : takeEntry e p s
        = { s with ntc := { s.ntc with panels := s.ntc.panels.set p z }, links := sent } := by
      rw [takeEntry_eq, hchange]
      subst hz
      rfl
    refine ⟨fun hroom => htake _ ?_, fun hfull f hf => htake _ ?_⟩
    · exact congrArg (fun z : NtcPanel => { z with view := some e }) (if_pos hroom)
    · have hsaved : (x.unpended e).saved s.ntc (contextOf s p) = (x.unpended e).pended s.ntc f := by
        refine (if_neg (Nat.not_lt.2 hfull)).trans ?_
        have hv : (x.unpended e).view = some f := hf
        rw [hv]
      unfold NtcPanel.took
      rw [hsaved]
      rfl
  · intro t
    obtain ⟨y, l, ht, -⟩ := evalTakes_eq p s
    have ht : t = s.paneled p y l := ht
    refine ⟨evalTakes_settled hlive, fun q hq => ?_, ?_, ?_⟩
    · rw [ht, ntcPanel_paneled_ne (Ne.symm hq)]
    · rw [ht]
      rfl
    · rw [ht]
      exact List.prefix_append ..
  · intro first
    have hfirst : firstCandidate s.ntc (ntcPanel s p) = first.map fun w => w.entry := rfl
    refine ⟨fun hnone => ?_, fun w hw => ?_⟩
    · rw [evalTakes_live hlive, takeLoop_none (by rw [hfirst, hnone]; rfl)]
    · exact evalTakes_step hlive (by rw [hfirst, hw]; rfl)
  · intro ordered h
    exact ⟨insertWaiting_ordered e h, insertForced_ordered e h, insertWaiting_perm c e l, insertForced_perm e l⟩
  · intro c changes
    have hlast : changeInFlight s p = changes.getLast? := changeInFlight_eq s p
    unfold shownView
    rw [hlast]
    refine ⟨fun hnone => ?_, fun v hv => ?_⟩
    · rw [hnone]
      rfl
    · rw [hv]
      rfl

end Sys2Proof.Machine
end

section
/-! PROOFS. FORCE and the lobby mode (R82 to R84), and a panel that leaves or returns (R97). -/

namespace Sys2Proof.Machine

section Force

variable {s : State} {k panel : Nat}

theorem takeForce_refused (h : 24 ≤ k ∨ 8 ≤ panel) : takeForce k panel s = refuse .ntc 11 .badField k s := by
  unfold takeForce
  rcases h with h | h
  · rw [asFin_eq_none h]
  · rw [asFin_eq_none h]
    cases asFin 24 k <;> rfl

theorem takeForce_free {e : Fin 24} {p : Fin 8} (h : s.ntc.entries.get e = none) :
    takeForce e.val p.val s = refuse .ntc 11 .badField e.val s := by
  unfold takeForce
  rw [asFin_val, asFin_val]
  dsimp only
  rw [h]

theorem takeForce_live {e : Fin 24} {p : Fin 8} {n : Notice} (h : s.ntc.entries.get e = some n) : takeForce e.val p.val s
    = if classShown s.ntc n.cls.val (ntcPanel s p) = true then refuse .ntc 11 .classShown e.val s else applyForce e n p s := by
  unfold takeForce
  rw [asFin_val, asFin_val]
  dsimp only
  rw [h]

end Force

theorem classShown_iff_view (c : Ntc) (k : Nat) (x : NtcPanel) : classShown c k x = true
    ↔ ∃ f : Fin 24, (x.view = some f ∨ ∃ d ∈ x.stack, d.view = some f) ∧ classOf c f = k := by
  rw [classShown_iff]
  refine exists_congr fun f => and_congr_left' ?_
  unfold shownViews
  rw [List.mem_cons, List.mem_map, eq_comm]

/-- Settles O34: FORCE and LOBBY by the equations of what the NTC does with them. -/
theorem forceAndLobbyMode : Obligations.ForceAndLobbyMode := by
  unfold Obligations.ForceAndLobbyMode
  refine ⟨fun k panel clock rest s hdel => ?_, insertForced_eq, classShown_iff_view, fun c e => ⟨classOf_free c e, classOf_live c e⟩,
    fun mode clock rest s hdel => ?_⟩
  · intro s'
    have hex {u : State} (hu : takeForce k panel s' = u) : exec .force s = .next u :=
      deliver_leaves (act := fun _ => takeForce k panel) hdel rfl hu
    refine ⟨fun hbad => hex (takeForce_refused hbad), fun e p he hp => ?_⟩
    subst he hp
    refine ⟨fun hfree => hex (takeForce_free hfree), fun n hn => ?_⟩
    intro x t
    have hforce := (takeForce_live (p := p) (s := s') hn)
    refine ⟨fun hshown => hex (hforce.trans (if_pos hshown)), fun hshown hlive => hex ?_, fun hshown hlive => hex ?_⟩
    · refine hforce.trans ((if_neg (Bool.eq_false_iff.1 hshown)).trans ?_)
      exact if_pos hlive
    · refine hforce.trans ((if_neg (Bool.eq_false_iff.1 hshown)).trans ?_)
      refine (if_neg (Bool.eq_false_iff.1 hlive)).trans ?_
      rw [setNtcPanel_eq, paneled_nil]
      rfl
  · intro s'
    refine ⟨fun hmode => ?_, fun hmode => ?_, fun hmode => ?_⟩
    · subst hmode
      refine deliver_leaves (act := fun _ => setLobby true) hdel rfl ?_
      have hsame : s'.ntc.lobbyOpen = s.ntc.lobbyOpen := rfl
      unfold setLobby
      rw [hsame]
      rfl
    · subst hmode
      refine deliver_leaves (act := fun _ => setLobby false) hdel rfl ?_
      show setLobby false s' = _
      unfold setLobby
      have hsame : s'.ntc.lobbyOpen = s.ntc.lobbyOpen := rfl
      rw [hsame]
      cases s.ntc.lobbyOpen <;> rfl
    · exact deliver_leaves (act := fun _ => refuse .ntc 12 .badField 0) hdel
        (if_pos (decide_eq_true (show 1 < mode from hmode))) rfl

/-! ## A panel that leaves or returns (R83, R97) -/

section Forced

variable {s : State} {p : Fin 8} {e : Fin 24}

/-- A forced entry taken, or pending again without its mark: its panel is replaced, and is as LIVE as before. -/
theorem forcedStep_eq (e : Fin 24) (p : Fin 8) (s : State) : ∃ x l, forcedStep e p s = s.paneled p x l ∧ x.live = (ntcPanel s p).live := by
  unfold forcedStep
  split
  · exact ⟨_, [], repend_eq, rfl⟩
  · exact ⟨_, _, takeEntry_eq, took_live ..⟩

theorem forcedLoop_eq (n : Nat) (p : Fin 8) (s : State) : ∃ x l, forcedLoop n p s = s.paneled p x l ∧ x.live = (ntcPanel s p).live := by
  induction n generalizing s with
  | zero => exact ⟨ntcPanel s p, [], paneled_self.symm, rfl⟩
  | succ n ih =>
    unfold forcedLoop
    split
    · rename_i e he
      obtain ⟨x, l, hstep, hlive⟩ := forcedStep_eq e p s
      obtain ⟨y, m, hloop, hy⟩ := ih (forcedStep e p s)
      refine ⟨y, l ++ m, ?_, ?_⟩
      · rw [hloop, hstep, paneled_paneled]
      · rw [hy, hstep, ntcPanel_paneled, hlive]
    · exact ⟨ntcPanel s p, [], paneled_self.symm, rfl⟩

theorem headForced_cons {x : NtcPanel} {w : Waiting} {rest : List Waiting} (h : x.waiting = w :: rest) (hw : w.forced = true) :
    headForced x = some w.entry := by
  unfold headForced
  rw [h]
  exact if_pos hw

theorem headForced_none {x : NtcPanel} (h : ∀ w rest, x.waiting = w :: rest → w.forced = false) : headForced x = none := by
  unfold headForced
  split
  · rename_i w rest hw
    exact if_neg (by simp [h w rest hw])
  · rfl

theorem forcedLoop_some {n : Nat} (h : headForced (ntcPanel s p) = some e) : forcedLoop (n + 1) p s = forcedLoop n p (forcedStep e p s) := by
  rw [forcedLoop, h]

theorem forcedLoop_none {n : Nat} (h : headForced (ntcPanel s p) = none) : forcedLoop n p s = s := by
  cases n with
  | zero => rfl
  | succ n => rw [forcedLoop, h]

end Forced

/-- A pending list with its forced entries first, and `n` of them at most. -/
def ForcedFirst (n : Nat) (l : List Waiting) : Prop :=
  l.Pairwise (fun a b => b.forced = true → a.forced = true) ∧ l.countP (fun w => w.forced) ≤ n

theorem forcedFirst_insertWaiting {n : Nat} {l : List Waiting} (c : Ntc) (e : Fin 24) (h : ForcedFirst n l) :
    ForcedFirst n (insertWaiting c e l) := by
  obtain ⟨hl, hn⟩ := h
  refine ⟨?_, ?_⟩
  · clear hn
    induction l with
    | nil => exact List.pairwise_singleton _ _
    | cons w l ih =>
      obtain ⟨hw, hl⟩ := List.pairwise_cons.1 hl
      unfold insertWaiting
      split
      · rename_i hb
        refine List.pairwise_cons.2 ⟨fun b hmem hforced => ?_, List.pairwise_cons.2 ⟨hw, hl⟩⟩
        rcases List.mem_cons.1 hmem with rfl | hmem
        · exact absurd hforced (Bool.eq_false_iff.1 hb.1)
        · exact absurd (hw b hmem hforced) (Bool.eq_false_iff.1 hb.1)
      · refine List.pairwise_cons.2 ⟨fun b hmem hforced => ?_, ih hl⟩
        rcases List.mem_cons.1 ((insertWaiting_perm c e l).mem_iff.1 hmem) with rfl | hmem
        · cases hforced
        · exact hw b hmem hforced
  · rw [(insertWaiting_perm c e l).countP_eq, List.countP_cons_of_neg (by simp)]
    exact hn

/-- The forced entry at the head leaves the list. -/
theorem forcedFirst_drop {n : Nat} {w : Waiting} {l : List Waiting} (h : ForcedFirst (n + 1) (w :: l)) (hw : w.forced = true) :
    ForcedFirst n (dropWaiting w.entry (w :: l)) := by
  obtain ⟨hl, hn⟩ := h
  rw [List.countP_cons_of_pos hw] at hn
  have hdrop : dropWaiting w.entry (w :: l) = dropWaiting w.entry l := List.filter_cons_of_neg (by simp)
  rw [hdrop]
  exact ⟨(List.pairwise_cons.1 hl).2.filter _, (List.filter_sublist.countP_le).trans (Nat.le_of_succ_le_succ hn)⟩

theorem forcedFirst_none {n : Nat} {x : NtcPanel} (h : ForcedFirst n x.waiting) (hhead : headForced x = none) :
    ∀ w ∈ x.waiting, w.forced = false := by
  obtain ⟨hl, -⟩ := h
  cases hx : x.waiting with
  | nil => exact fun w hw => absurd hw List.not_mem_nil
  | cons y l =>
    rw [hx] at hl
    have hy : y.forced = false := by
      by_contra hy
      rw [headForced_cons hx (Bool.not_eq_false _ ▸ hy)] at hhead
      cases hhead
    intro w hw
    rcases List.mem_cons.1 hw with rfl | hw
    · exact hy
    · by_contra hforced
      exact Bool.eq_false_iff.1 hy ((List.pairwise_cons.1 hl).1 w hw (Bool.not_eq_false _ ▸ hforced))

theorem forcedFirst_saved {n : Nat} {x : NtcPanel} (c : Ntc) (k : Context) (h : ForcedFirst n x.waiting) :
    ForcedFirst n (x.saved c k).waiting := by
  unfold NtcPanel.saved
  split
  · exact h
  · split
    · exact forcedFirst_insertWaiting c _ h
    · exact h

theorem forcedFirst_took {n : Nat} {x : NtcPanel} {e : Fin 24} (c : Ntc) (k : Context) (h : ForcedFirst n (dropWaiting e x.waiting)) :
    ForcedFirst n (x.took c k e).waiting :=
  forcedFirst_saved (x := x.unpended e) c k h

section Forced

variable {s : State} {p : Fin 8}

theorem forcedFirst_forcedStep {n : Nat} {w : Waiting} {l : List Waiting} (hw : w.forced = true) (hx : (ntcPanel s p).waiting = w :: l)
    (h : ForcedFirst (n + 1) (ntcPanel s p).waiting) : ForcedFirst n (ntcPanel (forcedStep w.entry p s) p).waiting := by
  rw [hx] at h
  have hdrop := forcedFirst_drop h hw
  rw [← hx] at hdrop
  unfold forcedStep
  split
  · rw [repend_eq, ntcPanel_paneled]
    exact forcedFirst_insertWaiting _ _ hdrop
  · rw [takeEntry_eq, ntcPanel_paneled]
    exact forcedFirst_took _ _ hdrop

/-- The loop over the forced entries leaves none, once its fuel covers them. -/
theorem forcedLoop_unforced (n : Nat) (h : ForcedFirst n (ntcPanel s p).waiting) :
    ForcedFirst 0 (ntcPanel (forcedLoop n p s) p).waiting := by
  induction n generalizing s with
  | zero => exact h
  | succ n ih =>
    by_cases hhead : ∃ w l, (ntcPanel s p).waiting = w :: l ∧ w.forced = true
    · obtain ⟨w, l, hx, hw⟩ := hhead
      rw [forcedLoop_some (headForced_cons hx hw)]
      exact ih (forcedFirst_forcedStep hw hx h)
    · have hnone : headForced (ntcPanel s p) = none := headForced_none fun w l hx =>
        Bool.eq_false_iff.2 fun hw => hhead ⟨w, l, hx, hw⟩
      rw [forcedLoop_none hnone]
      refine ⟨h.1, Nat.le_zero.2 (List.countP_eq_zero.2 fun w hw => ?_)⟩
      exact Bool.eq_false_iff.1 (forcedFirst_none h hnone w hw)

/-- Takes keep a pending list without forced entries so. -/
theorem evalTakes_unforced (h : ForcedFirst 0 (ntcPanel s p).waiting) : ForcedFirst 0 (ntcPanel (evalTakes p s) p).waiting := by
  obtain ⟨x, l, hx, hP⟩ := evalTakes_paneled (p := p) (P := fun x => ForcedFirst 0 x.waiting) (fun c x k e hx _ _ =>
    forcedFirst_took c k ⟨hx.1.filter _, (List.filter_sublist.countP_le).trans hx.2⟩) s h
  rw [hx, ntcPanel_paneled]
  exact hP

/-- What a returning panel does: its notice state is replaced and view changes are sent. -/
theorem forcedTakes_eq (n : Nat) (p : Fin 8) (s : State) : ∃ x l, evalTakes p (forcedLoop n p s) = s.paneled p x l
    ∧ x.live = (ntcPanel s p).live := by
  obtain ⟨x, l, hloop, hx⟩ := forcedLoop_eq n p s
  obtain ⟨y, m, hev, hy⟩ := evalTakes_eq p (forcedLoop n p s)
  refine ⟨y, l ++ m, ?_, ?_⟩
  · rw [hev, hloop, paneled_paneled]
  · rw [hy, hloop, ntcPanel_paneled, hx]

theorem takePresenceNtc_other {mode : Mode} (h : mode ≠ .live) :
    takePresenceNtc p mode s = s.paneled p { ntcPanel s p with live := decide (mode = .live) } [] := by
  unfold takePresenceNtc
  dsimp only
  rw [if_neg h, setNtcPanel_eq]
  cases mode <;> rfl

theorem takePresenceNtc_live (n : Nat) (hn : n = 24) :
    takePresenceNtc p .live s = evalTakes p (forcedLoop n p (s.paneled p { ntcPanel s p with live := true } [])) := by
  subst hn
  unfold takePresenceNtc
  dsimp only
  rw [if_pos rfl, setNtcPanel_eq]
  rfl

theorem doPresenceReportNtc_cons {mode : Mode} {rest : List Mode} (h : s.links.pnlNtc.get p = mode :: rest) :
    doPresenceReportNtc p s = if (presenceOnWay s p).length ≤ rest.length then
      takePresenceNtc p mode (s.withLinks { s.links with pnlNtc := s.links.pnlNtc.set p rest }) else s := by
  unfold doPresenceReportNtc
  rw [h]

end Forced

/-- Settles O36: the report by its equations, and the loops of a returning panel by what they leave pending. -/
theorem presenceReachesTheNotices : Obligations.PresenceReachesTheNotices := by
  unfold Obligations.PresenceReachesTheNotices
  refine ⟨fun p mode rest s hr hq => ?_, fun k p s => ⟨fun w rest hx hw => forcedLoop_some (headForced_cons hx hw),
    fun hx => forcedLoop_none (headForced_none hx)⟩, fun e p s => ?_⟩
  · generalize hfuel : (24 : Nat) = n
    intro s' told
    let u := s.withLinks { s.links with pnlNtc := s.links.pnlNtc.set p rest }
    have hex : exec (.presenceReportNtc p) s = .next (doPresenceReportNtc p s) := running_next _ hr
    rw [doPresenceReportNtc_cons hq] at hex
    refine ⟨fun hnot => hex.trans (congrArg Host.Outcome.next (if_neg hnot)), fun htold hmode => ?_, fun htold hmode => ?_⟩
    · have hs : takePresenceNtc p mode u = s' := (takePresenceNtc_other hmode).trans paneled_nil
      exact hex.trans (congrArg Host.Outcome.next ((if_pos htold).trans hs))
    · subst hmode
      have hs : u.paneled p { ntcPanel u p with live := true } [] = s' := paneled_nil
      have hlive : (ntcPanel s' p).live = true := by rw [← hs, ntcPanel_paneled]
      have hwaiting : (ntcPanel s' p).waiting = (s.ntc.panels.get p).waiting := by
        rw [← hs, ntcPanel_paneled]
        rfl
      intro t x
      obtain ⟨y, l, ht, hy⟩ := forcedTakes_eq n p s'
      have ht : t = s'.paneled p y l := ht
      have hx : x = y := by
        have : x = ntcPanel t p := rfl
        rw [this, ht, ntcPanel_paneled]
      have hloop : (ntcPanel (forcedLoop n p s') p).live = true := by
        obtain ⟨z, m, hz, hzlive⟩ := forcedLoop_eq n p s'
        rw [hz, ntcPanel_paneled, hzlive, hlive]
      have hntc : t.ntc.entries = s.ntc.entries ∧ t.ntc.lobbyOpen = s.ntc.lobbyOpen := by
        rw [ht]
        exact ⟨rfl, rfl⟩
      have hsent : t.links.ntcCmp = s.links.ntcCmp ++ l.map (mail .ntc s') := by
        rw [ht]
        rfl
      refine ⟨hex.trans (congrArg Host.Outcome.next ((if_pos htold).trans ?_)), ?_, fun q hq => ?_, ?_, fun w hw => ?_, fun hlen hff w hw => ?_⟩
      · rw [takePresenceNtc_live n hfuel.symm, hs]
      · rw [hsent, List.drop_left, ht]
        rfl
      · have hother : ntcPanel t q = ntcPanel s' q := by rw [ht, ntcPanel_paneled_ne (Ne.symm hq)]
        refine hother.trans ?_
        rw [← hs, ntcPanel_paneled_ne (Ne.symm hq)]
        rfl
      · rw [hx, hy, hlive]
      · have := evalTakes_settled hloop w hw
        rwa [isCandidate_congr hntc.1 hntc.2] at this
      · have hstart : ForcedFirst n (ntcPanel s' p).waiting := by
          rw [hwaiting]
          exact ⟨hff, List.countP_le_length.trans hlen⟩
        have hend : ForcedFirst 0 (ntcPanel t p).waiting := evalTakes_unforced (forcedLoop_unforced n hstart)
        exact Bool.eq_false_iff.2 (List.countP_eq_zero.1 (Nat.le_zero.1 hend.2) w hw)
  · intro x shown
    refine ⟨fun hnot => if_neg fun h => hnot ((classShown_iff ..).1 h), fun hshown => ?_⟩
    refine (if_pos ((classShown_iff ..).2 hshown)).trans ?_
    rw [repend_eq, paneled_nil]
    rfl

end Sys2Proof.Machine
end

section
/-! PROOFS. The packets and the requests of the ledger (R28 to R31, R34 to R42): tallies, state changes, holds and releases. -/

namespace Sys2Proof.Machine

/-- Two changes of one entry are one. -/
theorem tab_modify_modify {n : Nat} {α : Type} (t : Tab n α) (i : Fin n) (f g : α → α) :
    (t.modify i f).modify i g = t.modify i fun x => g (f x) := by
  rw [Tab.modify_eq_set, Tab.modify_eq_set, Tab.modify_eq_set, Tab.set_set, Tab.get_set_same]

/-! ## The showings that the ledger has -/

/-- Whether the SLG has a showing depends on the schedule, on the requests on their way, and on the capacity of the record. -/
theorem inLedger_congr {s t : State} (hs : t.sch = s.sch) (hl : t.links.schSlg = s.links.schSlg) (ht : t.taken = s.taken) {i : Fin 96}
    (hc : (t.slg.ledger.get i).C = (s.slg.ledger.get i).C) : inLedger t i = inLedger s i := by
  unfold inLedger stateOf awaitsTally isFresh
  rw [hs, hl, ht, hc]

theorem inLedger_ledgerSlot {s : State} {id : Nat} {slot : Fin 96} (h : ledgerSlot s id = some slot) : inLedger s slot = true := by
  obtain ⟨hne, ha⟩ := ledgerSlot_some h
  unfold inLedger stateOf
  rw [ha, bne_iff_ne.2 hne]
  rfl

theorem recompute_eq {s : State} {slot : Fin 96} {cause : Nat} :
    recompute slot cause s = if inLedger s slot then s.refigured (stateOf s slot) slot cause else s := by
  unfold recompute
  rw [recomputeAs_eq_refigured]

theorem recompute_inLedger {s : State} {slot : Fin 96} {cause : Nat} (h : inLedger s slot = true) :
    recompute slot cause s = s.refigured (stateOf s slot) slot cause := by
  rw [recompute_eq, if_pos h]

section Records

variable {s : State} {slot : Fin 96} {f : Ledger → Ledger}

/-- A record tallied: what stays, and the record itself. -/
theorem tallied_frame (s : State) (slot : Fin 96) (f : Ledger → Ledger) : (s.tallied slot f).sch = s.sch
    ∧ (s.tallied slot f).links.schSlg = s.links.schSlg ∧ (s.tallied slot f).taken = s.taken
    ∧ (s.tallied slot f).slg = (s.recorded slot f).slg := by
  unfold State.tallied
  dsimp only
  split <;> exact ⟨rfl, rfl, rfl, rfl⟩

theorem recorded_record : (s.recorded slot f).slg.ledger.get slot = { f (s.slg.ledger.get slot) with
    oversold := isOversold (f (s.slg.ledger.get slot)) } := Tab.get_set_same ..

theorem tallied_record : (s.tallied slot f).slg.ledger.get slot = { f (s.slg.ledger.get slot) with
    oversold := isOversold (f (s.slg.ledger.get slot)) } := by
  rw [(tallied_frame s slot f).2.2.2]
  exact recorded_record

theorem inLedger_tallied (hf : ∀ l, (f l).C = l.C) : inLedger (s.tallied slot f) slot = inLedger s slot := by
  obtain ⟨hs, hl, ht, -⟩ := tallied_frame s slot f
  refine inLedger_congr hs hl ht ?_
  rw [tallied_record]
  exact hf _

theorem stateOf_tallied (i : Fin 96) : stateOf (s.tallied slot f) i = stateOf s i := by
  unfold stateOf
  rw [(tallied_frame s slot f).1]

/-- A tally (R30): the record tallied, and its key recomputed if the SLG has a showing there. -/
theorem applyTally_eq (sold blocked stamp cause : Nat) : applyTally slot sold blocked stamp cause s
    = recompute slot cause (s.tallied slot (tallyRecord sold blocked stamp)) :=
  congrArg (recompute slot cause) (evalOversold_setLedger ..)

theorem onSale_iff (st : ShowState) : onSale st = true ↔ st = .listed ∨ st = .opened ∨ st = .boarding ∨ st = .running := by
  cases st <;> decide

theorem onSale_over {st : ShowState} (h : st = .ended ∨ st = .cancelled) : onSale st = false := by
  rcases h with rfl | rfl <;> rfl

end Records

/-- Settles O24: the keys and the holds dropped by the equations of the ledger. -/
theorem keysAndDroppedHolds : Obligations.KeysAndDroppedHolds := by
  unfold Obligations.KeysAndDroppedHolds
  exact ⟨recomputeAs_eq_refigured, dropHolds_eq_dropped, fun _ _ _ h => showingId_some h⟩

/-- Settles O25: TALLY by the slot of its showing and by the state of that showing. -/
theorem tallyIsTaken : Obligations.TallyIsTaken := by
  unfold Obligations.TallyIsTaken
  intro id sold blocked clock rest s hdel
  have hex {u : State} (hu : takeTally id sold blocked clock (s.withFifo rest) = u) : exec .tally s = .next u :=
    deliver_leaves hdel rfl hu
  refine ⟨fun hnone => hex ?_, fun slot hslot => ⟨fun hover => hex ?_, fun hsale => hex ?_⟩⟩
  · have hnone' : ledgerSlot (s.withFifo rest) id = none := hnone
    unfold takeTally
    rw [hnone']
  all_goals
    have hslot' : ledgerSlot (s.withFifo rest) id = some slot := hslot
    unfold takeTally
    rw [hslot']
  · exact if_neg (Bool.eq_false_iff.1 (onSale_over hover))
  · refine (if_pos ((onSale_iff _).2 hsale)).trans ?_
    have hin := (inLedger_tallied (slot := slot) (f := tallyRecord sold blocked clock) fun _ => rfl).trans (inLedger_ledgerSlot hslot')
    rw [applyTally_eq, recompute_inLedger hin, stateOf_tallied]
    rfl

/-! ## The requests of the schedule (R28, R34) -/

section Requests

variable {s : State} {ep : Nat} {slot : Fin 96}

theorem doListingTally_eq {capacity sold blocked stamp : Nat} {fresh : Bool} {rest : List (Mail ToSlg)} (hi : s.slg.stage = .idle)
    (hq : s.links.schSlg = ⟨ep, .listingTally slot capacity sold blocked stamp fresh⟩ :: rest) (hf : s.taken.get (blockIx .slg) ≤ ep) :
    doListingTally s = takeListingTally slot capacity sold blocked stamp fresh (s.withLinks { s.links with schSlg := rest }) := by
  unfold doListingTally
  rw [hi, hq]
  exact if_pos (decide_eq_true hf)

theorem doStateChange_eq {st : ShowState} {cause : Nat} {rest : List (Mail ToSlg)} (hi : s.slg.stage = .idle)
    (hq : s.links.schSlg = ⟨ep, .stateChange slot st cause⟩ :: rest) (hf : s.taken.get (blockIx .slg) ≤ ep) :
    doStateChange s = takeStateChange slot st cause (s.withLinks { s.links with schSlg := rest }) := by
  unfold doStateChange
  rw [hi, hq]
  exact if_pos (decide_eq_true hf)

/-- A new listing at the ledger (R28): the record tallied anew, and its key stored without comparing. -/
theorem takeListingTally_fresh (capacity sold blocked stamp : Nat) : takeListingTally slot capacity sold blocked stamp true s
    = storeOpeningKey slot (s.tallied slot fun l => tallyRecord sold blocked stamp (openingRecord capacity l)) :=
  congrArg (storeOpeningKey slot) (evalOversold_setLedger ..)

theorem takeListingTally_update (capacity sold blocked stamp : Nat) : takeListingTally slot capacity sold blocked stamp false s
    = recompute slot 2 (s.tallied slot fun l => tallyRecord sold blocked stamp { l with C := capacity }) := by
  show applyTally slot sold blocked stamp 2 (setLedger slot (fun l => { l with C := capacity }) s) = _
  unfold applyTally
  rw [setLedger_setLedger, evalOversold_setLedger]

/-- The opening key of a record without a soldout notice. -/
theorem storeOpeningKey_eq (h : (s.slg.ledger.get slot).soldout = false) : storeOpeningKey slot s
    = setLedger slot (fun l => { l with key := some (figureKey (figureSettings s.slg) .listed l) }) s := by
  unfold storeOpeningKey
  rw [setLedger_eq, setLedger_eq, clearSoldout_eq]
  dsimp only
  rw [h, ite_self]

theorem takeStateChange_holding {st : ShowState} (h : st = .opened ∨ st = .boarding ∨ st = .running) (cause : Nat) :
    takeStateChange slot st cause s = s.refigured st slot cause := by
  rcases h with rfl | rfl | rfl <;> exact recomputeAs_eq_refigured ..

theorem takeStateChange_drops {st : ShowState} (h : st = .ended ∨ st = .cancelled) (cause : Nat) :
    takeStateChange slot st cause s = (s.dropped fun h => h.slot == slot).refigured st slot cause := by
  rw [← dropHolds_eq_dropped, ← recomputeAs_eq_refigured]
  rcases h with rfl | rfl <;> rfl

theorem takeStateChange_empty (cause : Nat) : takeStateChange slot .empty cause s
    = setLedger slot (fun _ => Ledger.empty) (s.dropped fun h => h.slot == slot) := by
  rw [← dropHolds_eq_dropped]
  rfl

end Requests

/-- Settles O26: the two requests of the schedule by their equations. -/
theorem scheduleReachesTheLedger : Obligations.ScheduleReachesTheLedger := by
  unfold Obligations.ScheduleReachesTheLedger
  refine ⟨fun ep capacity sold blocked stamp slot fresh rest s hr hi hq hf => ?_, fun ep cause slot st rest s hr hi hq hf => ?_⟩
  · intro s'
    have hex : exec .listingTally s = .next (takeListingTally slot capacity sold blocked stamp fresh s') :=
      (running_next _ hr).trans (congrArg Host.Outcome.next (doListingTally_eq hi hq hf))
    refine ⟨fun hfresh => ?_, fun hfresh => ?_⟩
    · subst hfresh
      refine hex.trans (congrArg Host.Outcome.next ?_)
      have hrec := tallied_record (s := s') (slot := slot) (f := fun l => tallyRecord sold blocked stamp (openingRecord capacity l))
      have hslg := (tallied_frame s' slot fun l => tallyRecord sold blocked stamp (openingRecord capacity l)).2.2.2
      rw [takeListingTally_fresh, storeOpeningKey_eq (by rw [hrec]; rfl)]
      have hfig : figureSettings (s'.tallied slot fun l => tallyRecord sold blocked stamp (openingRecord capacity l)).slg
          = figureSettings s.slg := by
        rw [hslg]
        rfl
      rw [hfig]
      rfl
    · subst hfresh
      intro t
      refine hex.trans (congrArg Host.Outcome.next ?_)
      rw [takeListingTally_update, recompute_eq, stateOf_tallied]
      rfl
  · intro s' d
    have hex : exec .stateChange s = .next (takeStateChange slot st cause s') :=
      (running_next _ hr).trans (congrArg Host.Outcome.next (doStateChange_eq hi hq hf))
    refine ⟨fun hst => ?_, fun hst => ?_, fun hst => ?_⟩
    · exact hex.trans (congrArg Host.Outcome.next (takeStateChange_holding hst cause))
    · exact hex.trans (congrArg Host.Outcome.next (takeStateChange_drops hst cause))
    · subst hst
      exact hex.trans (congrArg Host.Outcome.next (takeStateChange_empty cause))

end Sys2Proof.Machine
end

section
/-! PROOFS. HOLD and RELEASE (R38 to R42): the checks in order, a new hold, an amended one, a release and a late one. -/

namespace Sys2Proof.Machine

/-! ## HOLD (R38 to R40) -/

section Hold

variable {s : State} {d : Fin 16} {tag id seats period : Nat} {slot : Fin 96} {i : Fin 64}

theorem takeHold_opened (h : (s.slg.desks.get d).state = .opened) : takeHold d.val tag id seats period s = holdAtDesk d tag id seats period s := by
  unfold takeHold
  rw [asFin_val]
  exact if_pos h

theorem holdAtDesk_unknown (h : ledgerSlot s id = none) : holdAtDesk d tag id seats period s = refuse .slg 6 .unknownShowing id s := by
  unfold holdAtDesk
  rw [h]

theorem holdAtDesk_over (h : ledgerSlot s id = some slot) (ho : onSale (stateOf s slot) = false) :
    holdAtDesk d tag id seats period s = refuse .slg 6 .notOnSale id s := by
  unfold holdAtDesk
  rw [h]
  exact if_pos ho

theorem holdAtDesk_seats (h : ledgerSlot s id = some slot) (ho : onSale (stateOf s slot) = true) (hs : seats = 0 ∨ 15 < seats) :
    holdAtDesk d tag id seats period s = refuse .slg 6 .badField d.val s := by
  unfold holdAtDesk
  rw [h]
  exact (if_neg (by simp [ho])).trans (if_pos hs)

theorem holdAtDesk_placed (h : ledgerSlot s id = some slot) (ho : onSale (stateOf s slot) = true) (hlo : 1 ≤ seats) (hhi : seats ≤ 15) :
    holdAtDesk d tag id seats period s = placeHold ⟨d, tag, slot, seats, holdPeriodOf s.slg period⟩ s := by
  unfold holdAtDesk
  rw [h]
  exact (if_neg (by simp [ho])).trans (if_neg (by omega))

theorem placeHold_full {h : Hold} (hkey : findHold s.slg h.desk h.tag = none) (hfull : freeHold s.slg = none) :
    placeHold h s = refuse .slg 6 .holdTableFull h.desk.val s := by
  unfold placeHold
  rw [hkey, hfull]

theorem placeHold_new {h : Hold} (hkey : findHold s.slg h.desk h.tag = none) (hfree : freeHold s.slg = some i) :
    placeHold h s = makeHold i h (contact h.desk s) := by
  unfold placeHold
  rw [hkey, hfree]

theorem placeHold_amend {h old : Hold} (hkey : findHold s.slg h.desk h.tag = some i) (hold : s.slg.holds.get i = some old) :
    placeHold h s = amendHold i old h (contact h.desk s) := by
  unfold placeHold
  rw [hkey]
  dsimp only
  rw [hold]

/-- The machine with a new hold in its entry, its seats and its desk counted. -/
def State.held (s : State) (i : Fin 64) (h : Hold) : State :=
  { s with slg := { s.slg with
    holds := s.slg.holds.set i (some h)
    ledger := s.slg.ledger.modify h.slot fun l => { l with H := l.H + h.seats }
    desks := s.slg.desks.modify h.desk fun k => { contactDesk k with owned := k.owned + 1 } } }

theorem makeHold_eq {h : Hold} (hin : inLedger s h.slot = true) :
    makeHold i h (contact h.desk s) = (s.held i h).refigured (stateOf s h.slot) h.slot 6 := by
  have hheld : setDesk h.desk (fun d => { d with owned := d.owned + 1 })
      (setLedger h.slot (fun l => { l with H := l.H + h.seats }) (setHold i (some h) (contact h.desk s))) = s.held i h := by
    unfold State.held setDesk contact setDesk
    simp only [State.withSlg, setLedger, setHold, Slg.record, tab_modify_modify]
    rfl
  have hin' : inLedger (s.held i h) h.slot = true := by
    refine (inLedger_congr (t := s.held i h) (s := s) rfl rfl rfl ?_).trans hin
    have hrecord : (s.held i h).slg.ledger.get h.slot = { s.slg.ledger.get h.slot with H := (s.slg.ledger.get h.slot).H + h.seats } :=
      Tab.get_modify_same ..
    rw [hrecord]
  unfold makeHold
  rw [hheld, recompute_inLedger hin']
  rfl

/-- The machine with a hold amended: its entry, and the seats of the two showings. -/
def State.amended (s : State) (i : Fin 64) (old h : Hold) : State :=
  { s with slg := { s.slg with
    holds := s.slg.holds.set i (some h)
    ledger := (s.slg.ledger.modify old.slot fun l => { l with H := l.H - old.seats }).modify h.slot fun l => { l with H := l.H + h.seats }
    desks := s.slg.desks.modify h.desk contactDesk } }

theorem amendHold_eq {old h : Hold} : amendHold i old h (contact h.desk s)
    = (s.amended i old h).refiguredEach (if old.slot = h.slot then [h.slot] else [old.slot, h.slot]) 6 := by
  rw [← recomputeEach_eq_refiguredEach]
  unfold amendHold
  split <;> rfl

end Hold

/-- Settles O27: the checks one after the other, then the entry that the key names. -/
theorem holdIsTaken : Obligations.HoldIsTaken := by
  unfold Obligations.HoldIsTaken
  refine ⟨fun dk tag id seats period clock rest s hdel => ?_, fun d tag id seats period clock rest slot i old s hdel hopen hslot hsale hlo hhi hkey hold => ?_⟩
  · intro s' refused
    have hex {u : State} (hu : takeHold dk tag id seats period s' = u) : exec .hold s = .next u := deliver_leaves hdel rfl hu
    refine ⟨fun hdk => hex ?_, fun d hd => ⟨fun hshut => hex ?_, fun hopen => ?_⟩⟩
    · unfold takeHold
      rw [asFin_eq_none hdk]
    · subst hd
      exact takeHold_of_not_opened (s := s') hshut ..
    · subst hd
      have hdesk {u : State} (hu : holdAtDesk d tag id seats period s' = u) : exec .hold s = .next u :=
        hex ((takeHold_opened (s := s') hopen).trans hu)
      refine ⟨fun hnone => hdesk (holdAtDesk_unknown (s := s') hnone), fun slot hslot => ?_⟩
      intro st
      have hslot' : ledgerSlot s' id = some slot := hslot
      refine ⟨fun hover => hdesk (holdAtDesk_over hslot' (onSale_over hover)), fun hsale => ?_⟩
      have hsale' : onSale (stateOf s' slot) = true := (onSale_iff _).2 hsale
      refine ⟨fun hseats => hdesk (holdAtDesk_seats hslot' hsale' hseats), fun hlo hhi hkey => ?_⟩
      have hplaced := holdAtDesk_placed (d := d) (tag := tag) (period := period) hslot' hsale' hlo hhi
      have hkey' : findHold s'.slg d tag = none := hkey
      have hin := inLedger_ledgerSlot hslot'
      refine ⟨fun hfull => hdesk (hplaced.trans ?_), fun i hfree => hdesk (hplaced.trans ?_)⟩
      · exact placeHold_full (h := ⟨d, tag, slot, seats, holdPeriodOf s'.slg period⟩) hkey' hfull
      · have hnew := placeHold_new (h := ⟨d, tag, slot, seats, holdPeriodOf s'.slg period⟩) (i := i) hkey' hfree
        exact hnew.trans (makeHold_eq (h := ⟨d, tag, slot, seats, holdPeriodOf s'.slg period⟩) hin)
  · intro t
    have hslot' : ledgerSlot (s.withFifo rest) id = some slot := hslot
    have hplaced := holdAtDesk_placed (d := d) (tag := tag) (period := period) hslot' hsale hlo hhi
    have hamend := placeHold_amend (s := s.withFifo rest) (h := ⟨d, tag, slot, seats, holdPeriodOf s.slg period⟩) hkey hold
    have hopened := takeHold_opened (s := s.withFifo rest) (tag := tag) (id := id) (seats := seats) (period := period) hopen
    have hex : exec .hold s = .next (takeHold d.val tag id seats period (s.withFifo rest)) :=
      deliver_leaves (act := fun _ => takeHold d.val tag id seats period) hdel rfl rfl
    exact hex.trans (congrArg Host.Outcome.next (hopened.trans (hplaced.trans (hamend.trans amendHold_eq))))

/-! ## RELEASE (R41, R42) -/

section Release

variable {s : State} {d : Fin 16} {tag id seats convert : Nat} {slot : Fin 96} {i : Fin 64}

theorem takeRelease_refused {dk : Nat} (h : 16 ≤ dk ∨ seats = 0 ∨ 15 < seats ∨ 1 < convert) :
    takeRelease dk tag id seats convert s = refuse .slg 7 .badField dk s := by
  unfold takeRelease
  split
  · rename_i d c hd hc
    have hdk : dk < 16 := by rw [asFin_eq_some hd]; exact d.isLt
    have hconvert : convert < 2 := (yesNo_isSome convert).1 (by rw [hc]; rfl)
    exact if_pos (by omega)
  · rfl

theorem takeRelease_opened (hopen : (s.slg.desks.get d).state = .opened) (hlo : 1 ≤ seats) (hhi : seats ≤ 15) (hc : convert ≤ 1) :
    takeRelease d.val tag id seats convert s = acceptRelease d tag id seats (convert == 1) s := by
  have hyes : yesNo convert = some (convert == 1) := by interval_cases convert <;> rfl
  unfold takeRelease
  rw [asFin_val, hyes]
  exact (if_neg (by omega)).trans (if_pos hopen)

/-- The machine with an entry freed at its desk's contact. -/
def State.released (s : State) (d : Fin 16) (i : Fin 64) (h : Hold) : State :=
  { s with slg := { s.slg with
    holds := s.slg.holds.set i none
    ledger := s.slg.ledger.modify h.slot fun l => { l with H := l.H - h.seats }
    desks := s.slg.desks.modify d fun k => { contactDesk k with owned := k.owned - 1 } } }

theorem freeEntry_contact {h : Hold} (hd : h.desk = d) : freeEntry i h (contact d s) = s.released d i h := by
  subst hd
  unfold freeEntry State.released contact setDesk
  simp only [State.withSlg, setLedger, setHold, Slg.record, tab_modify_modify]
  rfl

theorem releaseEntry_eq {h : Hold} (hd : h.desk = d) (c : Bool) : releaseEntry i h c (contact d s)
    = (if c = true then (s.released d i h).tallied h.slot fun l => { l with P := min 999 (l.P + h.seats) }
      else s.released d i h).refiguredEach [h.slot] 7 := by
  rw [← recomputeEach_eq_refiguredEach]
  unfold releaseEntry
  rw [freeEntry_contact hd]
  dsimp only
  unfold convertSeats
  rw [evalOversold_setLedger]
  rfl

/-- The machine with a late release counted at its desk's contact. -/
def State.lateAt (s : State) (d : Fin 16) : State :=
  { s with slg := { s.slg with desks := s.slg.desks.modify d fun k =>
    { contactDesk k with lateReleases := min 255 (k.lateReleases + 1) } } }

theorem setDesk_contact_late : setDesk d (fun d => { d with lateReleases := satAdd 255 d.lateReleases 1 }) (contact d s) = s.lateAt d := by
  unfold State.lateAt contact setDesk
  simp only [State.withSlg, tab_modify_modify]
  rfl

theorem acceptRelease_entry {h : Hold} {c : Bool} (hkey : findHold s.slg d tag = some i) (hi : s.slg.holds.get i = some h) :
    acceptRelease d tag id seats c s = releaseEntry i h c (contact d s) := by
  have hkey' : findHold (contact d s).slg d tag = some i := hkey
  have hi' : (contact d s).slg.holds.get i = some h := hi
  unfold acceptRelease
  dsimp only
  rw [hkey']
  dsimp only
  rw [hi']

theorem acceptRelease_late {c : Bool} (hkey : findHold s.slg d tag = none) :
    acceptRelease d tag id seats c s = lateRelease d id seats c (contact d s) := by
  have hkey' : findHold (contact d s).slg d tag = none := hkey
  unfold acceptRelease
  dsimp only
  rw [hkey']

theorem lateRelease_unknown {c : Bool} (h : ledgerSlot s id = none) : lateRelease d id seats c (contact d s) = s.lateAt d := by
  have h' : ledgerSlot (contact d s) id = none := h
  unfold lateRelease
  rw [setDesk_contact_late, h']

theorem lateRelease_known {c : Bool} (h : ledgerSlot s id = some slot) : lateRelease d id seats c (contact d s)
    = if c = true ∧ onSale (stateOf s slot) = true then
        recompute slot 7 ((s.lateAt d).recorded slot fun l => { l with P := min 999 (l.P + seats) }) else s.lateAt d := by
  have h' : ledgerSlot (contact d s) id = some slot := h
  unfold lateRelease convertSeats
  rw [setDesk_contact_late, h']
  dsimp only
  rw [markOversold_setLedger]
  rfl

end Release

/-- Settles O28: the checks, then the entry of the key or the late release. -/
theorem releaseIsTaken : Obligations.ReleaseIsTaken := by
  unfold Obligations.ReleaseIsTaken
  intro dk tag id seats convert clock rest s hdel s'
  have hex {u : State} (hu : takeRelease dk tag id seats convert s' = u) : exec .release s = .next u := deliver_leaves hdel rfl hu
  refine ⟨fun hbad => hex (takeRelease_refused hbad), fun d hd hlo hhi hc => ⟨fun hshut => hex ?_, fun hopen => ?_⟩⟩
  · subst hd
    exact takeRelease_of_not_opened (s := s') hshut hlo hhi hc ..
  · subst hd
    have hdesk {u : State} (hu : acceptRelease d tag id seats (convert == 1) s' = u) : exec .release s = .next u :=
      hex ((takeRelease_opened (s := s') hopen hlo hhi hc).trans hu)
    refine ⟨fun i h hkey hi => hdesk ?_, fun hkey => ?_⟩
    · refine (acceptRelease_entry (s := s') hkey hi).trans ((releaseEntry_eq (findHold_some hkey hi).1 _).trans ?_)
      simp only [beq_iff_eq]
      rfl
    · intro t
      have hlate {u : State} (hu : lateRelease d id seats (convert == 1) (contact d s') = u) : exec .release s = .next u :=
        hdesk ((acceptRelease_late (s := s') hkey).trans hu)
      have hnone (h : ledgerSlot s id = none) : exec .release s = .next t := hlate (lateRelease_unknown (s := s') h)
      have hknown {slot : Fin 96} (h : ledgerSlot s id = some slot) (hno : ¬ (convert = 1 ∧ onSale (stateOf s slot) = true)) :
          exec .release s = .next t := by
        refine hlate ((lateRelease_known (s := s') h).trans (if_neg ?_))
        rwa [beq_iff_eq]
      refine ⟨fun hzero => ?_, fun _ h => hnone h, fun slot hslot => ⟨fun _ hover => hknown hslot ?_, fun hone hsale => hlate ?_⟩⟩
      · cases hslot : ledgerSlot s id with
        | none => exact hnone hslot
        | some slot => exact hknown hslot (by omega)
      · have : onSale (stateOf s slot) = false := onSale_over hover
        simp [this]
      · refine (lateRelease_known (s := s') hslot).trans ((if_pos ⟨by simp [hone], (onSale_iff _).2 hsale⟩).trans ?_)
        have hin : inLedger ((s'.lateAt d).recorded slot fun l => { l with P := min 999 (l.P + seats) }) slot = true := by
          refine (inLedger_congr (t := (s'.lateAt d).recorded slot fun l => { l with P := min 999 (l.P + seats) }) (s := s') rfl rfl rfl
            ?_).trans (inLedger_ledgerSlot (s := s') hslot)
          rw [recorded_record]
          rfl
        exact recompute_inLedger hin

end Sys2Proof.Machine
end

section
/-! PROOFS. The steps of a seconds pulse at the ledger (R32, R43, R49, R50): each is a walk over the holds, the showings or the desks, and
is said for the part of the walk that is done. -/

namespace Sys2Proof.Machine

theorem posting_nil (k : Links) (b : Block) : k.posting b [] = k := by
  unfold Links.posting
  rw [Tab.modify_append_nil]

theorem posting_posting (k : Links) (b : Block) (l m : List Event) : (k.posting b l).posting b m = k.posting b (l ++ m) := by
  unfold Links.posting
  rw [tab_modify_modify]
  simp only [List.append_assoc]

theorem post_eq (b : Block) (k : EventKind) (i : Nat) (l : List Nat) (s : State) :
    post b k i l s = s.withLinks (s.links.posting b [⟨k, i, l, s.lck.clock⟩]) := rfl

/-! ## Holds in their last second (R43) -/

theorem holdsAt_snoc (l : List (Fin 64)) (a : Fin 64) (p : Hold → Bool) (g : Slg) :
    holdsAt (l ++ [a]) p g = holdsAt l p g ++ (g.holds.get a).toList.filter p := by
  rw [← holdsAt_singleton]
  unfold holdsAt
  rw [List.filterMap_append, List.filter_append]

/-- A hold in its last second. -/
def lastSecond (h : Hold) : Bool := decide (h.remaining ≤ 1)

/-- A hold with one second less. -/
def Hold.ticked (h : Hold) : Hold := { h with remaining := h.remaining - 1 }

/-- The machine with some entries of the hold table counted down. -/
def State.expiredAt (s : State) (l : List (Fin 64)) : State :=
  { s with slg := { s.slg with
    holds := Tab.make 64 fun i =>
      if i ∈ l then ((s.slg.holds.get i).filter fun h => !lastSecond h).map Hold.ticked else s.slg.holds.get i
    ledger := Tab.make 96 fun i =>
      { s.slg.ledger.get i with H := (s.slg.ledger.get i).H - seatSum (holdsAt l (fun h => lastSecond h && h.slot == i) s.slg) }
    desks := Tab.make 16 fun d =>
      { s.slg.desks.get d with owned := (s.slg.desks.get d).owned - (holdsAt l (fun h => lastSecond h && h.desk == d) s.slg).length }
    touched := Tab.make 96 fun i => s.slg.touched.get i || !(holdsAt l (fun h => lastSecond h && h.slot == i) s.slg).isEmpty } }

/-- The machine with the four tables of the ledger that a pulse changes replaced. -/
def State.withTables (s : State) (holds : Tab 64 (Option Hold)) (ledger : Tab 96 Ledger) (desks : Tab 16 Desk) (touched : Tab 96 Bool) :
    State :=
  { s with slg := { s.slg with holds := holds, ledger := ledger, desks := desks, touched := touched } }

theorem withTables_congr (s : State) {h h' : Tab 64 (Option Hold)} {l l' : Tab 96 Ledger} {d d' : Tab 16 Desk} {t t' : Tab 96 Bool}
    (hh : ∀ i, h.get i = h'.get i) (hl : ∀ i, l.get i = l'.get i) (hd : ∀ i, d.get i = d'.get i) (ht : ∀ i, t.get i = t'.get i) :
    s.withTables h l d t = s.withTables h' l' d' t' := by
  rw [Tab.ext_get hh, Tab.ext_get hl, Tab.ext_get hd, Tab.ext_get ht]

theorem expiredAt_nil (s : State) : s.expiredAt [] = s := by
  refine (withTables_congr s (fun i => ?_) (fun i => ?_) (fun i => ?_) fun i => ?_ :
    s.expiredAt [] = s.withTables s.slg.holds s.slg.ledger s.slg.desks s.slg.touched) <;> rw [Tab.get_make]
  · exact if_neg List.not_mem_nil
  · rfl
  · rfl
  · exact Bool.or_false _

/-- One entry more counted down. -/
theorem countHold_expiredAt {l : List (Fin 64)} {a : Fin 64} (ha : a ∉ l) (s : State) :
    countHold a (s.expiredAt l) = s.expiredAt (l ++ [a]) := by
  have hget : (s.expiredAt l).slg.holds.get a = s.slg.holds.get a := by
    refine (Tab.get_make _ a).trans (if_neg ha)
  have hmem (i : Fin 64) : i ∈ l ++ [a] ↔ i ∈ l ∨ i = a := by simp
  unfold countHold
  rw [hget]
  cases hs : s.slg.holds.get a with
  | none =>
    refine withTables_congr s (fun i => ?_) (fun i => ?_) (fun i => ?_) (fun i => ?_) <;> rw [Tab.get_make, Tab.get_make]
    · by_cases hi : i = a
      · subst hi
        simp [ha, hs]
      · simp [hi]
    all_goals simp [holdsAt_snoc, hs]
  | some h =>
    dsimp only
    by_cases hlast : h.remaining ≤ 1
    · have hp : lastSecond h = true := decide_eq_true hlast
      rw [if_pos hlast]
      refine withTables_congr s (fun i => ?_) (fun i => ?_) (fun i => ?_) (fun i => ?_)
      · show ((s.expiredAt l).slg.holds.set a none).get i = _
        rw [Tab.get_set, Tab.get_make]
        by_cases hi : a = i
        · subst hi
          simp [hs, Option.filter_some, hp]
        · simp [hi, Ne.symm hi, State.expiredAt]
      · show ((s.expiredAt l).slg.ledger.modify h.slot fun l => { l with H := l.H - h.seats }).get i = _
        rw [Tab.get_modify, Tab.get_make, holdsAt_snoc, hs]
        by_cases hi : h.slot = i
        · simp [hi, hp, State.expiredAt, seatSum, Nat.sub_sub]
        · simp [hi, State.expiredAt]
      · show ((s.expiredAt l).slg.desks.modify h.desk fun d => { d with owned := d.owned - 1 }).get i = _
        rw [Tab.get_modify, Tab.get_make, holdsAt_snoc, hs]
        by_cases hi : h.desk = i
        · simp [hi, hp, State.expiredAt, Nat.sub_sub]
        · simp [hi, State.expiredAt]
      · show ((s.expiredAt l).slg.touched.set h.slot true).get i = _
        rw [Tab.get_set, Tab.get_make, holdsAt_snoc, hs]
        by_cases hi : h.slot = i
        · simp [hi, hp]
        · simp [hi, State.expiredAt]
    · have hp : lastSecond h = false := decide_eq_false hlast
      rw [if_neg hlast]
      refine withTables_congr s (fun i => ?_) (fun i => ?_) (fun i => ?_) (fun i => ?_)
      · show ((s.expiredAt l).slg.holds.set a (some { h with remaining := h.remaining - 1 })).get i = _
        rw [Tab.get_set, Tab.get_make]
        by_cases hi : a = i
        · subst hi
          simp [hs, Option.filter_some, hp, Hold.ticked]
        · simp [hi, Ne.symm hi, State.expiredAt]
      all_goals
        rw [Tab.get_make, holdsAt_snoc, hs]
        simp [hp, State.expiredAt]

/-- A walk over a list without repetitions, by the part of it that is done. -/
theorem foldl_done {α : Type} {g : State → α → State} {done : List α → State} (l : List α) (hl : l.Nodup)
    (hstep : ∀ m a, a ∉ m → g (done m) a = done (m ++ [a])) : l.foldl g (done []) = done l := by
  induction l using List.reverseRecOn with
  | nil => rfl
  | append_singleton m a ih =>
    obtain ⟨hm, -, hd⟩ := List.nodup_append.1 hl
    have ha : a ∉ m := fun h => hd a h a (List.mem_singleton_self a) rfl
    rw [List.foldl_append, ih hm]
    exact hstep m a ha

theorem foldl_countHold (s : State) : (fins 64).foldl (fun s i => countHold i s) s = s.expiredAt (fins 64) := by
  have := foldl_done (g := fun s i => countHold i s) (done := s.expiredAt) (fins 64) (List.nodup_finRange 64)
    fun m a ha => countHold_expiredAt ha s
  rwa [expiredAt_nil] at this

/-! ## Tally ages (R32) -/

section Ages

/-- The machine with the records of some slots replaced by a function of them. -/
theorem foldl_setLedger (f : Ledger → Ledger) (l : List (Fin 96)) (hl : l.Nodup) (s : State) :
    l.foldl (fun s i => setLedger i f s) s = { s with slg := { s.slg with
      ledger := Tab.make 96 fun i => if i ∈ l then f (s.slg.ledger.get i) else s.slg.ledger.get i } } := by
  have hnil : ({ s with slg := { s.slg with ledger := Tab.make 96 fun i => if i ∈ [] then f (s.slg.ledger.get i) else s.slg.ledger.get i } } : State)
      = s := by simp [Tab.make_get]
  have := foldl_done (g := fun s i => setLedger i f s) (done := fun l => { s with slg := { s.slg with
      ledger := Tab.make 96 fun i => if i ∈ l then f (s.slg.ledger.get i) else s.slg.ledger.get i } }) l hl (fun m a ha => by
    have htab : (Tab.make 96 fun i => if i ∈ m then f (s.slg.ledger.get i) else s.slg.ledger.get i).modify a f
        = Tab.make 96 fun i => if i ∈ m ++ [a] then f (s.slg.ledger.get i) else s.slg.ledger.get i := by
      refine Tab.ext_get fun i => ?_
      rw [Tab.get_modify, Tab.get_make, Tab.get_make]
      by_cases hi : a = i
      · subst hi
        simp [ha]
      · simp [hi, Ne.symm hi]
    show ({ s with slg := { s.slg with ledger := _ } } : State) = _
    rw [← htab])
  rwa [hnil] at this

/-- The event of a showing that becomes stale. -/
def staleEvent (s : State) (i : Fin 96) : Event := ⟨.stale, i.val, [showingId s i, (s.slg.ledger.get i).A], s.lck.clock⟩

/-- The machine with the showings among some slots that are due become stale. -/
def State.staledAt (s : State) (l : List (Fin 96)) : State :=
  { s with
    slg := { s.slg with
      ledger := Tab.make 96 fun i =>
        { s.slg.ledger.get i with stale := (s.slg.ledger.get i).stale || (decide (i ∈ l) && staleDue s i) }
      touched := Tab.make 96 fun i => s.slg.touched.get i || (decide (i ∈ l) && staleDue s i) }
    links := s.links.posting .slg ((l.filter fun i => staleDue s i).map (staleEvent s)) }

theorem staledAt_nil (s : State) : s.staledAt [] = s := by
  have hledger : (Tab.make 96 fun i =>
      { s.slg.ledger.get i with stale := (s.slg.ledger.get i).stale || (decide (i ∈ []) && staleDue s i) }) = s.slg.ledger :=
    Tab.ext_get fun i => by rw [Tab.get_make, decide_eq_false List.not_mem_nil, Bool.false_and, Bool.or_false]
  have htouched : (Tab.make 96 fun i => s.slg.touched.get i || (decide (i ∈ []) && staleDue s i)) = s.slg.touched :=
    Tab.ext_get fun i => by rw [Tab.get_make, decide_eq_false List.not_mem_nil, Bool.false_and, Bool.or_false]
  unfold State.staledAt
  rw [List.filter_nil, List.map_nil, posting_nil, hledger, htouched]

theorem staledAt_record {l : List (Fin 96)} {a : Fin 96} (ha : a ∉ l) (s : State) :
    (s.staledAt l).slg.ledger.get a = s.slg.ledger.get a := by
  refine (Tab.get_make _ a).trans ?_
  rw [decide_eq_false ha, Bool.false_and, Bool.or_false]

theorem staleDue_congr {s t : State} (hs : t.sch = s.sch) (hl : t.links.schSlg = s.links.schSlg) (ht : t.taken = s.taken) {i : Fin 96}
    (hr : t.slg.ledger.get i = s.slg.ledger.get i) (hlim : t.slg.staleLimit = s.slg.staleLimit) : staleDue t i = staleDue s i := by
  unfold staleDue
  rw [inLedger_congr hs hl ht (by rw [hr]), hr, hlim]
  unfold stateOf
  rw [hs]

theorem testStale_staledAt {l : List (Fin 96)} {a : Fin 96} (ha : a ∉ l) (s : State) :
    (if staleDue (s.staledAt l) a then touch a (becomeStale a (s.staledAt l)) else s.staledAt l) = s.staledAt (l ++ [a]) := by
  have hrecord := staledAt_record ha s
  have hdue : staleDue (s.staledAt l) a = staleDue s a :=
    staleDue_congr (t := s.staledAt l) (s := s) rfl rfl rfl hrecord rfl
  have hmem (i : Fin 96) : i ∈ l ++ [a] ↔ i ∈ l ∨ i = a := by simp
  rw [hdue]
  cases hd : staleDue s a with
  | false =>
    have hpart (i : Fin 96) : (decide (i ∈ l ++ [a]) && staleDue s i) = (decide (i ∈ l) && staleDue s i) := by
      by_cases hi : i = a
      · subst hi
        simp [hd]
      · simp [hi]
    unfold State.staledAt
    simp only [hpart, List.filter_append, List.filter_cons, hd, List.filter_nil, Bool.false_eq_true, if_false, List.append_nil]
  | true =>
    have hledger : ((s.staledAt l).slg.ledger.modify a fun r => { r with stale := true }) = (s.staledAt (l ++ [a])).slg.ledger := by
      refine Tab.ext_get fun i => ?_
      show _ = (Tab.make 96 _).get i
      rw [Tab.get_modify, Tab.get_make]
      by_cases hi : a = i
      · subst hi
        rw [if_pos rfl, hrecord]
        simp [hd]
      · rw [if_neg hi]
        refine (Tab.get_make _ i).trans ?_
        simp [Ne.symm hi]
    have htouched : (s.staledAt l).slg.touched.set a true = (s.staledAt (l ++ [a])).slg.touched := by
      refine Tab.ext_get fun i => ?_
      show _ = (Tab.make 96 _).get i
      rw [Tab.get_set, Tab.get_make]
      by_cases hi : a = i
      · subst hi
        simp [hd]
      · rw [if_neg hi]
        refine (Tab.get_make _ i).trans ?_
        simp [Ne.symm hi]
    have hevents : (s.staledAt l).links.posting .slg [staleEvent s a] = (s.staledAt (l ++ [a])).links := by
      refine (posting_posting ..).trans ?_
      unfold State.staledAt
      simp only [List.filter_append, List.filter_cons, hd, List.filter_nil, if_true, List.map_append, List.map_cons, List.map_nil]
    have hall : touch a (becomeStale a (s.staledAt l)) = { s.staledAt l with
        slg := { (s.staledAt l).slg with
          ledger := (s.staledAt l).slg.ledger.modify a fun r => { r with stale := true }
          touched := (s.staledAt l).slg.touched.set a true }
        links := (s.staledAt l).links.posting .slg [staleEvent s a] } := by
      unfold becomeStale
      dsimp only
      rw [hrecord]
      rfl
    rw [if_pos rfl, hall, hledger, htouched, hevents]
    rfl

theorem foldl_testStale (l : List (Fin 96)) (hl : l.Nodup) (s : State) :
    l.foldl (fun s i => if staleDue s i then touch i (becomeStale i s) else s) s = s.staledAt l := by
  have := foldl_done (g := fun s i => if staleDue s i then touch i (becomeStale i s) else s) (done := s.staledAt) l hl
    fun m a ha => testStale_staledAt ha s
  rwa [staledAt_nil] at this

end Ages

end Sys2Proof.Machine
end

section
/-! PROOFS. Desks that fall silent (R44, R49), and the three steps of a pulse at the ledger (R50). -/

namespace Sys2Proof.Machine

/-! ## Holds of some desks and then of others -/

theorem holdsWith_dropped (p r : Hold → Bool) (s : State) : holdsWith r (s.dropped p).slg = holdsWith (fun h => !p h && r h) s.slg := by
  rw [← holdsAt_fins, ← holdsAt_fins]
  unfold holdsAt
  have hget (i : Fin 64) : (s.dropped p).slg.holds.get i = (s.slg.holds.get i).filter fun h => !p h := Tab.get_make _ i
  induction fins 64 with
  | nil => rfl
  | cons i l ih =>
    rw [List.filterMap_cons, List.filterMap_cons, hget]
    cases hi : s.slg.holds.get i with
    | none => exact ih
    | some h =>
      rw [Option.filter_some]
      cases hp : p h
      · rw [if_pos (by rfl)]
        cases hr : r h <;> simp [hp, hr, ih]
      · simpa [hp] using ih

/-- The holds that meet one of two conditions are those of the first, and those of the second among the rest. -/
theorem holdsWith_or (p q : Hold → Bool) (g : Slg) :
    (holdsWith (fun h => p h || q h) g).Perm (holdsWith p g ++ holdsWith (fun h => !p h && q h) g) := by
  unfold holdsWith
  have hsplit := List.filter_append_perm p ((g.holds.list.filterMap id).filter fun h => p h || q h)
  rw [List.filter_filter, List.filter_filter] at hsplit
  have h1 : (fun h => p h && (p h || q h)) = p := by
    funext h
    cases p h <;> rfl
  have h2 : (fun h => !p h && (p h || q h)) = fun h => !p h && q h := by
    funext h
    cases p h <;> rfl
  rw [h1, h2] at hsplit
  exact hsplit.symm

theorem seatSum_perm {l m : List Hold} (h : l.Perm m) : seatSum l = seatSum m := (h.map _).sum_eq

theorem isEmpty_perm {α : Type} {l m : List α} (h : l.Perm m) : l.isEmpty = m.isEmpty := by
  rw [Bool.eq_iff_iff, List.isEmpty_iff_length_eq_zero, List.isEmpty_iff_length_eq_zero, h.length_eq]

theorem any_slot_holdsWith (p : Hold → Bool) (i : Fin 96) (g : Slg) :
    ((holdsWith p g).any fun h => h.slot == i) = !(holdsWith (fun h => p h && h.slot == i) g).isEmpty := by
  unfold holdsWith
  rw [Bool.eq_iff_iff, List.any_eq_true, Bool.not_eq_true', ← Bool.not_eq_true, List.isEmpty_iff, List.filter_eq_nil_iff]
  simp only [List.mem_filter]
  constructor
  · rintro ⟨h, ⟨hm, hp⟩, hs⟩ hall
    exact hall h hm (by simp [hp, hs])
  · intro hall
    by_contra hno
    refine hall fun h hm hboth => hno ⟨h, ⟨hm, ?_⟩, ?_⟩ <;> simp_all

theorem foldl_touch_eq (l : List (Fin 96)) (s : State) : l.foldl (fun s i => touch i s) s
    = { s with slg := { s.slg with touched := Tab.make 96 fun i => s.slg.touched.get i || decide (i ∈ l) } } := by
  induction l generalizing s with
  | nil => simp [Tab.make_get]
  | cons a l ih =>
    have htab : (Tab.make 96 fun i => (touch a s).slg.touched.get i || decide (i ∈ l))
        = Tab.make 96 fun i => s.slg.touched.get i || decide (i ∈ a :: l) := by
      refine Tab.ext_get fun i => ?_
      rw [Tab.get_make, Tab.get_make]
      have hget : (touch a s).slg.touched.get i = if a = i then true else s.slg.touched.get i := Tab.get_set ..
      rw [hget]
      by_cases hi : a = i
      · simp [hi]
      · simp [hi, Ne.symm hi]
    rw [List.foldl_cons, ih, htab]
    rfl

/-! ## Desks that fall silent (R49) -/

/-- A desk is due to fall silent. -/
def silenceDue (s : State) (d : Fin 16) : Bool := (s.slg.desks.get d).state == .opened && decide (s.slg.silenceLimit ≤ (s.slg.desks.get d).gap)

/-- The event of a desk that falls silent. -/
def silentEvent (s : State) (d : Fin 16) : Event :=
  ⟨.deskSilent, d.val, [(s.slg.desks.get d).gap, (holdsWith (fun h => h.desk == d) s.slg).length], s.lck.clock⟩

/-- The links with events of the SLG posted and desk changes sent. -/
def Links.deskTold (k : Links) (l : List Event) (m : List (Mail Unit)) : Links := { k.posting .slg l with slgCmp := k.slgCmp ++ m }

theorem deskTold_deskTold (k : Links) (l l' : List Event) (m m' : List (Mail Unit)) :
    (k.deskTold l m).deskTold l' m' = k.deskTold (l ++ l') (m ++ m') := by
  unfold Links.deskTold Links.posting
  simp only [tab_modify_modify, List.append_assoc]

/-- A desk as it falls silent. -/
def hush (k : Desk) : Desk := { k with state := .silent, lastGap := k.gap }

/-- A hold is of a desk among some that falls silent. -/
def lostHold (s : State) (l : List (Fin 16)) (h : Hold) : Bool := decide (h.desk ∈ l) && silenceDue s h.desk

/-- The machine with the desks among some that are due fallen silent. -/
def State.hushedAt (s : State) (l : List (Fin 16)) : State :=
  let t := s.dropped (lostHold s l)
  { t with
    slg := { t.slg with
      desks := Tab.make 16 fun d => if decide (d ∈ l) && silenceDue s d then hush (t.slg.desks.get d) else t.slg.desks.get d
      touched := Tab.make 96 fun i => s.slg.touched.get i || !(holdsWith (fun h => lostHold s l h && h.slot == i) s.slg).isEmpty }
    links := s.links.deskTold ((l.filter (silenceDue s)).map (silentEvent s)) ((l.filter (silenceDue s)).map fun _ => mail .slg s ()) }

theorem hushedAt_congr {s : State} {l m : List (Fin 16)} (hf : l.filter (silenceDue s) = m.filter (silenceDue s))
    (hm : ∀ d, (decide (d ∈ l) && silenceDue s d) = (decide (d ∈ m) && silenceDue s d)) : s.hushedAt l = s.hushedAt m := by
  have hlost : lostHold s l = lostHold s m := funext fun h => hm h.desk
  unfold State.hushedAt
  simp only [hf, hm, hlost]

theorem hushedAt_desk {s : State} {l : List (Fin 16)} {a : Fin 16} (ha : a ∉ l) : (s.hushedAt l).slg.desks.get a = s.slg.desks.get a := by
  have hnone : holdsWith (fun h => lostHold s l h && h.desk == a) s.slg = [] := by
    refine List.filter_eq_nil_iff.2 fun h _ hboth => ?_
    obtain ⟨hl, hd⟩ := Bool.and_eq_true_iff.1 hboth
    unfold lostHold at hl
    rw [beq_iff_eq.1 hd, decide_eq_false ha] at hl
    cases hl
  refine (Tab.get_make _ a).trans ?_
  rw [decide_eq_false ha, Bool.false_and, if_neg Bool.false_ne_true]
  refine (Tab.get_make _ a).trans ?_
  rw [hnone]
  rfl

/-- What the fall of one desk does, in one. -/
def State.silenced (s : State) (d : Fin 16) : State :=
  { s with
    slg := { s.slg with
      holds := (s.dropped fun h => h.desk == d).slg.holds
      ledger := (s.dropped fun h => h.desk == d).slg.ledger
      desks := (s.dropped fun h => h.desk == d).slg.desks.modify d fun k => { k with state := .silent, lastGap := (s.slg.desks.get d).gap }
      touched := Tab.make 96 fun i => s.slg.touched.get i || !(holdsWith (fun h => h.desk == d && h.slot == i) s.slg).isEmpty }
    links := s.links.deskTold [silentEvent s d] [mail .slg s ()] }

theorem silenceDesk_eq (d : Fin 16) (s : State) : silenceDesk d s = s.silenced d := by
  have htouched : (Tab.make 96 fun i => s.slg.touched.get i || decide (i ∈ slotsOfHolds (fun h => h.desk == d) s.slg))
      = Tab.make 96 fun i => s.slg.touched.get i || !(holdsWith (fun h => h.desk == d && h.slot == i) s.slg).isEmpty := by
    refine Tab.ext_get fun i => ?_
    have hmem : i ∈ slotsOfHolds (fun h => h.desk == d) s.slg ↔ ((holdsWith (fun h => h.desk == d) s.slg).any fun h => h.slot == i) = true := by
      unfold slotsOfHolds
      rw [List.mem_filter]
      exact and_iff_right (List.mem_finRange i)
    rw [Tab.get_make, Tab.get_make, ← any_slot_holdsWith]
    congr 1
    rw [Bool.eq_iff_iff, decide_eq_true_iff, hmem]
  have hdesks : ((setDesk d (fun k => { k with state := .silent, lastGap := k.gap }) s).dropped fun h => h.desk == d).slg.desks
      = (s.dropped fun h => h.desk == d).slg.desks.modify d fun k => { k with state := .silent, lastGap := (s.slg.desks.get d).gap } := by
    rw [dropped_setDesk (fun _ _ => rfl)]
    refine Tab.ext_get fun e => ?_
    show ((s.dropped _).slg.desks.modify d _).get e = _
    rw [Tab.get_modify, Tab.get_modify]
    split
    · rename_i he
      subst he
      have hgap : ((s.dropped fun h => h.desk == d).slg.desks.get d).gap = (s.slg.desks.get d).gap := by
        unfold State.dropped
        rw [Tab.get_make]
      rw [hgap]
    · rfl
  unfold silenceDesk State.silenced
  dsimp only
  rw [foldl_touch_eq, dropHolds_eq_dropped, ← hdesks, ← htouched]
  rfl

section Step

variable {s : State} {l : List (Fin 16)} {a : Fin 16}

theorem mem_snoc (l : List (Fin 16)) (a d : Fin 16) : d ∈ l ++ [a] ↔ d ∈ l ∨ d = a := by simp

/-- A desk that is not due changes nothing. -/
theorem hushedAt_snoc_idle (hd : silenceDue s a = false) : s.hushedAt l = s.hushedAt (l ++ [a]) := by
  refine hushedAt_congr ?_ fun d => ?_
  · rw [List.filter_append, List.filter_cons_of_neg (by simp [hd]), List.filter_nil, List.append_nil]
  · by_cases hda : d = a
    · subst hda
      simp [hd]
    · simp [hda]

theorem lostHold_snoc (hd : silenceDue s a = true) : lostHold s (l ++ [a]) = fun h => lostHold s l h || h.desk == a := by
  funext h
  unfold lostHold
  by_cases hh : h.desk = a
  · simp [hh, hd]
  · simp [hh]

/-- The holds lost with one desk more: those lost before, and the desk's among the rest. -/
theorem lostHold_split (hd : silenceDue s a = true) (r : Hold → Bool) :
    (holdsWith (fun h => lostHold s (l ++ [a]) h && r h) s.slg).Perm
      (holdsWith (fun h => lostHold s l h && r h) s.slg ++ holdsWith (fun h => !lostHold s l h && (h.desk == a && r h)) s.slg) := by
  have hor := holdsWith_or (fun h => lostHold s l h && r h) (fun h => h.desk == a && r h) s.slg
  have h1 : (fun h => lostHold s (l ++ [a]) h && r h) = fun h => (lostHold s l h && r h) || (h.desk == a && r h) := by
    rw [lostHold_snoc hd]
    funext h
    exact Bool.and_or_distrib_right ..
  have h2 : (fun h => !(lostHold s l h && r h) && (h.desk == a && r h)) = fun h => !lostHold s l h && (h.desk == a && r h) := by
    funext h
    cases lostHold s l h <;> cases (h.desk == a) <;> cases r h <;> rfl
  rw [h1, ← h2]
  exact hor

theorem holdsWith_hushedAt (r : Hold → Bool) :
    holdsWith r (s.hushedAt l).slg = holdsWith (fun h => !lostHold s l h && r h) s.slg := holdsWith_dropped (lostHold s l) r s

theorem hushedAt_holds (hd : silenceDue s a = true) :
    ((s.hushedAt l).dropped fun h => h.desk == a).slg.holds = (s.hushedAt (l ++ [a])).slg.holds := by
  refine Tab.ext_get fun i => ?_
  refine (Tab.get_make _ i).trans (Eq.trans ?_ (Tab.get_make _ i).symm)
  have hi : (s.hushedAt l).slg.holds.get i = (s.slg.holds.get i).filter fun h => !lostHold s l h := Tab.get_make _ i
  rw [hi, lostHold_snoc hd, Option.filter_filter]
  congr 1
  funext h
  rw [Bool.not_or, Bool.and_comm]

theorem hushedAt_ledger (hd : silenceDue s a = true) :
    ((s.hushedAt l).dropped fun h => h.desk == a).slg.ledger = (s.hushedAt (l ++ [a])).slg.ledger := by
  refine Tab.ext_get fun i => ?_
  refine (Tab.get_make _ i).trans (Eq.trans ?_ (Tab.get_make _ i).symm)
  have hi : (s.hushedAt l).slg.ledger.get i = { s.slg.ledger.get i with
      H := (s.slg.ledger.get i).H - seatSum (holdsWith (fun h => lostHold s l h && h.slot == i) s.slg) } := Tab.get_make _ i
  rw [hi, holdsWith_hushedAt, seatSum_perm (lostHold_split hd fun h => h.slot == i), seatSum_append, Nat.sub_sub]

/-- A desk after the desks of a list have been tested. -/
theorem hushedAt_desks (l : List (Fin 16)) (d : Fin 16) : (s.hushedAt l).slg.desks.get d
    = (fun k => if decide (d ∈ l) && silenceDue s d then hush k else k) { s.slg.desks.get d with
      owned := (s.slg.desks.get d).owned - (holdsWith (fun h => lostHold s l h && h.desk == d) s.slg).length } := by
  refine (Tab.get_make _ d).trans ?_
  have hg : (s.dropped (lostHold s l)).slg.desks.get d = { s.slg.desks.get d with
      owned := (s.slg.desks.get d).owned - (holdsWith (fun h => lostHold s l h && h.desk == d) s.slg).length } := Tab.get_make _ d
  rw [hg]

theorem hushedAt_desks_snoc (ha : a ∉ l) (hd : silenceDue s a = true) : ((s.hushedAt l).dropped fun h => h.desk == a).slg.desks.modify a
      (fun k => { k with state := .silent, lastGap := ((s.hushedAt l).slg.desks.get a).gap }) = (s.hushedAt (l ++ [a])).slg.desks := by
  refine Tab.ext_get fun d => ?_
  have hown : (holdsWith (fun h => lostHold s (l ++ [a]) h && h.desk == d) s.slg).length
      = (holdsWith (fun h => lostHold s l h && h.desk == d) s.slg).length
        + (holdsWith (fun h => !lostHold s l h && (h.desk == a && h.desk == d)) s.slg).length := by
    rw [(lostHold_split hd fun h => h.desk == d).length_eq, List.length_append]
  have hdropped : ((s.hushedAt l).dropped fun h => h.desk == a).slg.desks.get d = { (s.hushedAt l).slg.desks.get d with
      owned := ((s.hushedAt l).slg.desks.get d).owned
        - (holdsWith (fun h => !lostHold s l h && (h.desk == a && h.desk == d)) s.slg).length } := by
    refine (Tab.get_make _ d).trans ?_
    rw [holdsWith_hushedAt]
  rw [Tab.get_modify, hdropped, hushedAt_desk ha, hushedAt_desks, hushedAt_desks, hown, ← Nat.sub_sub]
  by_cases hda : a = d
  · subst hda
    simp [ha, hd, hush]
  · simp only [mem_snoc, Ne.symm hda, or_false, if_neg hda]
    split <;> rfl

theorem hushedAt_touched (hd : silenceDue s a = true) : (Tab.make 96 fun i => (s.hushedAt l).slg.touched.get i
      || !(holdsWith (fun h => h.desk == a && h.slot == i) (s.hushedAt l).slg).isEmpty) = (s.hushedAt (l ++ [a])).slg.touched := by
  have happend (x y : List Hold) : (x ++ y).isEmpty = (x.isEmpty && y.isEmpty) := by cases x <;> rfl
  refine Tab.ext_get fun i => ?_
  refine (Tab.get_make _ i).trans (Eq.trans ?_ (Tab.get_make _ i).symm)
  have hi : (s.hushedAt l).slg.touched.get i
      = (s.slg.touched.get i || !(holdsWith (fun h => lostHold s l h && h.slot == i) s.slg).isEmpty) := Tab.get_make _ i
  rw [hi, holdsWith_hushedAt, isEmpty_perm (lostHold_split hd fun h => h.slot == i), happend, Bool.not_and, Bool.or_assoc]

theorem hushedAt_event (ha : a ∉ l) : silentEvent (s.hushedAt l) a = silentEvent s a := by
  have hall : holdsWith (fun h => h.desk == a) (s.hushedAt l).slg = holdsWith (fun h => h.desk == a) s.slg := by
    rw [holdsWith_hushedAt]
    congr 1
    funext h
    unfold lostHold
    by_cases hh : h.desk = a
    · simp [hh, ha]
    · simp [hh]
  unfold silentEvent
  rw [hushedAt_desk ha, hall]
  rfl

theorem hushedAt_links (ha : a ∉ l) (hd : silenceDue s a = true) :
    (s.hushedAt l).links.deskTold [silentEvent (s.hushedAt l) a] [mail .slg (s.hushedAt l) ()] = (s.hushedAt (l ++ [a])).links := by
  have hfilter : (l ++ [a]).filter (silenceDue s) = l.filter (silenceDue s) ++ [a] := by
    rw [List.filter_append, List.filter_cons_of_pos hd, List.filter_nil]
  rw [hushedAt_event ha]
  refine (deskTold_deskTold ..).trans ?_
  unfold State.hushedAt
  dsimp only
  rw [hfilter, List.map_append, List.map_append]
  rfl

/-- One desk more: it falls silent if it is due. -/
theorem testDesk_hushedAt (ha : a ∉ l) (s : State) : testDesk a (s.hushedAt l) = s.hushedAt (l ++ [a]) := by
  have hdue : ((s.hushedAt l).slg.desks.get a).state = .opened ∧ (s.hushedAt l).slg.silenceLimit ≤ ((s.hushedAt l).slg.desks.get a).gap
      ↔ silenceDue s a = true := by
    rw [hushedAt_desk ha]
    unfold silenceDue
    rw [Bool.and_eq_true, beq_iff_eq, decide_eq_true_iff]
    rfl
  unfold testDesk
  cases hd : silenceDue s a with
  | false => rw [if_neg (by rw [hdue, hd]; decide), ← hushedAt_snoc_idle hd]
  | true =>
    rw [if_pos (by rw [hdue, hd]), silenceDesk_eq]
    unfold State.silenced
    rw [hushedAt_holds hd, hushedAt_ledger hd, hushedAt_desks_snoc ha hd, hushedAt_touched hd, hushedAt_links ha hd]
    rfl

end Step

theorem hushedAt_nil (s : State) : s.hushedAt [] = s := by
  have hnone (r : Hold → Bool) : holdsWith (fun h => lostHold s [] h && r h) s.slg = [] :=
    List.filter_eq_nil_iff.2 fun h _ => by simp [lostHold]
  have hholds : (s.hushedAt []).slg.holds = s.slg.holds := Tab.ext_get fun i => by
    refine (Tab.get_make _ i).trans ?_
    cases s.slg.holds.get i <;> rfl
  have hledger : (s.hushedAt []).slg.ledger = s.slg.ledger := Tab.ext_get fun i => by
    refine (Tab.get_make _ i).trans ?_
    rw [hnone]
    rfl
  have hdesks : (s.hushedAt []).slg.desks = s.slg.desks := Tab.ext_get fun d => by
    rw [hushedAt_desks, hnone]
    rfl
  have htouched : (s.hushedAt []).slg.touched = s.slg.touched := Tab.ext_get fun i => by
    refine (Tab.get_make _ i).trans ?_
    rw [hnone]
    exact Bool.or_false _
  have hlinks : (s.hushedAt []).links = s.links := by
    unfold State.hushedAt Links.deskTold
    simp only [List.filter_nil, List.map_nil, List.append_nil, posting_nil]
  calc s.hushedAt [] = { s.withTables (s.hushedAt []).slg.holds (s.hushedAt []).slg.ledger (s.hushedAt []).slg.desks
        (s.hushedAt []).slg.touched with links := (s.hushedAt []).links } := rfl
    _ = s := by rw [hholds, hledger, hdesks, htouched, hlinks]; rfl

theorem foldl_testDesk (s : State) : (fins 16).foldl (fun s d => testDesk d s) s = s.hushedAt (fins 16) := by
  have := foldl_done (g := fun s d => testDesk d s) (done := s.hushedAt) (fins 16) (List.nodup_finRange 16)
    fun m a ha => testDesk_hushedAt ha s
  rwa [hushedAt_nil] at this

/-! ## The three steps of a pulse (R50) -/

section Steps

variable {s : State}

theorem doHoldExpiry_eq (hi : s.slg.stage = .idle) (hp : 0 < s.links.pulseSlg) : doHoldExpiry s
    = (fun t : State => t.withSlg { t.slg with stage := .ages })
      ((s.withLinks { s.links with pulseSlg := s.links.pulseSlg - 1 }).expiredAt (fins 64)) := by
  unfold doHoldExpiry
  rw [if_pos ⟨hi, hp⟩, foldl_countHold]

/-- HOLD_EXPIRY: the holds in their last second dropped, the others counted down, the showings marked. -/
theorem expiredAt_fins (s : State) : s.expiredAt (fins 64) = { s.dropped lastSecond with
    slg := { (s.dropped lastSecond).slg with
      holds := (s.dropped lastSecond).slg.holds.map fun o => o.map Hold.ticked
      touched := Tab.make 96 fun i => s.slg.touched.get i || !(holdsWith (fun h => lastSecond h && h.slot == i) s.slg).isEmpty } } := by
  have hall (i : Fin 64) : i ∈ fins 64 := List.mem_finRange i
  have hholds : (Tab.make 64 fun i =>
        if i ∈ fins 64 then ((s.slg.holds.get i).filter fun h => !lastSecond h).map Hold.ticked else s.slg.holds.get i)
      = (s.dropped lastSecond).slg.holds.map fun o => o.map Hold.ticked := by
    refine Tab.ext_get fun i => ?_
    have hi : (s.dropped lastSecond).slg.holds.get i = (s.slg.holds.get i).filter fun h => !lastSecond h := Tab.get_make _ i
    rw [Tab.get_make, Tab.get_map, hi, if_pos (hall i)]
  unfold State.expiredAt
  rw [hholds]
  simp only [holdsAt_fins]
  rfl

theorem agingSlots_nodup (s : State) : (agingSlots s).Nodup := (List.nodup_finRange 96).filter _

theorem mem_agingSlots {i : Fin 96} : i ∈ agingSlots s ↔ (onSale (stateOf s i) && inLedger s i) = true := by
  unfold agingSlots
  rw [List.mem_filter]
  exact and_iff_right (List.mem_finRange i)

/-- The machine with the tally ages counted. -/
def State.aged (s : State) : State :=
  { s with
    slg := { s.slg with
      ledger := Tab.make 96 fun i =>
        if i ∈ agingSlots s then { s.slg.ledger.get i with A := satAdd 4095 (s.slg.ledger.get i).A 1 } else s.slg.ledger.get i } }

theorem doTallyStale_eq (hi : s.slg.stage = .ages) : doTallyStale s
    = (fun t : State => t.withSlg { t.slg with stage := .desks }) (s.aged.staledAt (agingSlots s)) := by
  unfold doTallyStale
  dsimp only
  rw [if_pos hi, foldl_testStale _ (agingSlots_nodup s), foldl_setLedger _ _ (agingSlots_nodup s)]
  rfl

/-- The age of a tally on a pulse. -/
def State.nextAge (s : State) (i : Fin 96) : Nat := min 4095 ((s.slg.ledger.get i).A + 1)

/-- A showing becomes stale on a pulse. -/
def State.dueAt (s : State) (i : Fin 96) : Bool :=
  (onSale (stateOf s i) && inLedger s i) && !(s.slg.ledger.get i).stale && decide (s.slg.staleLimit ≤ s.nextAge i)

theorem aged_record (s : State) (i : Fin 96) : s.aged.slg.ledger.get i = { s.slg.ledger.get i with
    A := if onSale (stateOf s i) && inLedger s i then s.nextAge i else (s.slg.ledger.get i).A } := by
  refine (Tab.get_make _ i).trans ?_
  by_cases hc : (onSale (stateOf s i) && inLedger s i) = true
  · rw [if_pos (mem_agingSlots.2 hc), if_pos hc]
    rfl
  · rw [if_neg (mem_agingSlots.not.2 hc), if_neg hc]

/-- A showing whose age counts is due as its counted age says. -/
theorem staleDue_aged (s : State) (i : Fin 96) : (decide (i ∈ agingSlots s) && staleDue s.aged i) = s.dueAt i := by
  by_cases hc : (onSale (stateOf s i) && inLedger s i) = true
  · have hin : inLedger s.aged i = inLedger s i := inLedger_congr (t := s.aged) (s := s) rfl rfl rfl (by rw [aged_record])
    have hstate : stateOf s.aged i = stateOf s i := rfl
    unfold staleDue State.dueAt
    rw [decide_eq_true (mem_agingSlots.2 hc), hin, hstate, aged_record, hc, if_pos rfl, Bool.true_and]
    rfl
  · unfold State.dueAt
    rw [decide_eq_false (mem_agingSlots.not.2 hc), Bool.eq_false_iff.2 hc]
    rfl

theorem aged_ledger (s : State) : (Tab.make 96 fun i => { s.aged.slg.ledger.get i with
      stale := (s.aged.slg.ledger.get i).stale || (decide (i ∈ agingSlots s) && staleDue s.aged i) })
    = Tab.make 96 fun i => { s.slg.ledger.get i with
      A := if onSale (stateOf s i) && inLedger s i then s.nextAge i else (s.slg.ledger.get i).A
      stale := (s.slg.ledger.get i).stale || s.dueAt i } := by
  refine Tab.ext_get fun i => ?_
  rw [Tab.get_make, Tab.get_make, staleDue_aged, aged_record]

theorem aged_touched (s : State) : (Tab.make 96 fun i => s.aged.slg.touched.get i || (decide (i ∈ agingSlots s) && staleDue s.aged i))
    = Tab.make 96 fun i => s.slg.touched.get i || s.dueAt i := by
  refine Tab.ext_get fun i => ?_
  rw [Tab.get_make, Tab.get_make, staleDue_aged]
  rfl

theorem aged_events (s : State) : ((agingSlots s).filter fun i => staleDue s.aged i).map (staleEvent s.aged)
    = ((fins 96).filter s.dueAt).map fun i => ⟨.stale, i.val, [showingId s i, s.nextAge i], s.lck.clock⟩ := by
  have hfilter : ((agingSlots s).filter fun i => staleDue s.aged i) = (fins 96).filter s.dueAt := by
    unfold agingSlots
    rw [List.filter_filter]
    refine List.filter_congr fun i _ => ?_
    rw [← staleDue_aged, Bool.and_comm]
    congr 1
    rw [Bool.eq_iff_iff, decide_eq_true_iff, mem_agingSlots]
  rw [hfilter]
  refine List.map_congr_left fun i hi => ?_
  have hd : s.dueAt i = true := (List.mem_filter.1 hi).2
  unfold State.dueAt at hd
  rw [Bool.and_eq_true, Bool.and_eq_true] at hd
  unfold staleEvent
  rw [aged_record, if_pos hd.1.1]
  rfl

theorem doDeskSilence_eq (hi : s.slg.stage = .desks) : doDeskSilence s
    = (fun u : State => u.withSlg { u.slg with stage := .idle, touched := Tab.fill 96 false })
      ((fun t : State => t.refiguredEach (touchedSlots t.slg) 0)
        ((s.withSlg { s.slg with desks := s.slg.desks.map countGap }).hushedAt (fins 16))) := by
  unfold doDeskSilence
  dsimp only
  rw [if_pos hi, foldl_testDesk, recomputeEach_eq_refiguredEach]

/-- The gap of a desk on a pulse. -/
def State.nextGap (s : State) (d : Fin 16) : Nat := min 255 ((s.slg.desks.get d).gap + 1)

/-- A desk falls silent on a pulse. -/
def State.silentAt (s : State) (d : Fin 16) : Bool := (s.slg.desks.get d).state == .opened && decide (s.slg.silenceLimit ≤ s.nextGap d)

/-- The machine with the gaps counted and every desk tested. -/
def State.hushed (s : State) : State := (s.withSlg { s.slg with desks := s.slg.desks.map countGap }).hushedAt (fins 16)

theorem countGap_get (d : Fin 16) : (s.slg.desks.map countGap).get d
    = if (s.slg.desks.get d).state = .opened then { s.slg.desks.get d with gap := s.nextGap d } else s.slg.desks.get d := Tab.get_map ..

theorem silenceDue_counted (s : State) : silenceDue (s.withSlg { s.slg with desks := s.slg.desks.map countGap }) = s.silentAt := by
  funext d
  unfold silenceDue State.silentAt
  rw [State.withSlg_slg]
  dsimp only
  rw [countGap_get]
  by_cases h : (s.slg.desks.get d).state = .opened
  · rw [if_pos h]
  · rw [if_neg h, beq_false_of_ne h]
    rfl

theorem lostHold_counted (s : State) :
    lostHold (s.withSlg { s.slg with desks := s.slg.desks.map countGap }) (fins 16) = fun h => s.silentAt h.desk := by
  have hall (d : Fin 16) : d ∈ fins 16 := List.mem_finRange d
  funext h
  unfold lostHold
  rw [silenceDue_counted, decide_eq_true (hall _), Bool.true_and]

/-- A desk after DESK_SILENCE. -/
theorem hushed_desks (s : State) : s.hushed.slg.desks = Tab.make 16 fun d =>
    if s.silentAt d then
      { (s.dropped fun h => s.silentAt h.desk).slg.desks.get d with state := .silent, gap := s.nextGap d, lastGap := s.nextGap d }
    else if (s.slg.desks.get d).state = .opened then
      { (s.dropped fun h => s.silentAt h.desk).slg.desks.get d with gap := s.nextGap d }
    else (s.dropped fun h => s.silentAt h.desk).slg.desks.get d := by
  have hall (d : Fin 16) : d ∈ fins 16 := List.mem_finRange d
  refine Tab.ext_get fun d => ?_
  refine (hushedAt_desks (fins 16) d).trans ?_
  have hdropped : (s.dropped fun h => s.silentAt h.desk).slg.desks.get d = { s.slg.desks.get d with
      owned := (s.slg.desks.get d).owned - (holdsWith (fun h => s.silentAt h.desk && h.desk == d) s.slg).length } := Tab.get_make _ d
  have hcounted : (s.withSlg { s.slg with desks := s.slg.desks.map countGap }).slg.desks.get d
      = if (s.slg.desks.get d).state = .opened then { s.slg.desks.get d with gap := s.nextGap d } else s.slg.desks.get d := countGap_get d
  rw [silenceDue_counted, lostHold_counted, decide_eq_true (hall d), Bool.true_and, Tab.get_make, hdropped, hcounted]
  dsimp only
  by_cases hs : s.silentAt d = true
  · have hopen : (s.slg.desks.get d).state = .opened := beq_iff_eq.1 (Bool.and_eq_true_iff.1 hs).1
    rw [if_pos hs, if_pos hs, if_pos hopen]
    rfl
  · rw [if_neg hs, if_neg hs]
    split <;> rfl

theorem hushed_touched (s : State) : s.hushed.slg.touched = Tab.make 96 fun i =>
    s.slg.touched.get i || !(holdsWith (fun h => s.silentAt h.desk && h.slot == i) s.slg).isEmpty := by
  refine Tab.ext_get fun i => ?_
  refine (Tab.get_make _ i).trans (Eq.trans ?_ (Tab.get_make _ i).symm)
  rw [lostHold_counted]
  rfl

theorem hushed_links (s : State) : s.hushed.links
    = s.links.deskTold (((fins 16).filter s.silentAt).map fun d =>
        ⟨.deskSilent, d.val, [s.nextGap d, (holdsWith (fun h => h.desk == d) s.slg).length], s.lck.clock⟩)
      (((fins 16).filter s.silentAt).map fun _ => mail .slg s ()) := by
  have hevents : ((fins 16).filter s.silentAt).map (silentEvent (s.withSlg { s.slg with desks := s.slg.desks.map countGap }))
      = ((fins 16).filter s.silentAt).map fun d =>
        ⟨.deskSilent, d.val, [s.nextGap d, (holdsWith (fun h => h.desk == d) s.slg).length], s.lck.clock⟩ := by
    refine List.map_congr_left fun d hd => ?_
    have hs : s.silentAt d = true := (List.mem_filter.1 hd).2
    have hopen : (s.slg.desks.get d).state = .opened := beq_iff_eq.1 (Bool.and_eq_true_iff.1 hs).1
    unfold silentEvent
    rw [State.withSlg_slg]
    dsimp only
    rw [countGap_get, if_pos hopen]
    rfl
  unfold State.hushed State.hushedAt
  dsimp only
  rw [silenceDue_counted, hevents]
  rfl

end Steps

/-- Settles O29: each step by its walk, done over all the holds, showings or desks. -/
theorem secondsReachTheLedger : Obligations.SecondsReachTheLedger := by
  unfold Obligations.SecondsReachTheLedger
  refine ⟨fun s hr hi hp => ?_, fun s hr hi => ?_, fun s hr hi => ?_⟩
  · intro t
    refine (running_next _ hr).trans (congrArg Host.Outcome.next ?_)
    rw [doHoldExpiry_eq hi hp, expiredAt_fins]
    rfl
  · intro counted age due
    refine (running_next _ hr).trans (congrArg Host.Outcome.next ?_)
    rw [doTallyStale_eq hi]
    unfold State.staledAt
    dsimp only
    rw [aged_ledger, aged_touched, aged_events]
    rfl
  · intro gap silent lost t u v
    refine (running_next _ hr).trans (congrArg Host.Outcome.next ?_)
    have hdropped : (s.hushed.slg.holds, s.hushed.slg.ledger) = (t.slg.holds, t.slg.ledger) := by
      have hlost := lostHold_counted s
      unfold State.hushed State.hushedAt
      dsimp only
      rw [hlost]
      rfl
    obtain ⟨hholds, hledger⟩ := Prod.mk.injEq .. ▸ hdropped
    have hu : s.hushed = u := by
      calc s.hushed = { s with
            slg := { s.slg with
              holds := s.hushed.slg.holds, ledger := s.hushed.slg.ledger, desks := s.hushed.slg.desks, touched := s.hushed.slg.touched }
            links := s.hushed.links } := rfl
        _ = u := by rw [hholds, hledger, hushed_desks, hushed_touched, hushed_links]; rfl
    have hslots : touchedSlots u.slg = (fins 96).filter fun i => s.slg.touched.get i || lost i := by
      refine List.filter_congr fun i _ => ?_
      exact Tab.get_make _ i
    have hex := doDeskSilence_eq hi
    have hhushed : (s.withSlg { s.slg with desks := s.slg.desks.map countGap }).hushedAt (fins 16) = u := hu
    rw [hhushed] at hex
    dsimp only at hex
    rw [hslots] at hex
    exact hex

end Sys2Proof.Machine
end

section
/-! PROOFS. The settings of the ledger (R33, R35, R51, R60, R181). -/

namespace Sys2Proof.Machine

/-- A SET of the item reaches its owner with the number in its value. -/
theorem set_leaves {b : Block} {item key clock : Nat} {bytes : List Byte} {rest : List Taken} {s u : State}
    {act : Nat → Nat → State → State} (h : Delivers b (.set item key bytes) clock rest s)
    (hu : act key (numAll bytes) (s.withFifo rest) = u) : running s (deliver b (pickSet item act)) = .next u :=
  deliver_leaves (act := fun _ => act key (numAll bytes)) h (if_pos rfl) hu

/-- Two walks agree that agree step by step on what the rest of the walk reads. -/
theorem foldl_congr_of {α β : Type} {f g : β → α → β} {I : List α → β → Prop} (h : ∀ a l t, I (a :: l) t → f t a = g t a ∧ I l (g t a))
    (l : List α) (t : β) (ht : I l t) : l.foldl f t = l.foldl g t := by
  induction l generalizing t with
  | nil => rfl
  | cons a l ih =>
    obtain ⟨heq, hrest⟩ := h a l t ht
    rw [List.foldl_cons, List.foldl_cons, heq, ih _ hrest]

/-- A setting of the seat computation stored: the showings that the ledger has are recomputed. -/
theorem applyFigureSetting_eq (store : Slg → Slg) (s : State) :
    applyFigureSetting store s = (s.withSlg (store s.slg)).refiguredEach (ledgerSlots s) 14 := recomputeEach_eq_refiguredEach ..

/-- What the test of the showings of a list against a new limit reads is as in `s`. -/
structure Untested (s : State) (limit : Nat) (l : List (Fin 96)) (t : State) : Prop where
  sch : t.sch = s.sch
  requests : t.links.schSlg = s.links.schSlg
  taken : t.taken = s.taken
  clock : t.lck = s.lck
  limit : t.slg.staleLimit = limit
  nodup : l.Nodup
  had : ∀ i ∈ l, inLedger s i = true
  records : ∀ i ∈ l, t.slg.ledger.get i = s.slg.ledger.get i

section Test

variable {s t : State} {limit : Nat} {i : Fin 96} {l : List (Fin 96)}

/-- A change of one record, with its key recomputed, leaves the records of the rest. -/
theorem Untested.refigured (h : Untested s limit (i :: l) t) {u : State} {f : Ledger → Ledger} {st : ShowState} {cause : Nat}
    (hslg : u.slg = { t.slg with ledger := t.slg.ledger.modify i f }) (hsch : u.sch = t.sch) (hreq : u.links.schSlg = t.links.schSlg)
    (htaken : u.taken = t.taken) (hlck : u.lck = t.lck) : Untested s limit l (u.refigured st i cause) := by
  obtain ⟨hi, hl⟩ := List.nodup_cons.1 h.nodup
  refine ⟨hsch.trans h.sch, hreq.trans h.requests, htaken.trans h.taken, hlck.trans h.clock, ?_, hl,
    fun j hj => h.had j (List.mem_cons_of_mem _ hj), fun j hj => ?_⟩
  · have : (u.refigured st i cause).slg.staleLimit = u.slg.staleLimit := rfl
    rw [this, hslg]
    exact h.limit
  · have hne : i ≠ j := fun e => hi (e ▸ hj)
    have hset : (u.refigured st i cause).slg.ledger.get j = u.slg.ledger.get j := Tab.get_set_ne _ _ hne
    rw [hset, hslg]
    exact (Tab.get_modify_ne _ _ hne).trans (h.records j (List.mem_cons_of_mem _ hj))

theorem Untested.tail (h : Untested s limit (i :: l) t) : Untested s limit l t :=
  ⟨h.sch, h.requests, h.taken, h.clock, h.limit, (List.nodup_cons.1 h.nodup).2, fun j hj => h.had j (List.mem_cons_of_mem _ hj),
    fun j hj => h.records j (List.mem_cons_of_mem _ hj)⟩

/-- A showing made stale, with its event. -/
def State.staled (t : State) (s : State) (i : Fin 96) : State :=
  { t with
    slg := { t.slg with ledger := t.slg.ledger.modify i fun l => { l with stale := true } }
    links := t.links.posting .slg [⟨.stale, i.val, [showingId s i, (s.slg.ledger.get i).A], s.lck.clock⟩] }

/-- A showing made fresh. -/
def State.unstaled (t : State) (i : Fin 96) : State :=
  { t with slg := { t.slg with ledger := t.slg.ledger.modify i fun l => { l with stale := false } } }

/-- One showing tested against the new limit, by its record before the SET. -/
def staleTest (s : State) (limit : Nat) (t : State) (i : Fin 96) : State :=
  if (s.slg.ledger.get i).stale = false ∧ limit ≤ (s.slg.ledger.get i).A ∧ onSale (stateOf s i) = true then
    (t.staled s i).refigured (stateOf s i) i 14
  else if (s.slg.ledger.get i).stale = true ∧ (s.slg.ledger.get i).A < limit then (t.unstaled i).refigured (stateOf s i) i 14
  else t

theorem inLedger_changed {u : State} {f : Ledger → Ledger} (h : Untested s limit (i :: l) t)
    (hslg : u.slg = { t.slg with ledger := t.slg.ledger.modify i f }) (hsch : u.sch = t.sch) (hreq : u.links.schSlg = t.links.schSlg)
    (htaken : u.taken = t.taken) (hf : ∀ l, (f l).C = l.C) : inLedger u i = true := by
  refine (inLedger_congr (t := u) (s := s) (hsch.trans h.sch) (hreq.trans h.requests) (htaken.trans h.taken) ?_).trans
    (h.had i List.mem_cons_self)
  rw [hslg]
  show ((t.slg.ledger.modify i f).get i).C = _
  rw [Tab.get_modify_same, hf, h.records i List.mem_cons_self]

theorem testStale_step (h : Untested s limit (i :: l) t) : testStale i t = staleTest s limit t i ∧ Untested s limit l (staleTest s limit t i) := by
  have hrecord := h.records i List.mem_cons_self
  have hstate : stateOf t i = stateOf s i := by
    unfold stateOf
    rw [h.sch]
  have hin : inLedger t i = true := by
    refine (inLedger_congr (t := t) (s := s) h.sch h.requests h.taken ?_).trans (h.had i List.mem_cons_self)
    rw [hrecord]
  have hdue : staleDue t i = true
      ↔ (s.slg.ledger.get i).stale = false ∧ limit ≤ (s.slg.ledger.get i).A ∧ onSale (stateOf s i) = true := by
    unfold staleDue
    rw [hin, hrecord, hstate, h.limit]
    simp only [Bool.and_eq_true, decide_eq_true_iff, Bool.not_eq_true']
    tauto
  unfold testStale staleTest
  by_cases hd : staleDue t i = true
  · have hid : showingId t i = showingId s i := by
      unfold showingId
      rw [h.sch]
    have hstaled : becomeStale i t = t.staled s i := by
      unfold becomeStale State.staled
      dsimp only
      rw [hrecord, hid, ← h.clock]
      rfl
    have hin' : inLedger (t.staled s i) i = true := inLedger_changed h rfl rfl rfl rfl fun _ => rfl
    rw [if_pos hd, if_pos (hdue.1 hd), hstaled, recompute_inLedger hin']
    have hst : stateOf (t.staled s i) i = stateOf s i := hstate
    rw [hst]
    exact ⟨rfl, h.refigured rfl rfl rfl rfl rfl⟩
  · rw [if_neg hd, if_neg (hdue.not.1 hd), hrecord, h.limit]
    by_cases hfresh : (s.slg.ledger.get i).stale = true ∧ (s.slg.ledger.get i).A < limit
    · have hin' : inLedger (t.unstaled i) i = true := inLedger_changed h rfl rfl rfl rfl fun _ => rfl
      have hset : setLedger i (fun l => { l with stale := false }) t = t.unstaled i := rfl
      have hst : stateOf (t.unstaled i) i = stateOf s i := hstate
      rw [if_pos hfresh, if_pos hfresh, hset, recompute_inLedger hin', hst]
      exact ⟨rfl, h.refigured rfl rfl rfl rfl rfl⟩
    · rw [if_neg hfresh, if_neg hfresh]
      exact ⟨rfl, h.tail⟩

theorem applyStaleLimit_eq (v : Nat) (s : State) : applyStaleLimit v s
    = (ledgerSlots s).foldl (staleTest s (clamp 10 4000 v)) (s.withSlg { s.slg with staleLimit := clamp 10 4000 v }) :=
  foldl_congr_of (I := Untested s (clamp 10 4000 v)) (fun _ _ _ h => testStale_step h) _ _
    ⟨rfl, rfl, rfl, rfl, rfl, (List.nodup_finRange 96).filter _, fun _ hi => (List.mem_filter.1 hi).2, fun _ _ => rfl⟩

end Test

/-- Settles O53: each item by the equation of its SET. -/
theorem ledgerSettings : Obligations.LedgerSettings := by
  unfold Obligations.LedgerSettings
  intro item key clock bytes rest s hdel v s' store slots
  refine ⟨fun h => ?_, fun h => ?_, fun h => ?_, fun h => ?_, fun h => ?_, fun h => ?_, fun h hv => ?_, fun h h5 h10 h25 h50 => ?_, fun h => ?_⟩
  all_goals subst h
  · exact set_leaves (act := fun _ v s => s.withSlg { s.slg with holdPeriod := clamp 30 1800 v }) hdel rfl
  · exact set_leaves (act := fun _ v s => s.withSlg { s.slg with silenceLimit := clamp 5 250 v }) hdel rfl
  · exact set_leaves (act := fun _ v s => s.withSlg { s.slg with soldoutLifetime := clamp 5 600 v }) hdel rfl
  · exact set_leaves (act := fun _ v => applyFigureSetting fun g => { g with exactLimit := clamp 1 99 v }) hdel (applyFigureSetting_eq ..)
  · exact set_leaves (act := fun _ v => applyFigureSetting fun g => { g with plentyLimit := clamp 1 999 v }) hdel (applyFigureSetting_eq ..)
  · exact set_leaves (act := fun _ v => applyFigureSetting fun g => { g with fastPct := clamp 50 100 v }) hdel (applyFigureSetting_eq ..)
  · exact set_leaves (act := fun _ v => applyStep v) hdel ((if_pos hv).trans (applyFigureSetting_eq ..))
  · exact set_leaves (act := fun _ v => applyStep v) hdel (if_neg (by omega))
  · intro limit
    exact set_leaves (act := fun _ v => applyStaleLimit v) hdel (applyStaleLimit_eq ..)

end Sys2Proof.Machine
end

section
/-! PROOFS. The figure and the texts (R56 to R65, R68, R132): each text by its cases, and a line cell by cell. -/

namespace Sys2Proof.Machine

/-! ## The figure case (R56 to R58) -/

section Figure

variable {f : FigureSettings} {st : ShowState} {l : Ledger}

theorem figureOf_shown (h : st = .running ∨ st = .cancelled) : figureOf f st l = (.stateShown, 0) := if_pos h

theorem figureOf_stale (h : ¬ (st = .running ∨ st = .cancelled)) (hs : l.stale = true) : figureOf f st l = (.askAtDesk, 0) :=
  (if_neg h).trans (if_pos hs)

theorem figureOf_full (h : ¬ (st = .running ∨ st = .cancelled)) (hs : l.stale = false) (hL : seatsLeft l = 0) :
    figureOf f st l = if l.H = 0 then (.soldOut, 0) else (.fullCheckBack, 0) := by
  refine (if_neg h).trans ((if_neg (by simp [hs])).trans ?_)
  by_cases hH : l.H = 0
  · rw [if_pos ⟨hL, hH⟩, if_pos hH]
  · rw [if_neg fun h => hH h.2, if_pos hL, if_neg hH]

/-- With seats left, the limits decide. -/
theorem figureOf_left (h : ¬ (st = .running ∨ st = .cancelled)) (hs : l.stale = false) (hL : 0 < seatsLeft l) : figureOf f st l
    = if f.plentyLimit ≤ seatsLeft l then (.goodAvailability, 0)
      else if seatsLeft l ≤ f.exactLimit ∨ seatsLeft l / f.step * f.step = 0 then (.exact, seatsLeft l)
      else (.rounded, seatsLeft l / f.step * f.step) := by
  have hne : seatsLeft l ≠ 0 := hL.ne'
  refine (if_neg h).trans ((if_neg (by simp [hs])).trans ((if_neg fun h => hne h.1).trans ((if_neg hne).trans ?_)))
  by_cases hplenty : f.plentyLimit ≤ seatsLeft l
  · rw [if_pos hplenty, if_pos hplenty]
  · rw [if_neg hplenty, if_neg hplenty]
    by_cases hexact : seatsLeft l ≤ f.exactLimit
    · rw [if_pos hexact, if_pos (.inl hexact)]
    · rw [if_neg hexact]
      simp only [hexact, false_or]

theorem badgeOf_iff : badgeOf f st l = true
    ↔ f.fastPct ≤ seatFill l ∧ 0 < seatsLeft l ∧ l.stale = false ∧ (st = .opened ∨ st = .boarding) := by
  unfold badgeOf
  simp only [Bool.and_eq_true, Bool.or_eq_true, decide_eq_true_iff, Bool.not_eq_true', beq_iff_eq, and_assoc]

end Figure

/-! ## Numbers and times (R61) -/

/-- With fuel above the number, more makes no difference. -/
theorem digitsFuel_of_lt {k n : Nat} (h : n < k) : digitsFuel k n = digits n := by
  unfold digits
  induction k using Nat.strong_induction_on generalizing n with
  | _ k ih =>
    cases k with
    | zero => omega
    | succ k =>
      unfold digitsFuel
      by_cases hn : n < 10
      · rw [if_pos hn, if_pos hn]
      · have hk : n / 10 < k := by omega
        have hn' : n / 10 < n := by omega
        rw [if_neg hn, if_neg hn, ih k (Nat.lt_succ_self k) hk, ih n h hn']

theorem digits_small {n : Nat} (h : n < 10) : digits n = [48 + n] := if_pos h

theorem digits_large {n : Nat} (h : 10 ≤ n) : digits n = digits (n / 10) ++ [48 + n % 10] := by
  rw [← digitsFuel_of_lt (show n / 10 < n by omega)]
  exact if_neg (by omega)

theorem twoDigits_eq {n : Nat} (h : n < 100) : twoDigits n = [48 + n / 10, 48 + n % 10] := by
  unfold twoDigits
  rw [Nat.mod_eq_of_lt (show n / 10 < 10 by omega)]

theorem timeText_twelve (s : State) (t : Nat) : timeText s true t
    = digits (if t / 3600 % 24 % 12 = 0 then 12 else t / 3600 % 24 % 12) ++ [58] ++ twoDigits (t % 3600 / 60)
      ++ s.cmp.phrases.get (if t / 3600 % 24 < 12 then 29 else 30) := by
  rw [apply_ite s.cmp.phrases.get]
  rfl

/-! ## Field texts (R62, R63) -/

section Fields

variable {s : State} {slot : Fin 96}

theorem fieldText_empty (h : (s.sch.showings.get slot).state = .empty) (k : FieldKind) : fieldText s slot k = [] := if_pos h

theorem inCountdown_iff (s : State) (sh : Showing) : inCountdown s sh = true ↔ (sh.state = .opened ∨ sh.state = .boarding)
    ∧ s.lck.clock < sh.start ∧ sh.start - s.lck.clock ≤ s.sch.countdownWindow := by
  unfold inCountdown
  simp only [Bool.and_eq_true, Bool.or_eq_true, decide_eq_true_iff, beq_iff_eq, and_assoc]

theorem timeField_counting {sh : Showing} (h : inCountdown s sh = true) :
    timeField s sh = phrase s 27 ++ digits ((sh.start - s.lck.clock + 59) / 60) ++ phrase s 28 := if_pos h

theorem timeField_still {sh : Showing} (h : ¬ inCountdown s sh = true) : timeField s sh = match sh.state with
    | .running => phrase s 32
    | .cancelled => phrase s 33
    | _ => timeText s s.cmp.twelveHour sh.start := if_neg h

theorem timeField_running {sh : Showing} (h : sh.state = .running) : timeField s sh = phrase s 32 := by
  rw [timeField_still (by rw [inCountdown_iff]; simp [h]), h]

theorem timeField_cancelled {sh : Showing} (h : sh.state = .cancelled) : timeField s sh = phrase s 33 := by
  rw [timeField_still (by rw [inCountdown_iff]; simp [h]), h]

theorem timeField_plain {sh : Showing} (h : ¬ inCountdown s sh = true) (hr : sh.state ≠ .running) (hc : sh.state ≠ .cancelled) :
    timeField s sh = timeText s s.cmp.twelveHour sh.start := by
  rw [timeField_still h]
  cases hst : sh.state <;> simp_all

theorem fieldText_some (h : (s.sch.showings.get slot).state ≠ .empty) (k : FieldKind) : fieldText s slot k =
    match k with
    | .time => timeField s (s.sch.showings.get slot)
    | .titleLong => (titleEntry s (s.sch.showings.get slot)).long
    | .titleShort => (titleEntry s (s.sch.showings.get slot)).short
    | .auditorium => phrase s 36 ++ digits ((s.sch.showings.get slot).auditorium.getD 0)
    | .format => phrase s (formatPhrase (s.sch.showings.get slot).format)
    | .rating => phrase s (ratingPhrase (s.sch.showings.get slot).rating)
    | .subtitle => if (s.sch.showings.get slot).subtitled then phrase s 20 else []
    | .seats => seatsText s (figureNow s slot)
    | .badge => if (figureNow s slot).badge then phrase s 26 else []
    | .state =>
      match (s.sch.showings.get slot).state with
      | .boarding => phrase s 31
      | .running => phrase s 32
      | .cancelled => phrase s 33
      | _ => [] := by
  refine (if_neg h).trans ?_
  cases k <;> rfl

theorem titleEntry_some {sh : Showing} {i : Fin 64} (h : sh.title = some i) : titleEntry s sh = s.sch.titles.get i := by
  unfold titleEntry
  rw [h]

end Fields

/-! ## Lines (R64, R65) -/

section Lines

variable {s : State} {slot : Fin 96}

theorem padText_length (w : Nat) (right : Bool) (text : List Nat) : (padText w right text).length = w := by
  unfold padText
  dsimp only
  split <;> simp only [List.length_append, List.length_replicate, List.length_take] <;> omega

theorem overlay_length (row : List Cell) (start : Nat) (cells : List Cell) : (overlay row start cells).length = row.length :=
  List.length_mapIdx

theorem formatLine_snoc (ink paper : Nat) (fields : List StyleField) (f : StyleField) :
    formatLine s slot ⟨ink, paper, fields ++ [f]⟩ = writeField s slot (formatLine s slot ⟨ink, paper, fields⟩) f :=
  List.foldl_append

theorem formatLine_length (ink paper : Nat) (fields : List StyleField) : (formatLine s slot ⟨ink, paper, fields⟩).length = 64 := by
  induction fields using List.reverseRecOn with
  | nil => exact List.length_replicate
  | append_singleton fields f ih =>
    rw [formatLine_snoc]
    exact (overlay_length ..).trans ih

/-- A cell of a row with cells written over it from a column on. -/
theorem overlay_getElem? {row cells : List Cell} {start i : Nat} (hi : i < row.length) : (overlay row start cells)[i]?
    = if start ≤ i ∧ i < start + cells.length then cells[i - start]? else row[i]? := by
  have hrow : row[i]? = some row[i] := List.getElem?_eq_getElem hi
  unfold overlay
  rw [List.getElem?_mapIdx, hrow, Option.map_some]
  by_cases hs : start ≤ i
  · by_cases hc : i < start + cells.length
    · rw [if_pos hs, if_pos ⟨hs, hc⟩, List.getD_eq_getElem cells _ (by omega), List.getElem?_eq_getElem (by omega)]
    · rw [if_pos hs, if_neg fun h => hc h.2, List.getD_eq_default cells _ (by omega)]
  · rw [if_neg hs, if_neg fun h => hs h.1]

theorem alignsRight_iff (k : FieldKind) (a : Alignment) :
    alignsRight k a = true ↔ a = .right ∨ (a = .natural ∧ (k = .seats ∨ k = .auditorium)) := by
  cases a <;> simp [alignsRight]

/-- A cell of a line with one field more: that of the field within it, that of the line before elsewhere. -/
theorem formatLine_cell (ink paper : Nat) (fields : List StyleField) (f : StyleField) {i : Nat} (hi : i < 64) :
    (formatLine s slot ⟨ink, paper, fields ++ [f]⟩)[i]? = if f.start ≤ i ∧ i < f.start + f.width
      then ((padText f.width (alignsRight f.kind f.alignment) (fieldText s slot f.kind))[i - f.start]?).map fun g =>
        ⟨g, f.ink, f.paper, false, f.blink, f.underline⟩
      else (formatLine s slot ⟨ink, paper, fields⟩)[i]? := by
  rw [formatLine_snoc]
  refine (overlay_getElem? (by rw [formatLine_length]; exact hi)).trans ?_
  rw [List.length_map, padText_length, List.getElem?_map]

end Lines

/-! ## Notice lines and the lines of jobs (R68, R132) -/

section Notices

variable {s : State} {e : Fin 24} {n : Notice}

theorem lineCount_free (h : s.ntc.entries.get e = none) : lineCount s e = 0 := by
  unfold lineCount
  rw [h]

theorem noticeLine_free (h : s.ntc.entries.get e = none) (k : Nat) : noticeLine s e k = [] := by
  unfold noticeLine
  rw [h]

theorem lineCount_lines {l : List (List Nat)} (h : s.ntc.entries.get e = some n) (hl : n.content = .lines l) : lineCount s e = l.length := by
  unfold lineCount
  rw [h]
  dsimp only
  rw [hl]

theorem noticeLine_lines {l : List (List Nat)} (h : s.ntc.entries.get e = some n) (hl : n.content = .lines l) (k : Nat) :
    noticeLine s e (k + 1) = l.getD k [] := by
  unfold noticeLine
  rw [h]
  dsimp only
  rw [hl]
  rfl

theorem lineCount_template {t : Option (Fin 8)} (h : s.ntc.entries.get e = some n) (ht : n.content = .template t) :
    lineCount s e = (templateLines s t).length := by
  unfold lineCount
  rw [h]
  dsimp only
  rw [ht]

theorem noticeLine_template {t : Option (Fin 8)} (h : s.ntc.entries.get e = some n) (ht : n.content = .template t) (k : Nat) :
    noticeLine s e k = ((((templateLines s t).getD (k - 1) []).map (itemText s n.linked)).flatten).take 64 := by
  unfold noticeLine
  rw [h]
  dsimp only
  rw [ht]

theorem itemText_eq (s : State) (slot : Option (Fin 96)) (x : TemplateItem) : itemText s slot x = match x with
    | .phrase p => s.cmp.phrases.get p
    | .field kind => (slot.map fun slot => fieldText s slot kind).getD [] := by
  cases x with
  | phrase p => rfl
  | field k => cases slot <;> rfl

end Notices

theorem clockTwelve_eq (s : State) (f : ClockForm) : clockTwelve s f = (f == .h12 || (f == .follow && s.cmp.twelveHour)) := by
  cases f <;> rfl

/-- Settles O23: the figure by its conditions, the texts by their cases, a line by its last field, a source by its kind. -/
theorem figureCases : Obligations.FigureCases := by
  unfold Obligations.FigureCases
  refine ⟨fun f st l => ?_, ⟨fun n => ⟨digits_small, digits_large, twoDigits_eq⟩, fun s t => ⟨rfl, timeText_twelve s t⟩⟩,
    fun s slot => ?_, fun s slot ink paper fields f => ?_, fun s e => ⟨fun h => ⟨lineCount_free h, noticeLine_free h⟩, fun n h => ?_⟩,
    fun s count ink paper => ?_⟩
  · intro L q
    refine ⟨figureOf_shown, fun hr hc => ?_, rfl, badgeOf_iff⟩
    have hst : ¬ (st = .running ∨ st = .cancelled) := fun h => h.elim hr hc
    refine ⟨figureOf_stale hst, figureOf_full hst, fun hs hL hplenty => ?_, fun hs hL hplenty hexact => ?_, fun hs hplenty hexact hq => ?_⟩
    · exact (figureOf_left hst hs hL).trans (if_pos hplenty)
    · exact (figureOf_left hst hs hL).trans ((if_neg hplenty.not_ge).trans (if_pos hexact))
    · exact (figureOf_left hst hs (Nat.zero_lt_of_lt hexact)).trans ((if_neg hplenty.not_ge).trans
        (if_neg fun h => h.elim hexact.not_ge hq.ne'))
  · intro sh said left counts l k
    refine ⟨fieldText_empty, fun hne => ?_⟩
    have htext := fieldText_some (s := s) (slot := slot) hne
    refine ⟨fun hc => ?_, fun hst => ?_, fun hst => ?_, fun hc hr hcan => ?_, fun i hi => ?_, fun n hn => ?_, ?_, fun q hq => ?_,
      htext .subtitle, ?_, htext .badge, htext .state⟩
    · exact (htext .time).trans (timeField_counting ((inCountdown_iff s sh).2 hc))
    · exact (htext .time).trans (timeField_running hst)
    · exact (htext .time).trans (timeField_cancelled hst)
    · exact (htext .time).trans (timeField_plain ((inCountdown_iff s sh).not.2 hc) hr hcan)
    · have htitle := titleEntry_some (s := s) hi
      exact ⟨(htext .titleLong).trans (congrArg Title.long htitle), (htext .titleShort).trans (congrArg Title.short htitle)⟩
    · refine (htext .auditorium).trans ?_
      have hn' : (s.sch.showings.get slot).auditorium = some n := hn
      dsimp only
      rw [hn']
      rfl
    · refine (htext .format).trans ?_
      show phrase s (formatPhrase sh.format) = _
      cases sh.format <;> rfl
    · have hphrase : ratingPhrase sh.rating = q := Fin.ext hq.symm
      exact (htext .rating).trans (congrArg (phrase s) hphrase)
    · refine (htext .seats).trans ?_
      show seatsText s k = _
      unfold seatsText
      cases k.figure <;> rfl
  · intro line cut pad right
    refine ⟨rfl, formatLine_length .., fun i hi => ?_⟩
    refine (formatLine_cell ink paper fields f hi).trans ?_
    have hpad : padText f.width (alignsRight f.kind f.alignment) (fieldText s slot f.kind) = if right then pad ++ cut else cut ++ pad :=
      if_congr (alignsRight_iff ..) rfl rfl
    rw [hpad]
  · refine ⟨fun l hl => ⟨lineCount_lines h hl, fun k => ?_⟩, fun ht => ⟨lineCount_template h ht, fun k => ?_⟩, fun i ht => ?_⟩
    · rw [noticeLine_lines h hl]
      exact ⟨fun text hk => by rw [List.getD_eq_getElem?_getD, hk]; rfl, fun hk => by rw [List.getD_eq_getElem?_getD, hk]; rfl⟩
    · rw [noticeLine_template h ht]
      rfl
    · intro l
      refine ⟨lineCount_template h ht, fun k => ?_⟩
      have hline := noticeLine_template h ht (k + 1)
      have hitems : itemText s n.linked = fun x => match x with
          | .phrase p => s.cmp.phrases.get p
          | .field kind => (n.linked.map fun slot => fieldText s slot kind).getD [] := funext fun x => (itemText_eq ..).trans (by cases x <;> rfl)
      have hlines : (templateLines s (some i)).getD (k + 1 - 1) [] = (l[k]?).getD [] := List.getD_eq_getElem?_getD
      rw [hlines] at hline
      refine ⟨fun items hk => ?_, fun hk => ?_⟩
      · rw [hline, hk, hitems]
        rfl
      · rw [hline, hk]
        rfl
  · intro cells opened
    have hdesks : openDesks s = opened := List.filter_congr fun d _ => rfl
    refine ⟨fun p => rfl, fun e k => rfl, ?_, fun form => ?_, fun c => rfl, fun r => rfl, rfl⟩
    · show some (textCells count ink paper (deskText s)) = _
      unfold deskText
      rw [hdesks]
      rfl
    · show some (textCells count ink paper (clockText s form)) = _
      unfold clockText
      rw [clockTwelve_eq]
      rfl

end Sys2Proof.Machine
end

section
/-! PROOFS. Dirty marks, pages and view changes (R75, R105, R108 to R111, R115): the panels of the composition unit, all at once. -/

namespace Sys2Proof.Machine

/-! ## The panels, all at once -/

/-- The machine with the composition states of the panels replaced. -/
def State.withPanels (s : State) (t : Tab 8 CmpPanel) : State := { s with cmp := { s.cmp with panels := t } }

section Panels

variable {s : State} {t : Tab 8 CmpPanel} {p : Fin 8}

theorem withPanels_self : s.withPanels s.cmp.panels = s := rfl

theorem cmpPanel_withPanels : cmpPanel (s.withPanels t) p = t.get p := rfl

theorem viewLayout_withPanels (h : t.get p = cmpPanel s p) : viewLayout (s.withPanels t) p = viewLayout s p := by
  unfold viewLayout
  rw [cmpPanel_withPanels, h]
  rfl

theorem setCmpPanel_eq (f : CmpPanel → CmpPanel) : setCmpPanel p f s = s.withPanels (s.cmp.panels.set p (f (cmpPanel s p))) := rfl

theorem setCmpPanel_withPanels (f : CmpPanel → CmpPanel) : setCmpPanel p f (s.withPanels t) = s.withPanels (t.set p (f (t.get p))) := rfl

/-- A walk over the panels that replaces each by a function of what the panel was. -/
theorem foldl_panels {g : Fin 8 → State → State} {h : Fin 8 → CmpPanel}
    (hg : ∀ p t, t.get p = cmpPanel s p → g p (s.withPanels t) = s.withPanels (t.set p (h p))) :
    (fins 8).foldl (fun s p => g p s) s = s.withPanels (Tab.make 8 h) := by
  have hall (p : Fin 8) : p ∈ fins 8 := List.mem_finRange p
  have hnil : s.withPanels (Tab.make 8 fun p => if p ∈ ([] : List (Fin 8)) then h p else cmpPanel s p) = s := by
    have : (Tab.make 8 fun p => if p ∈ ([] : List (Fin 8)) then h p else cmpPanel s p) = s.cmp.panels :=
      Tab.ext_get fun p => by rw [Tab.get_make, if_neg List.not_mem_nil]; rfl
    rw [this, withPanels_self]
  have := foldl_done (g := fun s p => g p s) (done := fun l => s.withPanels (Tab.make 8 fun p => if p ∈ l then h p else cmpPanel s p))
    (fins 8) (List.nodup_finRange 8) fun m a ha => by
      have htab : (Tab.make 8 fun p => if p ∈ m then h p else cmpPanel s p).set a (h a)
          = Tab.make 8 fun p => if p ∈ m ++ [a] then h p else cmpPanel s p := by
        refine Tab.ext_get fun p => ?_
        rw [Tab.get_set, Tab.get_make, Tab.get_make]
        by_cases hp : a = p
        · subst hp
          simp
        · simp [hp, Ne.symm hp]
      rw [hg a _ (by rw [Tab.get_make, if_neg ha]), htab]
  rw [hnil] at this
  rw [this]
  simp only [hall, if_true]

end Panels

/-! ## Marks (R109, R115) -/

section Marks

theorem markAll_eq (pick : Fin 8 → Nat → Pane → Bool) (s : State) : markAll pick s = s.marked pick := by
  refine foldl_panels fun p t h => ?_
  unfold markOn
  rw [setCmpPanel_withPanels, viewLayout_withPanels h, h]

theorem markOn_eq (p : Fin 8) (pick : Nat → Pane → Bool) (s : State) : markOn p pick s = { s with cmp := { s.cmp with
    panels := s.cmp.panels.set p (markPanes (viewLayout s p) pick (cmpPanel s p)) } } := rfl

theorem markList_length (c : CmpPanel) (earlier : List Pane) (l : List (Pane × Bool)) : (markList c earlier l).length = l.length := by
  induction l generalizing earlier with
  | nil => rfl
  | cons x l ih => exact congrArg (· + 1) (ih _)

/-- A pane is marked if it has cells and is named, or shares a cell with a pane marked before it. -/
theorem markList_iff (c : CmpPanel) (earlier : List Pane) (l : List (Pane × Bool)) {i : Nat} {x : Pane} {named : Bool}
    (h : l[i]? = some (x, named)) : (markList c earlier l).getD i false = true ↔ hasCells c x = true ∧ (named = true
      ∨ (∃ y ∈ earlier, shareCell c y x = true)
      ∨ ∃ j < i, ∃ y b, l[j]? = some (y, b) ∧ (markList c earlier l).getD j false = true ∧ shareCell c y x = true) := by
  induction l generalizing earlier i with
  | nil => cases h
  | cons z l ih =>
    obtain ⟨z, named'⟩ := z
    cases i with
    | zero =>
      obtain ⟨rfl, rfl⟩ := Prod.mk.inj (Option.some.inj h)
      simp [markList]
    | succ i =>
      have hl : l[i]? = some (x, named) := h
      unfold markList
      dsimp only
      rw [List.getD_cons_succ, ih _ hl]
      refine and_congr_right fun _ => or_congr_right ?_
      generalize hm : (hasCells c z && (named' || earlier.any fun y => shareCell c y z)) = m
      generalize markList c (if m = true then z :: earlier else earlier) l = rest
      constructor
      · rintro (⟨y, hy, hs⟩ | ⟨j, hj, y, b, hy, hmark, hs⟩)
        · cases m with
          | false => exact .inl ⟨y, hy, hs⟩
          | true =>
            rcases List.mem_cons.1 hy with rfl | hy
            · exact .inr ⟨0, Nat.succ_pos i, y, named', rfl, rfl, hs⟩
            · exact .inl ⟨y, hy, hs⟩
        · exact .inr ⟨j + 1, Nat.succ_lt_succ hj, y, b, hy, hmark, hs⟩
      · rintro (⟨y, hy, hs⟩ | ⟨j, hj, y, b, hy, hmark, hs⟩)
        · refine .inl ⟨y, ?_, hs⟩
          split
          · exact List.mem_cons_of_mem _ hy
          · exact hy
        · cases j with
          | zero =>
            obtain ⟨rfl, -⟩ := Prod.mk.inj (Option.some.inj hy)
            have hm' : m = true := hmark
            exact .inl ⟨z, by simp [hm'], hs⟩
          | succ j => exact .inr ⟨j, Nat.lt_of_succ_lt_succ hj, y, b, hy, hmark, hs⟩

theorem contains_true_iff (l : List Bool) : l.contains true = true ↔ ∃ i, l.getD i false = true := by
  rw [List.contains_iff_mem, List.mem_iff_getElem?]
  refine exists_congr fun i => ?_
  rw [List.getD_eq_getElem?_getD]
  cases l[i]? <;> simp

theorem onMark_eq (b : BuildState) : b.onMark = if b = .syncing then .syncing else .dirty := by
  cases b <;> rfl

end Marks

/-! ## The causes of marks (R4, R108, R109, R125) -/

section Causes

variable {s : State} {ep : Nat}

theorem doDeskChange_eq {rest : List (Mail Unit)} (hq : s.links.slgCmp = ⟨ep, ()⟩ :: rest) (hf : s.taken.get (blockIx .cmp) ≤ ep) :
    doDeskChange s = markAll (fun _ _ x => isDeskStrip x) (s.withLinks { s.links with slgCmp := rest }) := by
  unfold doDeskChange
  rw [hq]
  exact if_pos (decide_eq_true hf)

theorem doNoticeContentChange_eq {p : Fin 8} {rest : List (Mail ToCmp)} (hq : s.links.ntcCmp = ⟨ep, .content p⟩ :: rest)
    (hf : s.taken.get (blockIx .cmp) ≤ ep) : doNoticeContentChange s
    = markOn p (fun _ x => isNoticeText x) (s.withLinks { s.links with ntcCmp := rest }) := by
  unfold doNoticeContentChange
  rw [hq]
  exact if_pos (decide_eq_true hf)

theorem doViewChange_eq {v : ViewChange} {rest : List (Mail ToCmp)} (hq : s.links.ntcCmp = ⟨ep, .view v⟩ :: rest)
    (hf : s.taken.get (blockIx .cmp) ≤ ep) : doViewChange s = applyView v (s.withLinks { s.links with ntcCmp := rest }) := by
  unfold doViewChange
  rw [hq]
  exact if_pos (decide_eq_true hf)

theorem doPurgeReport_eq {slot : Fin 96} {rest : List (Mail FromTst)} (hq : s.links.tstCmp = ⟨ep, .purged slot⟩ :: rest)
    (hf : s.taken.get (blockIx .cmp) ≤ ep) : doPurgeReport s
    = markAll (showsSlot slot (s.withLinks { s.links with tstCmp := rest })) (s.withLinks { s.links with tstCmp := rest }) := by
  unfold doPurgeReport
  rw [hq]
  exact if_pos (decide_eq_true hf)

theorem doRosterChange_eq {f : Fin 8} {rest : List (Mail (Fin 8))} (hq : s.links.schCmp = ⟨ep, f⟩ :: rest)
    (hf : s.taken.get (blockIx .cmp) ≤ ep) : doRosterChange s = takeRosterChange f (s.withLinks { s.links with schCmp := rest }) := by
  unfold doRosterChange
  rw [hq]
  exact if_pos (decide_eq_true hf)

/-- A pane whose lines a purge puts out of date, by the pane it is of the panel. -/
theorem showsSlot_eq (slot : Fin 96) (s : State) (p : Fin 8) (i : Nat) (x : Pane) : showsSlot slot s p i x
    = ((isListing x && (asFin 8 i).any fun j =>
        decide (slot ∈ pageSlots s (cmpPanel s p) ((cmpPanel s p).panes.get j).cursor x)
          || ((cmpPanel s p).panes.get j).issued.any fun r => r.tile.any fun t => t.1 == slot && decide (t.2 < s.tst.purged.get slot))
      || (isNoticeText x && viewLinked slot s p)) := by
  have hrow (r : IssuedRow) : r.condemned slot s.tst = r.tile.any fun t => t.1 == slot && decide (t.2 < s.tst.purged.get slot) := by
    unfold IssuedRow.condemned
    cases r.tile <;> rfl
  unfold showsSlot pageShows condemnedLine
  simp only [hrow]
  cases asFin 8 i with
  | none => simp
  | some j => simp [List.contains_eq_mem]

/-- The cursors of a filter's panes corrected, all panels at once. -/
theorem foldl_correctFilter (f : Fin 8) (s : State) : (fins 8).foldl (fun s p => correctFilter f p s) s = s.withPanels (Tab.make 8 fun p =>
    { cmpPanel s p with
      panes := Tab.make 8 fun i =>
        match (viewLayout s p).panes[i.val]? with
        | some x => if namesFilter f x then ((cmpPanel s p).panes.get i).correct (pagesOf s (cmpPanel s p) x) else (cmpPanel s p).panes.get i
        | none => (cmpPanel s p).panes.get i }) := by
  refine foldl_panels fun p t h => ?_
  unfold correctFilter
  rw [setCmpPanel_withPanels, viewLayout_withPanels h, h]
  rfl

end Causes

/-- Settles O37: each cause by its equation, with the marks of all panels at once. -/
theorem causesMarkPanes : Obligations.CausesMarkPanes := by
  unfold Obligations.CausesMarkPanes
  intro s hr
  refine ⟨fun hm => ?_, fun ep rest hq hf => ?_, fun ep p rest hq hf => ?_, fun ep slot rest hq hf => ?_, fun ep f rest hq hf => ?_⟩
  · refine (running_next _ hr).trans (congrArg Host.Outcome.next ?_)
    exact (if_pos hm).trans (markAll_eq ..)
  · refine (running_next _ hr).trans (congrArg Host.Outcome.next ?_)
    exact (doDeskChange_eq hq hf).trans (markAll_eq ..)
  · refine (running_next _ hr).trans (congrArg Host.Outcome.next ?_)
    exact (doNoticeContentChange_eq hq hf).trans (markOn_eq ..)
  · refine (running_next _ hr).trans (congrArg Host.Outcome.next ?_)
    rw [doPurgeReport_eq hq hf, markAll_eq]
    refine congrArg (State.marked _) (funext fun p => funext fun i => funext fun x => ?_)
    exact showsSlot_eq ..
  · intro corrected
    refine (running_next _ hr).trans (congrArg Host.Outcome.next ?_)
    rw [doRosterChange_eq hq hf]
    unfold takeRosterChange
    rw [markAll_eq, foldl_correctFilter]
    have hpanels : (Tab.make 8 fun p => { cmpPanel s p with panes := Tab.make 8 fun i =>
          match (viewLayout s p).panes[i.val]? with
          | some x => if namesFilter f x then ((cmpPanel s p).panes.get i).correct (pagesOf s (cmpPanel s p) x) else (cmpPanel s p).panes.get i
          | none => (cmpPanel s p).panes.get i })
        = Tab.make 8 fun p => { cmpPanel s p with panes := Tab.make 8 (corrected p) } := by
      refine Tab.ext_get fun p => ?_
      rw [Tab.get_make, Tab.get_make]
      have hpanes : (Tab.make 8 fun i =>
            match (viewLayout s p).panes[i.val]? with
            | some x => if namesFilter f x then ((cmpPanel s p).panes.get i).correct (pagesOf s (cmpPanel s p) x) else (cmpPanel s p).panes.get i
            | none => (cmpPanel s p).panes.get i)
          = Tab.make 8 (corrected p) := by
        refine Tab.ext_get fun i => ?_
        rw [Tab.get_make, Tab.get_make]
        show _ = (match (viewLayout s p).panes[i.val]? with
          | some y => if namesFilter f y = true ∧ pagesOf s (cmpPanel s p) y ≤ ((cmpPanel s p).panes.get i).cursor then
              { (cmpPanel s p).panes.get i with cursor := 0, dwell := 0 } else (cmpPanel s p).panes.get i
          | none => (cmpPanel s p).panes.get i)
        cases (viewLayout s p).panes[i.val]? with
        | none => rfl
        | some y =>
          dsimp only
          rw [ite_and]
          rfl
      rw [hpanes]
    exact congrArg (fun t => ((s.withLinks { s.links with schCmp := rest }).withPanels t).marked fun _ _ x => namesFilter f x) hpanels

/-! ## Pages (R108) -/

/-- One panel on a seconds pulse. -/
def pulsedPanel (s : State) (p : Fin 8) : CmpPanel :=
  markPanes (viewLayout s p) (fun i _ => (asFin 8 i).any fun j => (pulsePane s p j).2)
    { cmpPanel s p with panes := Tab.make 8 fun i => (pulsePane s p i).1 }

theorem foldl_advancePages (s : State) : (fins 8).foldl (fun s p => advancePages p s) s = s.withPanels (Tab.make 8 (pulsedPanel s)) := by
  refine foldl_panels fun p t h => ?_
  have hpulse (i : Fin 8) : pulsePane (s.withPanels t) p i = pulsePane s p i := by
    unfold pulsePane
    rw [viewLayout_withPanels h, cmpPanel_withPanels, h]
    rfl
  have hpick (i : Nat) : (match asFin 8 i with
      | some j => ((Tab.make 8 fun i => pulsePane s p i).get j).2
      | none => false) = (asFin 8 i).any fun j => (pulsePane s p j).2 := by
    cases asFin 8 i with
    | none => rfl
    | some j => exact congrArg Prod.snd (Tab.get_make ..)
  have hmap : (Tab.make 8 fun i => pulsePane s p i).map Prod.fst = Tab.make 8 fun i => (pulsePane s p i).1 :=
    Tab.ext_get fun i => by rw [Tab.get_map, Tab.get_make, Tab.get_make]
  have hlayout (u : CmpPanel) (hu : u.layout = (cmpPanel s p).layout) : viewLayout (s.withPanels (t.set p u)) p = viewLayout s p := by
    unfold viewLayout
    rw [cmpPanel_withPanels, Tab.get_set_same, hu]
    rfl
  unfold advancePages
  simp only [hpulse, hmap]
  unfold markOn
  rw [setCmpPanel_withPanels, setCmpPanel_withPanels, hlayout _ (by rw [h]), Tab.set_set, Tab.get_set_same, h]
  exact congrArg (fun pick => s.withPanels (t.set p (markPanes (viewLayout s p) pick
    { cmpPanel s p with panes := Tab.make 8 fun i => (pulsePane s p i).1 }))) (funext fun i => funext fun _ => hpick i)

theorem doPageAdvance_eq {s : State} (h : 0 < s.links.pulseCmp) : doPageAdvance s
    = (s.withLinks { s.links with pulseCmp := s.links.pulseCmp - 1 }).withPanels (Tab.make 8 (pulsedPanel s)) :=
  (if_pos h).trans (foldl_advancePages _)

theorem pulse_state (pages dwell : Nat) (x : PaneState) : (x.pulse pages dwell).1 = if pages ≤ 1 then { x with dwell := 0 }
    else if x.dwell + 1 < dwell then { x with dwell := x.dwell + 1 }
    else { x with dwell := 0, cursor := if x.cursor + 1 < pages then x.cursor + 1 else 0 } := by
  unfold PaneState.pulse
  rw [apply_ite Prod.fst, apply_ite Prod.fst]

theorem pulse_turn (pages dwell : Nat) (x : PaneState) : (x.pulse pages dwell).2 = (decide (1 < pages) && decide (dwell ≤ x.dwell + 1)) := by
  unfold PaneState.pulse
  by_cases hp : pages ≤ 1
  · rw [if_pos hp, decide_eq_false hp.not_gt, Bool.false_and]
  · rw [if_neg hp, decide_eq_true (not_le.1 hp), Bool.true_and]
    by_cases hd : x.dwell + 1 < dwell
    · rw [if_pos hd, decide_eq_false hd.not_ge]
    · rw [if_neg hd, decide_eq_true (not_lt.1 hd)]

theorem pulsePane_eq (s : State) (p i : Fin 8) : pulsePane s p i = match (viewLayout s p).panes[i.val]? with
    | some ⟨.listing f st d, top, left, h, w⟩ =>
      ((cmpPanel s p).panes.get i).pulse (pagesOf s (cmpPanel s p) ⟨.listing f st d, top, left, h, w⟩) d
    | _ => ((cmpPanel s p).panes.get i, false) := by
  unfold pulsePane
  dsimp only
  cases (viewLayout s p).panes[i.val]? with
  | none => rfl
  | some x =>
    obtain ⟨kind, top, left, h, w⟩ := x
    cases kind <;> rfl

/-- Settles O38: the marks by induction on the panes, the pages pane by pane. -/
theorem marksSpreadAndPagesTurn : Obligations.MarksSpreadAndPagesTurn := by
  unfold Obligations.MarksSpreadAndPagesTurn
  refine ⟨fun l pick c => ?_, fun s hr hp => ?_⟩
  · intro marks
    have hpane {i : Nat} {x : Pane} {b : Bool} : (l.panes.mapIdx fun i x => (x, pick i x))[i]? = some (x, b)
        ↔ l.panes[i]? = some x ∧ pick i x = b := by
      rw [List.getElem?_mapIdx, Option.map_eq_some_iff]
      constructor
      · rintro ⟨y, hy, heq⟩
        obtain ⟨rfl, rfl⟩ := Prod.mk.inj heq
        exact ⟨hy, rfl⟩
      · rintro ⟨hx, rfl⟩
        exact ⟨x, hx, rfl⟩
    refine ⟨fun i x hx => ?_, fun hnone => ?_, fun hsome => ?_⟩
    · rw [markList_iff c [] _ (hpane.2 ⟨hx, rfl⟩)]
      refine and_congr_right fun _ => or_congr_right ?_
      constructor
      · rintro (⟨y, hy, -⟩ | ⟨j, hj, y, b, hy, hmark, hs⟩)
        · exact absurd hy List.not_mem_nil
        · exact ⟨j, hj, y, (hpane.1 hy).1, hmark, hs⟩
      · rintro ⟨j, hj, y, hy, hmark, hs⟩
        exact .inr ⟨j, hj, y, _, hpane.2 ⟨hy, rfl⟩, hmark, hs⟩
    · refine if_neg ?_
      rw [contains_true_iff]
      rintro ⟨i, hi⟩
      rw [hnone i] at hi
      cases hi
    · refine (if_pos ((contains_true_iff _).2 hsome)).trans ?_
      rw [onMark_eq]
      rfl
  · intro pages turns after
    refine (running_next _ hr).trans (congrArg Host.Outcome.next ?_)
    have hturns (p i : Fin 8) : (pulsePane s p i).2 = turns p i := by
      rw [pulsePane_eq]
      show _ = (match (viewLayout s p).panes[i.val]? with
        | some ⟨.listing f st d, top, left, h, w⟩ =>
          decide (1 < pages p ⟨.listing f st d, top, left, h, w⟩) && decide (d ≤ ((cmpPanel s p).panes.get i).dwell + 1)
        | _ => false)
      split
      · exact pulse_turn ..
      · rfl
    have hafter (p i : Fin 8) : (pulsePane s p i).1 = after p i := by
      rw [pulsePane_eq]
      show _ = (match (viewLayout s p).panes[i.val]? with
        | some ⟨.listing f st d, top, left, h, w⟩ =>
          if pages p ⟨.listing f st d, top, left, h, w⟩ ≤ 1 then { (cmpPanel s p).panes.get i with dwell := 0 }
          else if ((cmpPanel s p).panes.get i).dwell + 1 < d then { (cmpPanel s p).panes.get i with dwell := ((cmpPanel s p).panes.get i).dwell + 1 }
          else { (cmpPanel s p).panes.get i with
            dwell := 0
            cursor := if ((cmpPanel s p).panes.get i).cursor + 1 < pages p ⟨.listing f st d, top, left, h, w⟩ then
              ((cmpPanel s p).panes.get i).cursor + 1 else 0 }
        | _ => (cmpPanel s p).panes.get i)
      split
      · exact pulse_state ..
      · rfl
    rw [doPageAdvance_eq hp]
    unfold pulsedPanel
    simp only [hturns, hafter]
    rfl

/-! ## View changes (R75, R105, R110) -/

/-- The machine with a view change taken, its panes being `panes` (R110). -/
def State.viewed (s : State) (v : ViewChange) (panes : Tab 8 PaneState) : State :=
  sendChannel (channelOf v.panel) (.cancel v.panel) (s.withPanels (s.cmp.panels.set v.panel { cmpPanel s v.panel with
    view := v.view, cls := v.cls, layout := changeLayout (cmpPanel s v.panel) v, lane := laneOf v.cls, backgroundDue := true
    panes := panes, stall := none, build := .dirty, copyDue := false }))

/-- Settles O39: a view change by the equation of what it writes. -/
theorem viewChangeIsTaken : Obligations.ViewChangeIsTaken := by
  unfold Obligations.ViewChangeIsTaken
  intro changed
  have hview (v : ViewChange) (s : State) : applyView v s = changed v s := by
    have hpanes (c : CmpPanel) (l : Layout) : (Tab.make 8 fun i => match l.panes[i.val]? with
          | some x => (⟨hasCells c x, 0, (loadCursors s c l v.cursors).get i, 0, []⟩ : PaneState)
          | none => PaneState.clean)
        = Tab.make 8 fun i => match l.panes[i.val]? with
          | some x => ⟨hasCells c x, 0, if isListing x = true ∧ v.cursors.get i < pagesOf s c x then v.cursors.get i else 0, 0, []⟩
          | none => ⟨false, 0, 0, 0, []⟩ := by
      refine Tab.ext_get fun i => ?_
      unfold loadCursors
      rw [Tab.get_make, Tab.get_make, Tab.get_make]
      cases l.panes[i.val]? <;> rfl
    exact congrArg (s.viewed v) (hpanes (cmpPanel s v.panel) (s.cmp.layouts.get (changeLayout (cmpPanel s v.panel) v)))
  refine ⟨fun ep v rest s hr hq hf => ?_, hview, fun p cursors s => hview .., fun p s => rfl⟩
  refine (running_next _ hr).trans (congrArg Host.Outcome.next ?_)
  exact (doViewChange_eq hq hf).trans (hview ..)

end Sys2Proof.Machine
end

section
/-! PROOFS. Job issue, the reports of the channels and the reports of the ports at the composition unit (R101 to R103, R111 to R116). -/

namespace Sys2Proof.Machine

/-- The lowest index that meets a condition. -/
theorem find?_fins {n : Nat} {q : Fin n → Bool} {i : Fin n} (h : q i = true) (hlow : ∀ j < i, q j = false) : (fins n).find? q = some i := by
  obtain ⟨l, m, hlm⟩ := List.append_of_mem (List.mem_finRange i)
  have hsorted : (l ++ i :: m).Pairwise (· < ·) := hlm ▸ List.pairwise_lt_finRange n
  refine List.find?_eq_some_iff_append.2 ⟨h, l, m, hlm, fun j hj => ?_⟩
  rw [hlow j ((List.pairwise_append.1 hsorted).2.2 j hj i List.mem_cons_self)]
  rfl

/-! ## The build state once nothing is left to issue (R115) -/

section Settle

variable {c : CmpPanel}

theorem dirtyPane_none : dirtyPane c = none ↔ ∀ i, (c.panes.get i).dirty = false := by
  unfold dirtyPane
  rw [List.find?_eq_none]
  exact ⟨fun h i => Bool.not_eq_true _ ▸ h i (List.mem_finRange i), fun h i _ => Bool.not_eq_true _ ▸ h i⟩

theorem dirtyPane_some {i : Fin 8} (h : (c.panes.get i).dirty = true) (hlow : ∀ j < i, (c.panes.get j).dirty = false) :
    dirtyPane c = some i := find?_fins h hlow

theorem nothingLeft_iff : nothingLeft c = true ↔ c.backgroundDue = false ∧ ∀ i, (c.panes.get i).dirty = false := by
  unfold nothingLeft
  rw [Bool.and_eq_true, Bool.not_eq_true', Option.isNone_iff_eq_none, dirtyPane_none]

theorem settle_left (hb : c.build = .dirty) (hd : c.backgroundDue = false) (hp : ∀ i, (c.panes.get i).dirty = false) :
    c.settle = { c with build := if c.outstanding = [] then .ready else .building } := by
  refine (if_pos ⟨hb, nothingLeft_iff.2 ⟨hd, hp⟩⟩).trans ?_
  rw [if_congr List.isEmpty_iff rfl rfl]

theorem settle_busy (h : c.build ≠ .dirty ∨ c.backgroundDue = true ∨ ∃ i, (c.panes.get i).dirty = true) : c.settle = c := by
  refine if_neg fun ⟨hb, hn⟩ => ?_
  obtain ⟨hd, hp⟩ := nothingLeft_iff.1 hn
  rcases h with h | h | ⟨i, hi⟩
  · exact h hb
  · rw [hd] at h
    cases h
  · rw [hp i] at hi
    cases hi

end Settle

/-! ## When the next job is issued (R112) -/

section Issue

variable {s : State} {p : Fin 8}

theorem cmpWaits_iff : cmpWaits s = true
    ↔ ∃ r ∈ s.tif.resetting, Block.cmp ∉ r.waiting ∧ ∃ b ∈ r.waiting, b = .blc ∨ b = .tst ∨ b = .sch ∨ b = .slg := by
  unfold cmpWaits blocksAwaited
  cases s.tif.resetting with
  | none => simp
  | some r =>
    simp only [Bool.and_eq_true, Bool.not_eq_true', List.any_cons, List.any_nil, Bool.or_false, Bool.or_eq_true, List.contains_iff_mem,
      ← Bool.not_eq_true, Option.mem_def, Option.some.injEq, exists_eq_left']
    refine and_congr_right fun _ => ⟨?_, ?_⟩
    · rintro (h | h | h | h)
      · exact ⟨_, h, .inl rfl⟩
      · exact ⟨_, h, .inr (.inl rfl)⟩
      · exact ⟨_, h, .inr (.inr (.inl rfl))⟩
      · exact ⟨_, h, .inr (.inr (.inr rfl))⟩
    · rintro ⟨b, hb, rfl | rfl | rfl | rfl⟩
      · exact .inl hb
      · exact .inr (.inl hb)
      · exact .inr (.inr (.inl hb))
      · exact .inr (.inr (.inr hb))

theorem mayIssue_iff : mayIssue s p = true ↔ (cmpPanel s p).live = true ∧ (s.ports.get p).mode = .live
    ∧ ((cmpPanel s p).build = .dirty ∨ ((cmpPanel s p).build = .syncing ∧ (cmpPanel s p).copyDue = true)) ∧ (cmpPanel s p).stall = none
    ∧ ¬ ∃ r ∈ s.tif.resetting, Block.cmp ∉ r.waiting ∧ ∃ b ∈ r.waiting, b = .blc ∨ b = .tst ∨ b = .sch ∨ b = .slg := by
  unfold mayIssue portLive
  rw [← cmpWaits_iff]
  simp only [Bool.and_eq_true, Bool.or_eq_true, beq_iff_eq, Option.isNone_iff_eq_none, Bool.not_eq_true', Bool.not_eq_true, and_assoc]

theorem issueOne_held (h : ¬ mayIssue s p = true) : issueOne p s = s := if_neg h

theorem issueOne_full (h : mayIssue s p = true) (hroom : ¬ hasRoom s p = true) :
    issueOne p s = setCmpPanel p (fun c => { c with stall := some (.queueFull c.lane) }) s := (if_pos h).trans (if_neg hroom)

theorem issueOne_next (h : mayIssue s p = true) (hroom : hasRoom s p = true) : issueOne p s = issueNext p s :=
  (if_pos h).trans (if_pos hroom)

theorem issueNext_copy (h : (cmpPanel s p).build = .syncing) :
    issueNext p s = issue p (gridJob p (cmpPanel s p) .copy) (fun c => { c with copyDue := false }) s := if_pos h

theorem issueNext_background (h : (cmpPanel s p).build = .dirty) (hb : (cmpPanel s p).backgroundDue = true) : issueNext p s
    = issue p (gridJob p (cmpPanel s p) (.fill (viewLayout s p).background)) (fun c => { c with backgroundDue := false }) s :=
  (if_neg (by simp [h])).trans (if_pos hb)

theorem issueNext_settle (h : (cmpPanel s p).build = .dirty) (hb : (cmpPanel s p).backgroundDue = false)
    (hd : ∀ i, ((cmpPanel s p).panes.get i).dirty = false) : issueNext p s = setCmpPanel p CmpPanel.settle s := by
  refine (if_neg (by simp [h])).trans ((if_neg (by simp [hb])).trans ?_)
  rw [dirtyPane_none.2 hd]

theorem issueNext_row (h : (cmpPanel s p).build = .dirty) (hb : (cmpPanel s p).backgroundDue = false) {i : Fin 8} {x : Pane}
    (hi : dirtyPane (cmpPanel s p) = some i) (hx : (viewLayout s p).panes[i.val]? = some x) : issueNext p s = issueRow p i x s := by
  refine (if_neg (by simp [h])).trans ((if_neg (by simp [hb])).trans ?_)
  rw [hi]
  dsimp only
  rw [hx]

/-! ## The job of the issue row (R112, R113) -/

/-- The job of the issue row of a pane. -/
def rowJob (s : State) (p i : Fin 8) (x : Pane) (src : Source) : Job :=
  makeJob p (cmpPanel s p) src none (x.top + ((cmpPanel s p).panes.get i).issueRow) x.left (clippedWidth (cmpPanel s p).columns x)

/-- What the issue row of a pane needs. -/
def paneNeed (s : State) (p i : Fin 8) (x : Pane) : RowNeed :=
  rowNeed s (cmpPanel s p) x ((cmpPanel s p).panes.get i).cursor ((cmpPanel s p).panes.get i).issueRow

theorem issueRow_source {i : Fin 8} {x : Pane} {src : Source} (h : paneNeed s p i x = .source src) : issueRow p i x s
    = issue p (rowJob s p i x src) (advanceRow i (clippedHeight (cmpPanel s p).rows x) (rowRecord s x (.source src))) s := by
  unfold paneNeed at h
  unfold issueRow
  dsimp only
  rw [h]
  rfl

theorem issueRow_tile {i : Fin 8} {x : Pane} {slot : Fin 96} {st : Fin 4} {r : TileRef} (h : paneNeed s p i x = .tile slot st)
    (hr : (lookupTile slot st s).2 = some r) : issueRow p i x s = issue p (rowJob s p i x (.tile r))
      (advanceRow i (clippedHeight (cmpPanel s p).rows x) (rowRecord s x (.tile slot st))) (lookupTile slot st s).1 := by
  unfold paneNeed at h
  unfold issueRow
  dsimp only
  rw [h]
  dsimp only
  split
  · rename_i t r' hl
    rw [hl] at hr
    obtain rfl := Option.some.inj hr
    rw [hl]
    rfl
  · rename_i t hl
    rw [hl] at hr
    cases hr

theorem issueRow_noTile {i : Fin 8} {x : Pane} {slot : Fin 96} {st : Fin 4} (h : paneNeed s p i x = .tile slot st)
    (hr : (lookupTile slot st s).2 = none) :
    issueRow p i x s = setCmpPanel p (fun c => { c with stall := some .noTile }) (lookupTile slot st s).1 := by
  unfold paneNeed at h
  unfold issueRow
  dsimp only
  rw [h]
  dsimp only
  split
  · rename_i t r' hl
    rw [hl] at hr
    cases hr
  · rename_i t hl
    rw [hl]

/-- The pane state behind its issue row, the row being made from `tile` (R109, R112). -/
def PaneState.advanced (y : PaneState) (s : State) (h : Nat) (x : Pane) (tile : Option (Fin 96 × Nat)) : PaneState :=
  { y with
    issueRow := y.issueRow + 1, dirty := decide (y.issueRow + 1 < h)
    issued := y.issued ++ match x.kind with
      | .listing f _ _ => [⟨tile, s.sch.rosters.get f⟩]
      | _ => [] }

theorem advanceRow_source (i : Fin 8) (h : Nat) (x : Pane) (src : Source) (c : CmpPanel) :
    advanceRow i h (rowRecord s x (.source src)) c = { c with panes := c.panes.set i ((c.panes.get i).advanced s h x none) } := by
  unfold advanceRow rowRecord PaneState.advanced
  cases x.kind <;> rfl

theorem advanceRow_tile (i : Fin 8) (h : Nat) (x : Pane) (slot : Fin 96) (st : Fin 4) (c : CmpPanel) :
    advanceRow i h (rowRecord s x (.tile slot st)) c
      = { c with panes := c.panes.set i ((c.panes.get i).advanced s h x (some (slot, s.tst.purged.get slot))) } := by
  unfold advanceRow rowRecord PaneState.advanced
  cases x.kind <;> rfl

end Issue

/-! ## What a row needs (R102, R103) -/

section Need

variable {s : State} {c : CmpPanel} {x : Pane} {cursor row : Nat}

theorem listingRow_line {f : Fin 8} {st : Fin 4} {position : Nat} {slot : Fin 96} (h : (s.sch.rosters.get f)[position]? = some slot) :
    listingRow s f st position row = .tile slot st := by
  unfold listingRow
  dsimp only
  rw [h]

theorem listingRow_none {f : Fin 8} {st : Fin 4} {position : Nat} (h : (s.sch.rosters.get f).length ≤ position) : listingRow s f st position row
    = if s.sch.rosters.get f = [] ∧ row = 0 then .source (.text 34 (s.cmp.styles.get st).baseInk (s.cmp.styles.get st).basePaper)
      else .source (.fill (spaceCell (s.cmp.styles.get st).baseInk (s.cmp.styles.get st).basePaper)) := by
  unfold listingRow
  dsimp only
  rw [List.getElem?_eq_none h]
  exact if_congr (and_congr_left' List.isEmpty_iff) rfl rfl

theorem noticeRow_line {e : Fin 24} {h ink paper : Nat} (hrow : row < h) (hline : row < lineCount s e) :
    noticeRow s (some e) h row ink paper = .source (.notice e (row + 1) ink paper) := if_pos (Nat.lt_min.2 ⟨hrow, hline⟩)

theorem noticeRow_space {v : View} {h ink paper : Nat} (hv : v = none ∨ h ≤ row ∨ ∃ e, v = some e ∧ lineCount s e ≤ row) :
    noticeRow s v h row ink paper = .source (.fill (spaceCell ink paper)) := by
  cases v with
  | none => rfl
  | some e =>
    refine if_neg fun hlt => ?_
    obtain ⟨hrow, hline⟩ := Nat.lt_min.1 hlt
    rcases hv with hv | hv | ⟨f, hf, hv⟩
    · cases hv
    · omega
    · obtain rfl := Option.some.inj hf
      omega

end Need

/-- Settles O40: the issue by its precedence, each row by what its pane needs. -/
theorem jobIssueFollowsPrecedence : Obligations.JobIssueFollowsPrecedence := by
  unfold Obligations.JobIssueFollowsPrecedence
  refine ⟨fun p s hr => ?_, fun c => ⟨settle_left, settle_busy⟩, fun p s hr => running_next _ hr, fun slot st s => rfl,
    fun s c x cursor row => ?_⟩
  · intro c n room waits allowed number issued grid
    have hex {t : State} (ht : issueOne p s = t) : exec (.jobIssue p) s = .next t :=
      (running_next _ hr).trans (congrArg Host.Outcome.next ht)
    have hmay : mayIssue s p = true ↔ allowed := mayIssue_iff
    have hroom : hasRoom s p = true ↔ room := decide_eq_true_iff
    have hnext {t : State} (ha : allowed) (hm : room) (ht : issueNext p s = t) : exec (.jobIssue p) s = .next t :=
      hex ((issueOne_next (hmay.2 ha) (hroom.2 hm)).trans ht)
    refine ⟨fun hno => hex (issueOne_held (hmay.not.2 hno)), fun ha hm => hex (issueOne_full (hmay.2 ha) (hroom.not.2 hm)),
      fun ha hm hb => hnext ha hm (issueNext_copy hb), fun ha hm hb hd => hnext ha hm (issueNext_background hb hd),
      fun ha hm hb hd hp => hnext ha hm (issueNext_settle hb hd hp), fun i x ha hm hb hd hi hlow hx => ?_⟩
    intro row job after
    have hrow {t : State} (ht : issueRow p i x s = t) : exec (.jobIssue p) s = .next t :=
      hnext ha hm ((issueNext_row hb hd (dirtyPane_some hi hlow) hx).trans ht)
    refine ⟨fun src hneed => hrow ((issueRow_source hneed).trans ?_), fun slot st hneed => ⟨fun ref href => ?_, fun hnone => ?_⟩⟩
    · have hadvance : advanceRow i (clippedHeight (cmpPanel s p).rows x) (rowRecord s x (.source src)) = fun c =>
          { c with panes := c.panes.set i ((c.panes.get i).advanced s (clippedHeight (cmpPanel s p).rows x) x none) } :=
        funext fun c => advanceRow_source ..
      rw [hadvance]
      rfl
    · refine hrow ((issueRow_tile hneed href).trans ?_)
      have hadvance : advanceRow i (clippedHeight (cmpPanel s p).rows x) (rowRecord s x (.tile slot st)) = fun c => { c with
          panes := c.panes.set i ((c.panes.get i).advanced s (clippedHeight (cmpPanel s p).rows x) x (some (slot, s.tst.purged.get slot))) } :=
        funext fun c => advanceRow_tile ..
      rw [hadvance]
      rfl
    · exact hrow (issueRow_noTile hneed hnone)
  · intro need h space
    have hneed {kind : PaneKind} (hk : x.kind = kind) : need = rowNeed s c { x with kind := kind } cursor row := by
      subst hk
      rfl
    refine ⟨fun f st dwell hk => ?_, fun w hk => hneed hk, fun ink paper hk => hneed hk, fun form ink paper hk => hneed hk,
      fun i ink paper hk => hneed hk, fun ink paper hk => ?_⟩
    · intro roster style
      refine ⟨fun slot hslot => (hneed hk).trans (listingRow_line hslot), fun hempty hzero => ?_, fun hlen hne => ?_⟩
      · have hlen : roster.length ≤ cursor * h + row := by
          rw [hempty]
          exact Nat.zero_le _
        exact (hneed hk).trans ((listingRow_none hlen).trans (if_pos ⟨hempty, hzero⟩))
      · exact (hneed hk).trans ((listingRow_none hlen).trans (if_neg fun hboth => hne.elim (fun h => h hboth.1) fun h => h hboth.2))
    · refine ⟨fun e hv hrow hline => ?_, fun hv => (hneed hk).trans (noticeRow_space hv)⟩
      refine (hneed hk).trans ?_
      show noticeRow s c.view h row ink paper = _
      rw [hv]
      exact noticeRow_line hrow hline

/-! ## The reports of the channels (R112 to R115) -/

section Reports

variable {s : State} {c : CmpPanel} {n : Fin 4} {p : Fin 8} {k : Nat} {rest : List FromChannel}

theorem finish_ready (hl : c.outstanding.erase k = []) (hn : nothingLeft c = true) (hb : c.build = .dirty ∨ c.build = .building) :
    c.finish k = { c with outstanding := c.outstanding.erase k, build := .ready } := if_pos ⟨List.isEmpty_iff.2 hl, hn, hb⟩

theorem finish_stays (h : ¬ (c.outstanding.erase k = [] ∧ nothingLeft c = true ∧ (c.build = .dirty ∨ c.build = .building))) :
    c.finish k = { c with outstanding := c.outstanding.erase k } :=
  if_neg fun ⟨hl, hn, hb⟩ => h ⟨List.isEmpty_iff.1 hl, hn, hb⟩

/-- A panel whose COPY is completed (R114). -/
def CmpPanel.copied (c : CmpPanel) (k : Nat) : CmpPanel :=
  { c with outstanding := c.outstanding.erase k, build := if (dirtyPane c).isSome then .dirty else .clean }

theorem takeReport_unknown {act : State → State} (h : k ∉ (cmpPanel s p).outstanding) : takeReport p k act s = s :=
  if_neg (by rwa [List.contains_iff_mem])

theorem takeReport_known {act : State → State} (h : k ∈ (cmpPanel s p).outstanding) : takeReport p k act s = act s :=
  if_pos (List.contains_iff_mem.2 h)

theorem doJobCompletedReport_eq (h : s.links.blcCmp.get n = .completed p k :: rest) :
    doJobCompletedReport n s = takeReport p k (setCmpPanel p fun c => c.complete k) (s.withReports n rest) := by
  unfold doJobCompletedReport
  rw [h]

theorem doJobDiscardedReport_eq (h : s.links.blcCmp.get n = .discarded p k :: rest) :
    doJobDiscardedReport n s = takeReport p k (setCmpPanel p fun c => c.finish k) (s.withReports n rest) := by
  unfold doJobDiscardedReport
  rw [h]

theorem doJobAbandonedReport_eq (h : s.links.blcCmp.get n = .abandoned p k :: rest) :
    doJobAbandonedReport n s = takeReport p k (setCmpPanel p fun c => c.finish k) (s.withReports n rest) := by
  unfold doJobAbandonedReport
  rw [h]

theorem doJobClearedReport_eq (h : s.links.blcCmp.get n = .cleared p k :: rest) : doJobClearedReport n s
    = takeReport p k (fun s => repaint p (setCmpPanel p (fun c => c.finish k) s)) (s.withReports n rest) := by
  unfold doJobClearedReport
  rw [h]

theorem doQueueRoomReport_eq {lane : Lane} (h : s.links.blcCmp.get n = .room lane :: rest) :
    doQueueRoomReport n s = endStalls (fun p => channelOf p == n) (.queueFull lane) (s.withReports n rest) := by
  unfold doQueueRoomReport
  rw [h]

theorem doUnpinReport_eq {ep : Nat} {rest : List (Mail FromTst)} (h : s.links.tstCmp = ⟨ep, .unpinned⟩ :: rest) : doUnpinReport s
    = (tileStalled s).foldl (fun s p => resumeIssue p s) (s.withLinks { s.links with tstCmp := rest }) := by
  unfold doUnpinReport
  rw [h]

theorem channelOf_beq (p : Fin 8) (n : Fin 4) : (channelOf p == n) = true ↔ p.val % 4 = n.val := by
  rw [beq_iff_eq, Fin.ext_iff]
  rfl

end Reports

/-- Settles O41: each report by its equation, and what is left of the panel by the cases of R115. -/
theorem jobReportsAreTaken : Obligations.JobReportsAreTaken := by
  unfold Obligations.JobReportsAreTaken
  refine ⟨fun n p k rest x s hr hq => ?_, fun s hr => ⟨fun n lane rest hq => ?_, fun ep rest hq => ?_⟩⟩
  · intro s' c left still
    have hstill : nothingLeft c = true ↔ ¬ still := by
      rw [nothingLeft_iff, not_or, not_exists, Bool.not_eq_true]
      simp only [Bool.not_eq_true]
    have hex {instr : Instr} {f : State → State} {t : State} (hexec : exec instr s = running s f) (ht : f s = t) : exec instr s = .next t :=
      hexec.trans ((running_next _ hr).trans (congrArg Host.Outcome.next ht))
    refine ⟨c.finish k, c.copied k, fun hl hn hb => finish_ready hl (hstill.2 hn) hb, fun h => finish_stays ?_, fun hd => ?_, fun hd => ?_,
      fun hk => ⟨?_, ?_, ?_, ?_⟩, fun hk => ⟨?_, ?_, ?_, ?_⟩⟩
    · rintro ⟨hl, hn, hb⟩
      rcases h with h | h | h
      · exact h hl
      · exact hstill.1 hn h
      · exact hb.elim h.1 h.2
    · have hsome : (dirtyPane c).isSome = true := by
        rw [Option.isSome_iff_ne_none, Ne, dirtyPane_none]
        obtain ⟨i, hi⟩ := hd
        exact fun hall => by rw [hall i] at hi; cases hi
      unfold CmpPanel.copied
      rw [if_pos hsome]
    · have hnone : (dirtyPane c).isSome = false := by rw [dirtyPane_none.2 hd]; rfl
      unfold CmpPanel.copied
      rw [hnone]
      rfl
    all_goals rintro rfl
    · exact hex rfl ((doJobCompletedReport_eq hq).trans (takeReport_unknown (s := s') hk))
    · exact hex rfl ((doJobDiscardedReport_eq hq).trans (takeReport_unknown (s := s') hk))
    · exact hex rfl ((doJobAbandonedReport_eq hq).trans (takeReport_unknown (s := s') hk))
    · exact hex rfl ((doJobClearedReport_eq hq).trans (takeReport_unknown (s := s') hk))
    · exact hex rfl ((doJobCompletedReport_eq hq).trans (takeReport_known (s := s') hk))
    · exact hex rfl ((doJobDiscardedReport_eq hq).trans (takeReport_known (s := s') hk))
    · exact hex rfl ((doJobAbandonedReport_eq hq).trans (takeReport_known (s := s') hk))
    · exact hex rfl ((doJobClearedReport_eq hq).trans (takeReport_known (s := s') hk))
  · refine (running_next _ hr).trans (congrArg Host.Outcome.next ((doQueueRoomReport_eq hq).trans ?_))
    unfold endStalls
    simp only [channelOf_beq]
    rfl
  · refine (running_next _ hr).trans (congrArg Host.Outcome.next ((doUnpinReport_eq hq).trans ?_))
    have hstalled : tileStalled s = (fins 8).filter fun p => decide ((cmpPanel s p).stall = some .noTile) :=
      List.filter_congr fun p _ => beq_eq_decide ..
    rw [hstalled]
    rfl

/-! ## The reports of the ports (R101, R111, R162, R169) -/

section PortReports

variable {s : State} {p : Fin 8} {rest : List FromPort}

theorem doPresenceReportCmp_eq {mode : Mode} (h : s.links.pnlCmp.get p = .presence mode :: rest) :
    doPresenceReportCmp p s = takePresence p mode (s.withPortReports p rest) := by
  unfold doPresenceReportCmp
  rw [h]

theorem doGeometryReport_eq {columns rows rate : Nat} (h : s.links.pnlCmp.get p = .geometry columns rows rate :: rest) :
    doGeometryReport p s = repaint p (setCmpPanel p (fun c => { c with columns := columns, rows := rows, rate := rate })
      (s.withPortReports p rest)) := by
  unfold doGeometryReport
  rw [h]

theorem doGridClearedReport_eq {epoch : Nat} (h : s.links.pnlCmp.get p = .gridCleared epoch :: rest) : doGridClearedReport p s
    = if epoch ≤ s.taken.get (blockIx .cmp) then sendPort p (.cleared epoch) (repaint p (s.withPortReports p rest)) else s := by
  unfold doGridClearedReport
  rw [h]

/-- A repaint sends nothing to the ports. -/
theorem repaint_cmpPnl (s : State) : (repaint p s).links.cmpPnl = s.links.cmpPnl := rfl

end PortReports

/-- Settles O42: each report of a port by its equation. -/
theorem portReportsAreTaken : Obligations.PortReportsAreTaken := by
  unfold Obligations.PortReportsAreTaken
  intro p x rest s hr hq s' c store
  have hex {instr : Instr} {f : State → State} {t : State} (hexec : exec instr s = running s f) (ht : f s = t) : exec instr s = .next t :=
    hexec.trans ((running_next _ hr).trans (congrArg Host.Outcome.next ht))
  refine ⟨?_, fun mode hx hmode => ?_, fun columns rows rate hx => ?_, fun epoch hx => ⟨fun hle => ?_, fun hlt => ?_⟩⟩
  · rintro rfl
    exact hex rfl ((doPresenceReportCmp_eq hq).trans (if_pos rfl))
  · subst hx
    exact hex rfl ((doPresenceReportCmp_eq hq).trans (if_neg hmode))
  · subst hx
    exact hex rfl (doGeometryReport_eq hq)
  · subst hx
    exact hex rfl ((doGridClearedReport_eq hq).trans (if_pos hle))
  · subst hx
    exact hex rfl ((doGridClearedReport_eq hq).trans (if_neg hlt.not_ge))

end Sys2Proof.Machine
end

section
/-! PROOFS. The tile store (R119 to R125, R127): purges, unpins and lookups. -/

namespace Sys2Proof.Machine

/-! ## Purges and unpins (R124, R125, R127) -/

section Purge

variable {s : State} {ep : Nat} {slot : Fin 96}

theorem doPurge_eq {sender : PurgeSender} {rest : List (Mail (Fin 96))} (hq : purgeLink sender s.links = ⟨ep, slot⟩ :: rest)
    (hf : s.taken.get (blockIx .tst) ≤ ep) : doPurge sender s = takePurge slot (s.withLinks (s.links.withPurges sender rest)) := by
  unfold doPurge
  rw [hq]
  exact if_pos (decide_eq_true hf)

/-- A tile of the slot that a purge is of. -/
def isHit (slot : Fin 96) (x : Tile) : Bool := x.state == .valid && (x.key.any fun k => k.1 == slot)

theorem purgedTile_eq (slot : Fin 96) (x : Tile) : purgedTile slot x
    = if isHit slot x then (if x.pins = 0 then ⟨.free, none, [], 0, x.fmt⟩ else { x with state := .purging }) else x := by
  have hcond : (x.state = .valid ∧ x.key.map Prod.fst = some slot) ↔ isHit slot x = true := by
    unfold isHit
    cases x.key <;> simp
  unfold purgedTile
  rw [if_congr hcond rfl rfl]
  rfl

/-- A tile is VALID after a purge if it was and the purge is not of its slot. -/
theorem purgedTile_valid (slot : Fin 96) (x : Tile) : ((purgedTile slot x).state == .valid) = (x.state == .valid && !isHit slot x) := by
  rw [purgedTile_eq]
  cases hh : isHit slot x
  · simp
  · by_cases hp : x.pins = 0 <;> simp [hp]

theorem purgeTiles_eq (slot : Fin 96) (t : Tst) : purgeTiles slot t = { t with
    slots := Tab.make 96 fun i => if isHit slot (t.slots.get i) then
      (if (t.slots.get i).pins = 0 then ⟨.free, none, [], 0, (t.slots.get i).fmt⟩ else { t.slots.get i with state := .purging })
      else t.slots.get i
    useList := t.useList.filter fun i => (t.slots.get i).state == .valid && !isHit slot (t.slots.get i)
    purges := min 65535 (t.purges + 1)
    purged := t.purged.set slot (t.purged.get slot + 1) } := by
  have hslots : t.slots.map (purgedTile slot) = Tab.make 96 fun i => if isHit slot (t.slots.get i) then
      (if (t.slots.get i).pins = 0 then ⟨.free, none, [], 0, (t.slots.get i).fmt⟩ else { t.slots.get i with state := .purging })
      else t.slots.get i := by
    refine Tab.ext_get fun i => ?_
    rw [Tab.get_map, Tab.get_make, purgedTile_eq]
  have huse : (t.useList.filter fun i => ((t.slots.map (purgedTile slot)).get i).state == .valid)
      = t.useList.filter fun i => (t.slots.get i).state == .valid && !isHit slot (t.slots.get i) := by
    refine List.filter_congr fun i _ => ?_
    rw [Tab.get_map, purgedTile_valid]
  unfold purgeTiles
  dsimp only
  rw [huse, hslots]
  rfl

theorem doUnpin_eq {n : Fin 4} {r : TileRef} {rest : List TileRef} (h : s.links.blcTst.get n = r :: rest) :
    doUnpin n s = takeUnpin r (s.withLinks { s.links with blcTst := s.links.blcTst.set n rest }) := by
  unfold doUnpin
  rw [h]

theorem holdsRef_iff (t : Tst) (r : TileRef) : holdsRef t r = true ↔ (t.slots.get r.slot).state ≠ .free ∧ (t.slots.get r.slot).fmt = r.fmt := by
  unfold holdsRef
  rw [Bool.and_eq_true, bne_iff_ne, beq_iff_eq]

end Purge

/-- Settles O43: a purge slot by slot, an unpin by whether its reference finds a tile. -/
theorem purgesAndUnpins : Obligations.PurgesAndUnpins := by
  unfold Obligations.PurgesAndUnpins
  refine ⟨fun sender ep slot rest s hr hq hf => ?_, fun n r rest s hr hq => ?_⟩
  · intro hit
    refine (running_next _ hr).trans (congrArg Host.Outcome.next ((doPurge_eq hq hf).trans ?_))
    unfold takePurge
    rw [purgeTiles_eq]
    cases sender <;> rfl
  · intro x s' found
    have hex {t : State} (ht : takeUnpin r s' = t) : exec (.unpin n) s = .next t :=
      (running_next _ hr).trans (congrArg Host.Outcome.next ((doUnpin_eq hq).trans ht))
    have hfound : (holdsRef s'.tst r = true ∧ 0 < (s'.tst.slots.get r.slot).pins) ↔ found := by
      rw [holdsRef_iff, and_assoc]
      rfl
    refine ⟨fun hno => hex (if_neg (hfound.not.2 hno)), fun hyes => hex ((if_pos (hfound.2 hyes)).trans ?_)⟩
    by_cases hp : x.pins = 1 ∨ x.pins = 16
    · refine (if_pos hp).trans ?_
      rw [if_pos hp]
      rfl
    · refine (if_neg hp).trans ?_
      rw [if_neg hp, List.append_nil]
      rfl

/-! ## Lookups (R119 to R123) -/

section Lookup

variable {t : Tst} {key : Fin 96 × Fin 4} {cells : List Cell}

theorem lookup_hit {i : Fin 96} (h : validSlot t key = some i) (hp : (t.slots.get i).pins < 16) :
    lookup key cells t = (hitTile i t, some (refOf t i)) := by
  unfold lookup
  rw [h]
  exact if_pos hp

theorem lookup_miss (h : ∀ i, validSlot t key = some i → 16 ≤ (t.slots.get i).pins) : lookup key cells t = missTile key cells t := by
  unfold lookup
  cases hv : validSlot t key with
  | none => rfl
  | some i => exact if_neg (h i hv).not_gt

theorem missTile_none (hf : freeTile t = none) (ho : replaceable t = none) :
    missTile key cells t = ({ t with noTile := bump t.noTile }, none) := by
  unfold missTile missSlot
  rw [hf]
  dsimp only
  rw [ho]
  rfl

/-- The store from which a miss takes its slot: a replaced tile is counted (R122). -/
def Tst.counted (t : Tst) : Tst := { t with replacements := if freeTile t = none then bump t.replacements else t.replacements }

theorem missSlot_some {i : Fin 96} (h : freeTile t = some i ∨ (freeTile t = none ∧ replaceable t = some i)) :
    missSlot t = some (i, t.counted) := by
  unfold missSlot Tst.counted
  rcases h with h | ⟨h, ho⟩
  · rw [h]
    rfl
  · rw [h]
    dsimp only
    rw [ho]
    rfl

theorem missTile_some {i : Fin 96} (h : freeTile t = some i ∨ (freeTile t = none ∧ replaceable t = some i)) : missTile key cells t
    = (formatTile i key cells (condemnFull t.counted (validSlot t key)),
      some (refOf (formatTile i key cells (condemnFull t.counted (validSlot t key))) i)) := by
  unfold missTile
  rw [missSlot_some h]

/-- A slot of the store after the key's full tile has been condemned. -/
theorem condemnFull_slot (v : Option (Fin 96)) (j : Fin 96) : (condemnFull t v).slots.get j
    = if v = some j then { t.slots.get j with state := .purging } else t.slots.get j := by
  cases v with
  | none => rfl
  | some i =>
    refine (Tab.get_modify ..).trans ?_
    rw [if_congr (Option.some.injEq ..).to_iff rfl rfl]

theorem condemnFull_useList (v : Option (Fin 96)) : (condemnFull t v).useList = t.useList.filter fun j => decide (v ≠ some j) := by
  cases v with
  | none => simp [condemnFull]
  | some i =>
    refine List.filter_congr fun j _ => ?_
    rw [Bool.eq_iff_iff, bne_iff_ne, decide_eq_true_iff, Ne, Ne, Option.some.injEq, eq_comm]

theorem condemnFull_counts (v : Option (Fin 96)) : (condemnFull t v).hits = t.hits ∧ (condemnFull t v).formats = t.formats
    ∧ (condemnFull t v).noTile = t.noTile ∧ (condemnFull t v).purges = t.purges ∧ (condemnFull t v).purged = t.purged
    ∧ (condemnFull t v).replacements = t.replacements := by
  cases v <;> exact ⟨rfl, rfl, rfl, rfl, rfl, rfl⟩

end Lookup

/-- Settles O44: a hit, no tile, or the slot that a miss takes. -/
theorem lookupHitsOrFormats : Obligations.LookupHitsOrFormats := by
  unfold Obligations.LookupHitsOrFormats
  intro key cells t u ref
  have hu : (u, ref) = lookup key cells t := rfl
  refine ⟨fun i hv hp => ?_, fun hfull => ?_⟩
  · rw [lookup_hit hv hp] at hu
    obtain ⟨hu, hr⟩ := Prod.mk.inj hu
    exact ⟨hr, hu⟩
  · intro free old
    rw [lookup_miss hfull] at hu
    refine ⟨fun hf ho => ?_, fun i hi => ?_⟩
    · rw [missTile_none hf ho] at hu
      obtain ⟨hu, hr⟩ := Prod.mk.inj hu
      exact ⟨hr, hu⟩
    · intro number
      rw [missTile_some hi] at hu
      obtain ⟨hu, hr⟩ := Prod.mk.inj hu
      obtain ⟨hhits, hformats, hnoTile, hpurges, hpurged, hrepl⟩ := condemnFull_counts (t := t.counted) (validSlot t key)
      have hslot : u.slots.get i = ⟨.valid, some key, cells, 1, number⟩ := by
        rw [hu]
        refine (Tab.get_modify_same ..).trans ?_
        have hfmt : ((condemnFull t.counted (validSlot t key)).slots.get i).fmt = (t.slots.get i).fmt := by
          rw [condemnFull_slot]
          split <;> rfl
        rw [hfmt]
      refine ⟨?_, hslot, fun j hj => ?_, ?_, ?_, ?_, ?_, ?_, ?_, ?_⟩
      · rw [hr, ← hu]
        unfold refOf
        rw [hslot]
      · rw [hu]
        exact (Tab.get_modify_ne _ _ (Ne.symm hj)).trans (condemnFull_slot ..)
      · rw [hu]
        exact congrArg (fun l => dropUse i l ++ [i]) (condemnFull_useList _)
      all_goals rw [hu]
      · exact hhits
      · exact congrArg bump hformats
      · exact hnoTile
      · exact hpurges
      · exact hpurged
      · exact hrepl

end Sys2Proof.Machine
end

section
/-! PROOFS. A port's presence, the answers it takes, and its picture segments (R150 to R157, R163 to R166, R169, R175). -/

namespace Sys2Proof.Machine

/-! ## Presence (R150 to R155) -/

section Presence

variable {s : State} {p : Fin 8}

theorem setPort_eq (f : Port → Port) : setPort p f s = { s with ports := s.ports.set p (f (s.ports.get p)) } := rfl

theorem setPort_same : setPort p (fun x => x) s = s := by
  rw [setPort_eq, Tab.set_get]

theorem doPresenceFall_low (h : (s.ports.get p).level = false) : doPresenceFall p s = s :=
  if_neg (by unfold portOf; simp [h])

theorem doPresenceFall_waiting (h : (s.ports.get p).level = true) (hm : (s.ports.get p).mode = .waiting) :
    doPresenceFall p s = setPort p (fun x => { x with level := false, presence := 0 }) s := by
  refine (if_pos h).trans ?_
  unfold portOf
  rw [hm]

theorem doPresenceFall_dark (h : (s.ports.get p).level = true) (hm : (s.ports.get p).mode = .dark) :
    doPresenceFall p s = setPort p (fun x => { x with level := false }) s := by
  refine (if_pos h).trans ?_
  unfold portOf
  rw [hm]

theorem doPresenceFall_live (h : (s.ports.get p).level = true) (hm : (s.ports.get p).mode = .live) : doPresenceFall p s = loseP p s := by
  refine (if_pos h).trans ?_
  unfold portOf
  rw [hm]

theorem isSome_ite {α β : Type} (o : Option α) (a b : β) : (if o.isSome then a else b) = if o = none then b else a := by
  cases o <;> simp

theorem segmentsHeld_eq (x : Port) : segmentsHeld x = x.buffer.length + if x.segment = none then 0 else 1 :=
  congrArg (x.buffer.length + ·) (isSome_ite ..)

/-- What a fall leaves of a LIVE port. -/
theorem drained_eq (x : Port) : { x.drain.blankLink with mode := .waiting, level := false } = { x with
    level := false, mode := .waiting, presence := 0, mute := true, buffer := [], segment := none
    gated := min 65535 (x.gated + (x.buffer.length + if x.segment = none then 0 else 1))
    frame := (x.frame.or x.frameWaiting).map fun f => { f with blanked := true }, frameWaiting := none
    phase := if ((x.frame.or x.frameWaiting).map fun f => { f with blanked := true }) = none then .idle else .grid } := by
  rw [← segmentsHeld_eq, ← isSome_ite]
  rfl

theorem doPanelBack_eq (h : 0 < s.links.pulsePnl.get p) : doPanelBack p s = if (s.ports.get p).mode = .waiting then
    judgePresence p (s.withPulses p (s.links.pulsePnl.get p - 1)) else s.withPulses p (s.links.pulsePnl.get p - 1) := if_pos h

theorem doOpenWindowsReport_eq {epoch : Nat} {w : BitVec 2} {rest : List ToPort} (h : s.links.cmpPnl.get p = .windows epoch w :: rest) :
    doOpenWindowsReport p s = if answersOld epoch s then s.withPortRequests p rest
      else setPort p (fun x => { x with windows := w }) (s.withPortRequests p rest) := by
  unfold doOpenWindowsReport
  rw [h]

theorem doGridClearedAnswer_eq {epoch : Nat} {rest : List ToPort} (h : s.links.cmpPnl.get p = .cleared epoch :: rest) :
    doGridClearedAnswer p s = if answersOld epoch s then s.withPortRequests p rest
      else setPort p (fun x => { x with swapHold := false }) (s.withPortRequests p rest) := by
  unfold doGridClearedAnswer
  rw [h]

theorem answersOld_iff (epoch : Nat) (s : State) : answersOld epoch s = true ↔ epoch < s.taken.get (blockIx .pnl) := decide_eq_true_iff

end Presence

/-- Settles O51: each change of presence by the mode of the port, each answer by whether a RESET has crossed it. -/
theorem presenceAndAnswersAtAPort : Obligations.PresenceAndAnswersAtAPort := by
  unfold Obligations.PresenceAndAnswersAtAPort
  have hex {instr : Instr} {f : State → State} {s t : State} (hr : s.inReset = false) (hexec : exec instr s = running s f) (ht : f s = t) :
      exec instr s = .next t := hexec.trans ((running_next _ hr).trans (congrArg Host.Outcome.next ht))
  refine ⟨fun p s => ?_, fun p s hr hp => ?_, fun p epoch rest s hr => ?_⟩
  · intro x
    refine ⟨rfl, fun hr => ?_⟩
    have hfall {t : State} (ht : doPresenceFall p s = t) : exec (.presenceFall p) s = .next t :=
      (if_neg (by simp [hr])).trans (congrArg Host.Outcome.next ht)
    refine ⟨fun hl => hfall (doPresenceFall_low hl), fun hl hm => hfall (doPresenceFall_waiting hl hm),
      fun hl hm => hfall (doPresenceFall_dark hl hm), fun hl hm => ?_⟩
    intro held frame
    refine hfall ((doPresenceFall_live hl hm).trans ?_)
    have hheld : segmentsHeld (portOf s p) = held := segmentsHeld_eq ..
    unfold loseP
    dsimp only
    rw [setPort_eq, drained_eq, hheld]
    rfl
  · intro x k
    have hback {t : State} (ht : (if (s.ports.get p).mode = .waiting then judgePresence p (s.withPulses p (s.links.pulsePnl.get p - 1))
        else s.withPulses p (s.links.pulsePnl.get p - 1)) = t) : exec (.panelBack p) s = .next t :=
      hex hr rfl ((doPanelBack_eq hp).trans ht)
    refine ⟨fun hm => hback (if_neg hm), fun hm hl => hback ((if_pos hm).trans (if_pos hl)), fun hm hl hz => hback ((if_pos hm).trans ?_),
      fun hm hl hone => hback ((if_pos hm).trans ?_)⟩
    · refine (if_neg ?_).trans (if_pos hz)
      exact fun h => absurd (hl.symm.trans h) (by decide)
    · refine (if_neg ?_).trans (if_neg (Nat.ne_of_gt hone))
      exact fun h => absurd (hl.symm.trans h) (by decide)
  · intro k old
    refine ⟨fun w hq => ⟨fun hnew => hex hr rfl ?_, fun hold => hex hr rfl ?_⟩, fun hq => ⟨fun hnew => hex hr rfl ?_, fun hold => hex hr rfl ?_⟩⟩
    · exact (doOpenWindowsReport_eq hq).trans (if_neg ((answersOld_iff ..).not.2 hnew))
    · exact (doOpenWindowsReport_eq hq).trans (if_pos ((answersOld_iff ..).2 hold))
    · exact (doGridClearedAnswer_eq hq).trans (if_neg ((answersOld_iff ..).not.2 hnew))
    · exact (doGridClearedAnswer_eq hq).trans (if_pos ((answersOld_iff ..).2 hold))

/-! ## Picture segments (R163 to R166) -/

section Segments

/-- What a port does that looks at its buffer: the segments whose gate is closed are counted, the first other is sent. -/
theorem takeUp_eq (l : List Segment) (x : Port) (h : x.gated ≤ 65535) : takeUp x l =
    match l.dropWhile fun g => !gateFor x g.window with
    | [] => { x with
      buffer := [], phase := .idle, gated := min 65535 (x.gated + (l.takeWhile fun g => !gateFor x g.window).length) }
    | g :: rest => { x with
      buffer := rest, segment := some g, phase := .segment
      gated := min 65535 (x.gated + (l.takeWhile fun g => !gateFor x g.window).length) } := by
  induction l generalizing x with
  | nil =>
    have hg : min 65535 (x.gated + 0) = x.gated := Nat.min_eq_right h
    show ({ x with buffer := [], phase := .idle } : Port) = { x with buffer := [], phase := .idle, gated := min 65535 (x.gated + 0) }
    rw [hg]
  | cons g l ih =>
    unfold takeUp
    by_cases hopen : gateFor x g.window = true
    · have hg : min 65535 (x.gated + 0) = x.gated := Nat.min_eq_right h
      rw [if_pos hopen, List.dropWhile_cons_of_neg (by simp [hopen]), List.takeWhile_cons_of_neg (by simp [hopen])]
      dsimp only
      rw [List.length_nil, hg]
    · have hgate : gateFor x.countGated = gateFor x := rfl
      have hgated : min 65535 (x.countGated.gated + (l.takeWhile fun g => !gateFor x g.window).length)
          = min 65535 (x.gated + ((l.takeWhile fun g => !gateFor x g.window).length + 1)) := by
        have : x.countGated.gated = min 65535 (x.gated + 1) := rfl
        omega
      rw [if_neg hopen, ih x.countGated (Nat.min_le_left ..), hgate, List.dropWhile_cons_of_pos (by simp [hopen]),
        List.takeWhile_cons_of_pos (by simp [hopen]), List.length_cons, hgated]
      cases l.dropWhile fun g => !gateFor x g.window <;> rfl

theorem takeUp_nil {x : Port} {l : List Segment} (h : x.gated ≤ 65535) (hl : (l.dropWhile fun g => !gateFor x g.window) = []) :
    takeUp x l = { x with
      buffer := [], phase := .idle, gated := min 65535 (x.gated + (l.takeWhile fun g => !gateFor x g.window).length) } := by
  rw [takeUp_eq l x h, hl]

theorem takeUp_cons {x : Port} {l : List Segment} {g : Segment} {rest : List Segment} (h : x.gated ≤ 65535)
    (hl : (l.dropWhile fun g => !gateFor x g.window) = g :: rest) : takeUp x l = { x with
      buffer := rest, segment := some g, phase := .segment
      gated := min 65535 (x.gated + (l.takeWhile fun g => !gateFor x g.window).length) } := by
  rw [takeUp_eq l x h, hl]

theorem linkIdle_idle {x : Port} (h : x.phase = .idle) : x.linkIdle = x := by
  unfold Port.linkIdle
  rw [h]

theorem linkIdle_waiting {x : Port} {f : Frame} (h : x.phase = .segment) (hf : x.frameWaiting = some f) :
    x.linkIdle = { x with segment := none, frame := some f, frameWaiting := none, phase := .grid } := by
  unfold Port.linkIdle
  rw [h]
  dsimp only
  rw [hf]

/-- What ends at the end of what the link sends. -/
def Port.ended (x : Port) : Port := if x.phase = .grid then { x with frame := none } else { x with segment := none }

theorem linkIdle_looks {x : Port} (h : x.phase = .grid ∨ (x.phase = .segment ∧ x.frameWaiting = none)) :
    x.linkIdle = takeUp { x.ended with phase := .idle } x.buffer := by
  unfold Port.linkIdle Port.ended
  rcases h with h | ⟨h, hf⟩
  · rw [h]
    rfl
  · rw [h]
    dsimp only
    rw [hf]
    rfl

theorem looksNext_iff (x : Port) : x.looksNext = true ↔ x.phase = .grid ∨ (x.phase = .segment ∧ x.frameWaiting = none) := by
  unfold Port.looksNext
  rw [Bool.or_eq_true, Bool.and_eq_true, beq_iff_eq, beq_iff_eq, Option.isNone_iff_eq_none]

theorem windowsOnWay_iff (s : State) (p : Fin 8) : windowsOnWay s p = true
    ↔ ∃ epoch w, ToPort.windows epoch w ∈ s.links.cmpPnl.get p ∧ s.taken.get (blockIx .pnl) ≤ epoch := by
  unfold windowsOnWay
  rw [List.any_eq_true]
  constructor
  · rintro ⟨x, hx, hw⟩
    cases x with
    | cleared e => cases hw
    | windows epoch w =>
      refine ⟨epoch, w, hx, not_lt.1 fun hlt => ?_⟩
      have hnew : (!answersOld epoch s) = true := hw
      rw [(answersOld_iff epoch s).2 hlt] at hnew
      cases hnew
  · rintro ⟨epoch, w, hx, hle⟩
    refine ⟨_, hx, ?_⟩
    rw [Bool.not_eq_true', ← Bool.not_eq_true, answersOld_iff]
    exact hle.not_gt

theorem gateFor_iff (x : Port) (w : Fin 2) : gateFor x w = true ↔ x.mode = .live ∧ x.mute = false ∧ x.windows.getLsbD w.val = true := by
  unfold gateFor
  rw [Bool.and_eq_true, Bool.and_eq_true, beq_iff_eq, Bool.not_eq_true', and_assoc]

theorem buffered_idle {x : Port} {g : Segment} (hopen : gateFor x g.window = true) (hb : x.buffer = []) (hp : x.phase = .idle) :
    x.buffered g = { x with segment := some g, phase := .segment } := by
  refine (if_pos hp).trans ?_
  cases x
  dsimp only at hb
  subst hb
  exact if_pos hopen

theorem buffered_waits {x : Port} {g : Segment} (hp : x.phase ≠ .idle) : x.buffered g = { x with buffer := x.buffer ++ [g] } := if_neg hp

end Segments

/-! ## PICTURE (R163, R164, R175) -/

section Picture

variable {s : State} {p : Fin 8} {g : Segment}

theorem doPicture_eq {f : Picture} {clock : Nat} {rest : List TakenPicture} (h : s.tif.pictures = ⟨f, clock⟩ :: rest) :
    doPicture s = routePicture f (s.withTif { s.tif with pictures := rest }) := by
  unfold doPicture
  rw [h]

theorem routePicture_refused {f : Picture} (h : 8 ≤ f.panel ∨ 2 ≤ f.window) : routePicture f s = refuse .tif 1 .badField f.panel s := by
  unfold routePicture
  rcases h with h | h
  · rw [asFin_eq_none h]
  · rw [asFin_eq_none h]
    cases asFin 8 f.panel <;> rfl

theorem routePicture_port {f : Picture} {w : Fin 2} (hp : p.val = f.panel) (hw : w.val = f.window) :
    routePicture f s = offerSegment p ⟨w, f.tag, f.segment, f.data⟩ s := by
  unfold routePicture
  rw [← hp, ← hw, asFin_val, asFin_val]

theorem offerSegment_gated (h : ¬ gateFor (s.ports.get p) g.window = true) : offerSegment p g s = setPort p Port.countGated s :=
  if_pos (Bool.not_eq_true _ ▸ h)

theorem offerSegment_taken (h : gateFor (s.ports.get p) g.window = true) (hroom : (s.ports.get p).buffer.length < 2) :
    offerSegment p g s = setPort p (Port.buffered g) s :=
  (if_neg (by unfold portOf; simp [h])).trans (if_pos hroom)

theorem offerSegment_dropped (h : gateFor (s.ports.get p) g.window = true) (hfull : 2 ≤ (s.ports.get p).buffer.length) :
    offerSegment p g s = (fun t : State => t.withTif (flagPictureDrop t.tif))
      (setPort p (fun x => { x with dropped := satAdd Config.countTop x.dropped 1 }) s) :=
  (if_neg (by unfold portOf; simp [h])).trans (if_neg hfull.not_gt)

end Picture

/-- Settles O50: the end of what the link sends by what follows it, a PICTURE by its gate and the room. -/
theorem segmentsPassTheGate : Obligations.SegmentsPassTheGate := by
  unfold Obligations.SegmentsPassTheGate
  refine ⟨fun p s => ?_, fun x sent => ⟨fun hp => ?_, fun g hp hg => ?_⟩, fun f clock rest s hr hq => ?_⟩
  · intro x shut z count looks waits
    have hex {t : State} (ht : doLinkPhaseIdle p s = t) : exec (.linkPhaseIdle p) s = .next t := congrArg Host.Outcome.next ht
    have hlooks : x.looksNext = true ↔ looks := looksNext_iff x
    have hwaits : windowsOnWay s p = true ↔ waits := windowsOnWay_iff s p
    have hgo {y : Port} (hno : ¬ (looks ∧ waits)) (hy : x.linkIdle = y) :
        exec (.linkPhaseIdle p) s = .next { s with ports := s.ports.set p y } := by
      refine hex ((if_neg ?_).trans ?_)
      · rw [Bool.and_eq_true]
        exact fun h => hno ⟨hlooks.1 h.1, hwaits.1 h.2⟩
      · rw [setPort_eq]
        have hidle : Port.linkIdle (s.ports.get p) = y := hy
        rw [hidle]
    refine ⟨fun hp => ?_, fun f hp hf => ?_, fun hl hw => ?_, fun hl hw hg => ⟨fun hnil => ?_, fun g rest hcons => ?_⟩⟩
    · refine (hgo ?_ (linkIdle_idle hp)).trans ?_
      · rintro ⟨hl | ⟨hl, -⟩, -⟩
        · rw [hp] at hl; cases hl
        · rw [hp] at hl; cases hl
      · rw [Tab.set_get]
    · refine hgo ?_ (linkIdle_waiting hp hf)
      rintro ⟨hl | ⟨-, hl⟩, -⟩
      · rw [hp] at hl; cases hl
      · rw [hf] at hl; cases hl
    · exact hex (if_pos (by rw [Bool.and_eq_true]; exact ⟨hlooks.2 hl, hwaits.2 hw⟩))
    all_goals
      have hz : x.ended = z := rfl
      have hgate : (fun g : Segment => !gateFor { x.ended with phase := .idle } g.window) = shut := by
        funext g
        unfold Port.ended
        split <;> rfl
      have hgated : ({ x.ended with phase := .idle } : Port).gated = x.gated := by
        unfold Port.ended
        split <;> rfl
      have hle : ({ x.ended with phase := .idle } : Port).gated ≤ 65535 := hgated ▸ hg
    · refine hgo (fun h => hw h.2) ((linkIdle_looks hl).trans ((takeUp_nil hle (by rw [hgate]; exact hnil)).trans ?_))
      rw [hgate, hgated, hz]
    · refine hgo (fun h => hw h.2) ((linkIdle_looks hl).trans ((takeUp_cons hle (by rw [hgate]; exact hcons)).trans ?_))
      rw [hgate, hgated, hz]
  · unfold Port.sending
    rw [hp]
    exact apply_ite Option.toList ..
  · unfold Port.sending
    rw [hp]
    dsimp only
    rw [hg]
    rfl
  · intro s'
    have hex {t : State} (ht : routePicture f s' = t) : exec .picture s = .next t :=
      (running_next _ hr).trans (congrArg Host.Outcome.next ((doPicture_eq hq).trans ht))
    refine ⟨fun hbad => hex (routePicture_refused hbad), fun p w hp hw => ?_⟩
    intro x g open'
    have hopen : gateFor x g.window = true ↔ open' := gateFor_iff ..
    have hport {t : State} (ht : offerSegment p g s' = t) : exec .picture s = .next t := hex ((routePicture_port hp hw).trans ht)
    have htaken {y : Port} (ho : open') (hroom : x.buffer.length < 2) (hy : x.buffered g = y) :
        exec .picture s = .next { s' with ports := s.ports.set p y } := by
      refine hport ((offerSegment_taken (s := s') (hopen.2 ho) hroom).trans ?_)
      rw [setPort_eq]
      have hbuffered : Port.buffered g (s'.ports.get p) = y := hy
      rw [hbuffered]
    refine ⟨fun ho => hport (offerSegment_gated (s := s') (hopen.not.2 ho)), fun ho hfull => hport (offerSegment_dropped (s := s') (hopen.2 ho) hfull),
      fun ho hb hi => htaken ho (by rw [hb]; decide) (buffered_idle (hopen.2 ho) hb hi),
      fun ho hroom hi => htaken ho hroom (buffered_waits hi)⟩

end Sys2Proof.Machine
end

section
/-! PROOFS. Frame starts (R101, R107, R116, R125, R156 to R158, R162, R199). -/

namespace Sys2Proof.Machine

/-! ## Pending values (R162) -/

section Pending

variable {s : State} {p : Fin 8} {x : Port}

theorem geometryTakes_eq (x : Port) : geometryTakes x = decide (x.geometryPending.getD (x.columns, x.rows) ≠ (x.columns, x.rows)) := by
  unfold geometryTakes
  cases x.geometryPending with
  | none => simp
  | some g =>
    rw [Bool.eq_iff_iff, bne_iff_ne, decide_eq_true_iff]
    rfl

theorem rateTakes_eq (x : Port) : rateTakes x = decide (x.ratePending.getD x.rate ≠ x.rate) := by
  unfold rateTakes
  cases x.ratePending with
  | none => simp
  | some r =>
    rw [Bool.eq_iff_iff, bne_iff_ne, decide_eq_true_iff]
    rfl

/-- A port takes a new value at its frame start. -/
def Port.takesNew (x : Port) : Prop := x.geometryPending.getD (x.columns, x.rows) ≠ (x.columns, x.rows) ∨ x.ratePending.getD x.rate ≠ x.rate

theorem takes_iff (x : Port) : (geometryTakes x || rateTakes x) = true ↔ x.takesNew := by
  rw [Bool.or_eq_true, geometryTakes_eq, rateTakes_eq, decide_eq_true_iff, decide_eq_true_iff]
  rfl

/-- The port with its pending values in force. -/
theorem applyPending_eq (x : Port) : x.applyPending = { x with
    columns := (x.geometryPending.getD (x.columns, x.rows)).1, rows := (x.geometryPending.getD (x.columns, x.rows)).2
    rate := x.ratePending.getD x.rate, mute := x.mute || decide (x.geometryPending.getD (x.columns, x.rows) ≠ (x.columns, x.rows))
    geometryPending := none, ratePending := none } := by
  rw [← geometryTakes_eq]
  rfl

theorem takePending_still (h : ¬ (s.ports.get p).takesNew) : takePending p s = setPort p Port.applyPending s :=
  if_neg ((takes_iff _).not.2 h)

theorem takePending_new (h : (s.ports.get p).takesNew) : takePending p s = sendFromPort p (.geometry
    ((s.ports.get p).geometryPending.getD ((s.ports.get p).columns, (s.ports.get p).rows)).1
    ((s.ports.get p).geometryPending.getD ((s.ports.get p).columns, (s.ports.get p).rows)).2
    ((s.ports.get p).ratePending.getD (s.ports.get p).rate)) (setPort p Port.applyPending s) := by
  have hport : portOf (setPort p Port.applyPending s) p = (s.ports.get p).applyPending := Tab.get_modify_same ..
  refine (if_pos ((takes_iff _).2 h)).trans ?_
  rw [hport]
  rfl

theorem readsBuild_iff (x : Port) : readsBuild x = true ↔ ¬ x.takesNew ∧ x.mode = .live ∧ x.swapHold = false := by
  unfold readsBuild
  rw [Bool.and_eq_true, Bool.and_eq_true, Bool.not_eq_true', Bool.not_eq_true', beq_iff_eq, ← Bool.not_eq_true, takes_iff, and_assoc]

end Pending

/-! ## What lets no build be swapped (R107, R116, R125, R158) -/

section Waits

variable {s : State} {p : Fin 8}

theorem reportOnWay_iff : reportOnWay s p = true
    ↔ (∃ columns rows rate, FromPort.geometry columns rows rate ∈ s.links.pnlCmp.get p) ∨ ∃ mode, FromPort.presence mode ∈ s.links.pnlCmp.get p := by
  unfold reportOnWay
  rw [List.any_eq_true]
  constructor
  · rintro ⟨x, hx, hreport⟩
    cases x with
    | geometry columns rows rate => exact .inl ⟨_, _, _, hx⟩
    | presence mode => exact .inr ⟨_, hx⟩
    | gridCleared epoch => cases hreport
  · rintro (⟨_, _, _, hx⟩ | ⟨_, hx⟩) <;> exact ⟨_, hx, rfl⟩

theorem isFresh_iff {α : Type} (b : Block) (m : Mail α) (s : State) : isFresh b m s = true ↔ s.taken.get (blockIx b) ≤ m.epoch := decide_eq_true_iff

/-- A pane with cells of the current view of a panel, with its state, meets a condition. -/
def Somewhere (s : State) (p : Fin 8) (cond : Pane → PaneState → Prop) : Prop :=
  ∃ j : Fin 8, ∃ z ∈ (viewLayout s p).panes[j.val]?, hasCells (s.cmp.panels.get p) z = true ∧ cond z ((s.cmp.panels.get p).panes.get j)

theorem somePane_iff_somewhere {cond : Pane → PaneState → Bool} {q : Pane → PaneState → Prop} (h : ∀ z y, cond z y = true ↔ q z y) :
    somePane s p cond = true ↔ Somewhere s p q := by
  rw [somePane_iff]
  refine exists_congr fun j => exists_congr fun z => and_congr_right fun _ => and_congr_right fun _ => h ..

theorem condemned_iff (slot : Fin 96) (t : Tst) (z : Pane) (y : PaneState) : (isListing z && condemnedLine slot t y) = true
    ↔ isListing z = true ∧ ∃ r ∈ y.issued, ∃ u ∈ r.tile, u.1 = slot ∧ u.2 < t.purged.get slot := by
  rw [Bool.and_eq_true, condemnedLine_iff]
  refine and_congr_right fun _ => exists_congr fun r => and_congr_right fun _ => ?_
  constructor
  · rintro ⟨k, hk, hlt⟩
    exact ⟨(slot, k), hk, rfl, hlt⟩
  · rintro ⟨⟨i, k⟩, hu, rfl, hlt⟩
    exact ⟨k, hu, hlt⟩

theorem purgeOnWay_iff : purgeOnWay s p = true ↔ ∃ m ∈ s.links.tstCmp, s.taken.get (blockIx .cmp) ≤ m.epoch ∧ ∃ slot, m.body = .purged slot
    ∧ Somewhere s p fun z y => isListing z = true ∧ ∃ r ∈ y.issued, ∃ t ∈ r.tile, t.1 = slot ∧ t.2 < s.tst.purged.get slot := by
  unfold purgeOnWay
  rw [List.any_eq_true]
  refine exists_congr fun m => and_congr_right fun _ => ?_
  obtain ⟨ep, body⟩ := m
  cases body with
  | unpinned => simp
  | purged slot =>
    dsimp only
    rw [Bool.and_eq_true, isFresh_iff, somePane_iff_somewhere fun z y => condemned_iff slot s.tst z y]
    refine and_congr_right fun _ => ⟨fun h => ⟨slot, rfl, h⟩, fun ⟨i, hi, h⟩ => ?_⟩
    obtain rfl : slot = i := by injection hi
    exact h

theorem mixed_iff (y : PaneState) : y.mixed = true ↔ ∃ a ∈ y.issued, ∃ b ∈ y.issued, a.roster ≠ b.roster := by
  unfold PaneState.mixed
  simp only [List.any_eq_true, bne_iff_ne]

theorem rosterOnWay_iff : rosterOnWay s p = true ↔ ∃ m ∈ s.links.schCmp, s.taken.get (blockIx .cmp) ≤ m.epoch
    ∧ Somewhere s p fun z y => namesFilter m.body z = true ∧ ∃ a ∈ y.issued, ∃ b ∈ y.issued, a.roster ≠ b.roster := by
  unfold rosterOnWay
  rw [List.any_eq_true]
  refine exists_congr fun m => and_congr_right fun _ => ?_
  rw [Bool.and_eq_true, isFresh_iff, somePane_iff_somewhere fun z y => by rw [Bool.and_eq_true, mixed_iff]]

theorem swapWaits_iff : swapWaits s p = true ↔ reportOnWay s p = true ∨ purgeOnWay s p = true ∨ rosterOnWay s p = true := by
  unfold swapWaits
  rw [Bool.or_eq_true, Bool.or_eq_true, or_assoc]

end Waits

/-! ## The swap and the frame (R116, R157, R158) -/

section Start

variable {s : State} {p : Fin 8}

theorem doFrameStart_swap (hr : readsBuild (s.ports.get p) = true) (hw : swapWaits s p = false) (hb : (cmpPanel s p).build = .ready) :
    doFrameStart p s = setPort p Port.beginFrame (swapGrids p (setPort p Port.applyPending s)) := by
  have hstill := ((readsBuild_iff _).1 hr).1
  have hready : (cmpPanel (setPort p Port.applyPending s) p).build = .ready := hb
  unfold doFrameStart
  dsimp only
  rw [takePending_still hstill, if_pos ⟨hr, hw, hready⟩]

theorem doFrameStart_plain (h : ¬ (readsBuild (s.ports.get p) = true ∧ swapWaits s p = false ∧ (cmpPanel s p).build = .ready)) :
    doFrameStart p s = setPort p Port.beginFrame (takePending p s) := by
  have hcmp : cmpPanel (takePending p s) p = cmpPanel s p := by
    by_cases hn : (s.ports.get p).takesNew
    · rw [takePending_new hn]
      rfl
    · rw [takePending_still hn]
      rfl
  unfold doFrameStart
  dsimp only
  rw [hcmp]
  exact congrArg _ (if_neg h)

end Start

/-! ## The windows of a layout (R101, R116) -/

theorem hasCells_iff (c : CmpPanel) (x : Pane) : hasCells c x = true ↔ x.top < c.rows ∧ 0 < x.height ∧ x.left < c.columns ∧ 0 < x.width := by
  unfold hasCells clippedHeight clippedWidth
  rw [Bool.and_eq_true, decide_eq_true_iff, decide_eq_true_iff]
  omega

theorem getLsbD_or_shift (a : BitVec 2) (k w : Fin 2) : (a ||| (1#2 <<< k.val)).getLsbD w.val = (a.getLsbD w.val || decide (k = w)) := by
  revert a k w
  decide

theorem foldl_windows (c : CmpPanel) (l : List Pane) (a : BitVec 2) (w : Fin 2) :
    (l.foldl (fun w x => match x.kind with
      | .trailer k => if hasCells c x then w ||| (1#2 <<< k.val) else w
      | _ => w) a).getLsbD w.val = true ↔ a.getLsbD w.val = true ∨ ∃ x ∈ l, x.kind = .trailer w ∧ hasCells c x = true := by
  induction l generalizing a with
  | nil => simp
  | cons x l ih =>
    have hstep : (match x.kind with
        | .trailer k => if hasCells c x then a ||| (1#2 <<< k.val) else a
        | _ => a).getLsbD w.val = true ↔ a.getLsbD w.val = true ∨ (x.kind = .trailer w ∧ hasCells c x = true) := by
      cases x.kind with
      | trailer k =>
        dsimp only
        by_cases hc : hasCells c x = true
        · rw [if_pos hc, getLsbD_or_shift]
          simp [hc]
        · simp [hc]
      | _ => simp
    rw [List.foldl_cons]
    refine (ih _).trans ?_
    rw [hstep, or_assoc]
    refine or_congr_right ?_
    simp only [List.mem_cons, exists_eq_or_imp]

theorem trailerWindows_iff (c : CmpPanel) (l : Layout) (w : Fin 2) : (trailerWindows c l).getLsbD w.val = true
    ↔ ∃ x ∈ l.panes, x.kind = .trailer w ∧ x.top < c.rows ∧ 0 < x.height ∧ x.left < c.columns ∧ 0 < x.width := by
  unfold trailerWindows
  refine (foldl_windows c l.panes 0#2 w).trans ?_
  simp only [hasCells_iff, BitVec.getLsbD_zero, Bool.false_eq_true, false_or]

/-! ## A frame on the panel link (R156, R199) -/

theorem gridPart_length (x : Port) (f : Frame) (sent : Nat) : (x.gridPart f sent).length = f.columns * f.rows := by
  unfold Port.gridPart
  rw [List.length_map, List.length_range]

theorem gridPart_cell (x : Port) (f : Frame) (sent : Nat) {row column : Nat} (hr : row < f.rows) (hc : column < f.columns) :
    (x.gridPart f sent)[row * f.columns + column]? = some (if f.blank = true ∨ (f.blanked = true ∧ sent ≤ row * f.columns + column) then Cell.blank
      else x.active.read (row * 64 + column)) := by
  have hpos : 0 < f.columns := Nat.zero_lt_of_lt hc
  have hlt : row * f.columns + column < f.columns * f.rows := by
    calc row * f.columns + column < row * f.columns + f.columns := Nat.add_lt_add_left hc _
      _ = (row + 1) * f.columns := (Nat.succ_mul ..).symm
      _ ≤ f.rows * f.columns := Nat.mul_le_mul_right _ hr
      _ = f.columns * f.rows := Nat.mul_comm ..
  have hdiv : (row * f.columns + column) / f.columns = row := by
    rw [Nat.mul_comm, Nat.mul_add_div hpos, Nat.div_eq_of_lt hc, Nat.add_zero]
  have hmod : (row * f.columns + column) % f.columns = column := by
    rw [Nat.mul_comm, Nat.mul_add_mod, Nat.mod_eq_of_lt hc]
  unfold Port.gridPart
  rw [List.getElem?_map, List.getElem?_range hlt, Option.map_some]
  unfold Frame.place
  rw [hdiv, hmod]
  rfl

/-- Settles O49: the swap and the plain start by what lets a build be swapped, then the windows and the cells of a frame. -/
theorem frameStarts : Obligations.FrameStarts := by
  unfold Obligations.FrameStarts
  refine ⟨fun p s => ?_, trailerWindows_iff, fun x f sent hp hf => ?_⟩
  · intro x c g r changed y begins reads reported fresh somewhere condemned mixed
    have hreads : readsBuild x = true ↔ reads := readsBuild_iff x
    have hreported : reportOnWay s p = true ↔ reported := reportOnWay_iff
    have hcondemned : purgeOnWay s p = true ↔ condemned := purgeOnWay_iff
    have hmixed : rosterOnWay s p = true ↔ mixed := rosterOnWay_iff
    have hwaits : swapWaits s p = true ↔ reported ∨ condemned ∨ mixed := by
      rw [swapWaits_iff, hreported, hcondemned, hmixed]
    have hy : x.applyPending = y := applyPending_eq x
    have hbegins : Port.beginFrame = begins := rfl
    have hex {t : State} (ht : doFrameStart p s = t) : exec (.frameStart p) s = .next t := congrArg Host.Outcome.next ht
    have hports : setPort p Port.applyPending s = { s with ports := s.ports.set p y } := by
      rw [setPort_eq, ← hy]
    refine ⟨fun hr hread hrep hcon hmix hb => ?_, fun hno => ?_⟩
    · intro t
      have hw : swapWaits s p = false := by
        rw [← Bool.not_eq_true, hwaits]
        exact fun h => h.elim hrep fun h => h.elim hcon hmix
      refine hex ((doFrameStart_swap (hreads.2 hread) hw hb).trans ?_)
      rw [hports, ← hbegins]
      have hswap : swapGrids p ({ s with ports := s.ports.set p y } : State) = t := by
        unfold swapGrids
        rw [setPort_eq]
        dsimp only
        rw [Tab.set_set, Tab.get_set_same]
        rfl
      rw [hswap]
      rfl
    · have hplain : ¬ (readsBuild x = true ∧ swapWaits s p = false ∧ (cmpPanel s p).build = .ready) := by
        rintro ⟨hread, hw, hb⟩
        have hw' : ¬ (reported ∨ condemned ∨ mixed) := by rw [← hwaits, hw]; decide
        rcases hno with h | h | h | h | h
        · exact h (hreads.1 hread)
        · exact hw' (.inl h)
        · exact hw' (.inr (.inl h))
        · exact hw' (.inr (.inr h))
        · exact h hb
      refine hex ((doFrameStart_plain hplain).trans ?_)
      by_cases hn : changed
      · have htake : takePending p s = sendFromPort p (.geometry g.1 g.2 r) (setPort p Port.applyPending s) := takePending_new hn
        rw [htake, hports, if_pos hn, setPort_eq]
        have hset : (s.ports.set p y).set p (begins y) = s.ports.set p (begins y) := Tab.set_set ..
        show ({ s with ports := (s.ports.set p y).set p (begins ((s.ports.set p y).get p)), links := _ } : State) = _
        rw [Tab.get_set_same, hset]
        rfl
      · have htake : takePending p s = setPort p Port.applyPending s := takePending_still hn
        rw [htake, hports, if_neg hn, setPort_eq]
        have hset : (s.ports.set p y).set p (begins y) = s.ports.set p (begins y) := Tab.set_set ..
        show ({ s with ports := (s.ports.set p y).set p (begins ((s.ports.set p y).get p)) } : State) = _
        rw [Tab.get_set_same, hset, Tab.modify_append_nil]
  · refine ⟨x.gridPart f sent, ?_, gridPart_length .., fun row hrow column hcolumn => gridPart_cell x f sent hrow hcolumn⟩
    unfold Port.sending
    rw [hp]
    dsimp only
    rw [hf]
    rfl

end Sys2Proof.Machine
end

section
/-! PROOFS. The trunk interface's own items, the event queue and the return lane (R179, R183, R184, R187 to R193). -/

namespace Sys2Proof.Machine

/-! ## Refusals, items of the TIF, and the event queue -/

theorem refuse_eq (b : Block) (kind key : Nat) (r : Reason) (s : State) :
    refuse b kind r key s = { s with links := s.links.posting b [⟨.refused, key, [kind, r.code], s.lck.clock⟩] } := rfl

/-- A SET's code names no item exactly outside 1 to 25. -/
theorem setValueSize_isNone {item : Nat} (h : item = 0 ∨ 26 ≤ item) : (setValueSize item).isNone = true := by
  unfold setValueSize
  rcases h with rfl | h
  · rfl
  · simp [show item ≠ 0 by omega, show ¬ item ≤ 17 by omega, show ¬ item ≤ 21 by omega, show item ≠ 22 by omega,
      show item ≠ 23 by omega, show ¬ item ≤ 25 by omega]

theorem isTableItem_eq_false {item : Nat} (h : item < 32 ∨ 38 < item) : isTableItem item = false := by
  unfold isTableItem
  rw [Bool.and_eq_false_iff, decide_eq_false_iff_not, decide_eq_false_iff_not]
  omega

/-- An event offered to a queue with room, and to a full one. -/
theorem doEventOffer_room {b : Block} {e : Event} {rest : List Event} {s : State} (h : s.links.posted.get (blockIx b) = e :: rest) :
    doEventOffer b s = onTif (offerEvent e) (s.withLinks { s.links with posted := s.links.posted.set (blockIx b) rest }) := by
  unfold doEventOffer
  rw [h]

theorem offerEvent_room {e : Event} {t : Tif} (h : t.events.length < 16) : offerEvent e t = { t with events := t.events ++ [e] } := if_pos h

theorem offerEvent_full {e : Event} {t : Tif} (h : 16 ≤ t.events.length) : offerEvent e t = flagReportDrop t := if_neg (Nat.not_lt.2 h)

/-- Settles O59: a refusal is one event; the TIF's own packets leave the FIFO as every packet does; a queue has room below 16. -/
theorem refusalsAndEvents : Obligations.RefusalsAndEvents := by
  refine ⟨refuse_eq, fun item key clock bytes rest s => ⟨fun hdel => ⟨fun hitem => ?unknown, fun hitem => ?clear⟩, fun hdel hitem => ?table⟩,
    fun b e rest s hr he => ⟨fun hroom => ?room, fun hfull => ?full⟩⟩
  case unknown => exact deliverTif_next (act := refuse .tif kindSet .badItem item) hdel (if_pos (setValueSize_isNone hitem))
  case clear => exact deliverTif_next (act := onTif clearLink) hdel (if_pos hitem)
  case table =>
    exact deliverTif_next (act := refuse .tif kindTable .badItem item) hdel (if_neg (by simp [isTableItem_eq_false hitem]))
  case room =>
    refine (running_next _ hr).trans (congrArg Host.Outcome.next ((doEventOffer_room he).trans ?_))
    exact congrArg (fun t => ({ s with links := _ } : State).withTif t) (offerEvent_room hroom)
  case full =>
    refine (running_next _ hr).trans (congrArg Host.Outcome.next ((doEventOffer_room he).trans ?_))
    exact congrArg (fun t => ({ s with links := _ } : State).withTif t) (offerEvent_full hfull)

/-! ## The return lane -/

section Lane

variable {t : Tif}

theorem fullReply_eq_some {r : Reply} : fullReply t = some r ↔ t.slot = .full r := by
  unfold fullReply
  cases t.slot <;> simp

theorem fullReply_eq_none : fullReply t = none ↔ ∀ r, t.slot ≠ .full r := by
  unfold fullReply
  cases t.slot <;> simp

theorem ownWaits_iff : ownWaits t = true ↔ (∃ r, t.slot = .full r) ∨ t.events ≠ [] := by
  simp [ownWaits, Option.isSome_iff_exists, fullReply_eq_some]

theorem passWaits_iff : passWaits t = true ↔ t.passBuffer ≠ none := by
  simp [passWaits, Option.isSome_iff_ne_none]

theorem laneFree_iff : laneFree t = true ↔ t.retOut = none ∧ t.upstreamReady = true := by
  simp [laneFree]

theorem grantOwn_reply {r : Reply} (h : t.slot = .full r) :
    grantOwn t = { t with retOut := some (reportBytes t (replyPayload r)), slot := .empty, lastOwn := true } := by
  unfold grantOwn
  rw [fullReply_eq_some.2 h]

theorem grantOwn_event {e : Event} {rest : List Event} (h : ∀ r, t.slot ≠ .full r) (he : t.events = e :: rest) :
    grantOwn t = { t with retOut := some (reportBytes t (eventPayload e)), events := rest, lastOwn := true } := by
  unfold grantOwn
  rw [fullReply_eq_none.2 h, he]

/-- Nothing is granted on a lane that is not free or with no source waiting. -/
theorem grantLane_stays (h : t.retOut ≠ none ∨ t.upstreamReady = false ∨ (ownWaits t = false ∧ passWaits t = false)) : grantLane t = t := by
  unfold grantLane
  rcases h with h | h | ⟨ho, hp⟩
  · exact if_neg fun hf => h (laneFree_iff.1 hf).1
  · exact if_neg fun hf => Bool.false_ne_true (h.symm.trans (laneFree_iff.1 hf).2)
  · simp [ho, hp]

theorem grantLane_own (hf : laneFree t = true) (ho : ownWaits t = true) (hp : passWaits t = false ∨ t.lastOwn = false) :
    grantLane t = grantOwn t := by
  unfold grantLane
  rw [if_pos hf, if_pos]
  rcases hp with hp | hp <;> simp [ho, hp]

theorem grantLane_pass (hf : laneFree t = true) (hp : passWaits t = true) (ho : ownWaits t = false ∨ t.lastOwn = true) :
    grantLane t = grantPass t := by
  unfold grantLane
  rw [if_pos hf, if_neg, if_pos hp]
  rcases ho with ho | ho <;> simp [ho, hp]

theorem receivePass_eq (packet : List Byte) : receivePass packet t = if t.passBuffer = none then { t with passBuffer := some packet } else t := by
  simp only [receivePass, Option.isNone_iff_eq_none]

end Lane

/-- What the lanes send in pin reset, with an empty pass buffer, and with a full one. -/
theorem trunkIdle_inReset {s : State} (h : s.inReset = true) : trunkIdle s = none := if_pos h

theorem trunkIdle_go {s : State} (h : s.inReset = false) (hp : s.tif.passBuffer = none) : trunkIdle s = some .idleGo := by
  simp [trunkIdle, h, hp]

theorem trunkIdle_wait {s : State} (h : s.inReset = false) (hp : s.tif.passBuffer ≠ none) : trunkIdle s = some .idleWait := by
  simp [trunkIdle, h, hp]

theorem returnSends_idle {s : State} (h : s.tif.retOut = none) : returnSends s = if s.inReset then [] else [.fill] := by
  unfold returnSends returnIdle
  rw [h]
  cases s.inReset <;> rfl

theorem returnSends_report {s : State} {bytes : List Byte} (h : s.tif.retOut = some bytes) :
    returnSends s = [.sop] ++ bytes.map .data ++ [.eop] := by
  unfold returnSends
  rw [h]
  rfl

/-- Settles O60: the arbiter's grant, case by case of its two sources, and what the lanes carry. -/
theorem returnLaneAlternates : Obligations.ReturnLaneAlternates := by
  refine ⟨fun s => ⟨fun h => ?_, fun h hp => ?_, fun h hp => ?_, returnSends_idle, fun _ => returnSends_report⟩,
    fun s hr => ?_⟩
  · exact ⟨trunkIdle_inReset h, by rw [signalsReady, trunkIdle_inReset h]; rfl⟩
  · exact ⟨trunkIdle_go h hp, by rw [signalsReady, trunkIdle_go h hp]; rfl⟩
  · exact ⟨trunkIdle_wait h hp, by rw [signalsReady, trunkIdle_wait h hp]; rfl⟩
  intro t gives own pass
  have grants {u : Tif} (h : grantLane t = u) : exec .returnLaneGrant s = .next { s with tif := u } :=
    (running_next _ hr).trans (congrArg (fun u => Host.Outcome.next { s with tif := u }) h)
  have hown : ¬ own → ownWaits t = false := fun h => Bool.eq_false_iff.2 fun hw => h (ownWaits_iff.1 hw)
  have hpass : ¬ pass → passWaits t = false := fun h => Bool.eq_false_iff.2 fun hw => h (passWaits_iff.1 hw)
  refine ⟨fun packet => ?_, fun go => running_next _ hr, running_next _ hr, fun h => ?_, fun hfree hready => ⟨fun hp ho => ?_, fun ho hp => ?_⟩⟩
  · exact (running_next _ hr).trans (congrArg (fun u => Host.Outcome.next { s with tif := u }) (receivePass_eq packet))
  · exact grants (grantLane_stays (h.imp_right (Or.imp_right fun ⟨h1, h2⟩ => ⟨hown h1, hpass h2⟩)))
  · exact grants (grantLane_pass (laneFree_iff.2 ⟨hfree, hready⟩) (passWaits_iff.2 hp) (ho.imp_left hown))
  · have hgrant := grantLane_own (laneFree_iff.2 ⟨hfree, hready⟩) (ownWaits_iff.2 ho) (hp.imp_left hpass)
    exact ⟨fun r hfull => grants (hgrant.trans (grantOwn_reply hfull)),
      fun e rest hslot he => grants (hgrant.trans (grantOwn_event hslot he))⟩

end Sys2Proof.Machine
end

section
/-! PROOFS. Receiving packets and ENUMERATE (R170 to R176, R192, R193). -/

namespace Sys2Proof.Machine

/-! ## ENUMERATE on the forward path (R172, R173) -/

section Enumerate

variable {t : Tif} {e : Enumerating}

theorem enumerate_none (h : t.enumerating = none) : enumerate t = t := by
  unfold enumerate
  rw [h]

theorem enumerate_consumed (h : t.enumerating = some e) (hd : e.destination ≠ 0) : enumerate t = { t with enumerating := none } := by
  unfold enumerate
  rw [h]
  exact if_pos hd

theorem enumerate_assigns (h : t.enumerating = some e) (hd : e.destination = 0) (ha : t.position = 0 ∧ 1 ≤ e.field ∧ e.field ≤ 15) :
    enumerate t = sendForward (packetBytes 17 0 (put1 (e.field + 1))) { t with enumerating := none, position := e.field } := by
  unfold enumerate
  rw [h]
  exact (if_neg (not_not_intro hd)).trans (if_pos ha)

theorem enumerate_passes (h : t.enumerating = some e) (hd : e.destination = 0) (ha : ¬ (t.position = 0 ∧ 1 ≤ e.field ∧ e.field ≤ 15)) :
    enumerate t = sendForward e.bytes { t with enumerating := none } := by
  unfold enumerate
  rw [h]
  exact (if_neg (not_not_intro hd)).trans (if_neg ha)

/-- An ENUMERATE once handled is off the forward path. -/
theorem enumerate_enumerating (t : Tif) : (enumerate t).enumerating = none := by
  unfold enumerate
  split
  next h => exact h
  next e _ =>
    dsimp only
    split
    · rfl
    · split <;> rfl

theorem enumerate_enumerate (t : Tif) : enumerate (enumerate t) = enumerate t := enumerate_none (enumerate_enumerating t)

end Enumerate

/-! ## A framed packet -/

section Receive

variable {clock kind dest : Nat} {bytes payload : List Byte} {frame : TrunkFrame} {t : Tif}

theorem receive_broken (h : frame = .unclosed ∨ frame = .strayEnd ∨ frame = .broken) :
    receive clock frame t = flagFormatFail (countReceived t) := by
  rcases h with rfl | rfl | rfl <;> rfl

theorem receive_formatFailure (h : testFrame bytes = .formatFailure) : receive clock (.whole bytes) t = flagFormatFail (countReceived t) := by
  unfold receive
  dsimp only
  rw [h]

theorem receive_checkFailure (h : testFrame bytes = .checkFailure) : receive clock (.whole bytes) t = flagCheckFail (countReceived t) := by
  unfold receive
  dsimp only
  rw [h]

theorem receive_good (h : testFrame bytes = .good kind dest payload) :
    receive clock (.whole bytes) t = goodPacket clock kind dest payload bytes (countReceived t) := by
  unfold receive
  dsimp only
  rw [h]

theorem isTaken_iff : isTaken t dest = true ↔ dest = 0 ∨ (t.position ≠ 0 ∧ dest = t.position) := by
  simp [isTaken]

/-- A packet for another part is sent on and nothing else. -/
theorem goodPacket_other (hd : dest ≠ 0) (hp : t.position = 0 ∨ dest ≠ t.position) :
    goodPacket clock kind dest payload bytes t = sendForward bytes t := by
  have htaken : ¬ isTaken t dest = true := fun h => (isTaken_iff.1 h).elim hd fun h => hp.elim h.1 (· h.2)
  have hsent : isForwarded t dest = true := by simp [isForwarded, htaken]
  exact (if_neg htaken).trans (if_pos hsent)

/-- What forwarding does to a packet that is taken: only one for every part is sent on. -/
def Tif.passedOn (t : Tif) (dest : Nat) (bytes : List Byte) : Tif :=
  { t with
    counts := { t.counts with forwarded := if dest = 0 then bump t.counts.forwarded else t.counts.forwarded }
    trunkOut := if dest = 0 then some bytes else t.trunkOut }

theorem forward_taken (h : isTaken t dest = true) : forward dest bytes t = t.passedOn dest bytes := by
  unfold forward isForwarded Tif.passedOn
  rw [h]
  by_cases hd : dest = 0
  · simp only [hd]
    rfl
  · simp [hd]

theorem goodPacket_enumerate {field : Nat} (h : isTaken t dest = true) (hp : decodePayload kind payload = some (.enumerate field)) :
    goodPacket clock kind dest payload bytes t = { (countTaken t) with enumerating := some ⟨dest, field, bytes⟩ } := by
  unfold goodPacket
  rw [if_pos h, hp]

theorem goodPacket_kept (h : isTaken t dest = true) (hp : ∀ field, decodePayload kind payload ≠ some (.enumerate field)) :
    goodPacket clock kind dest payload bytes t = keepTaken clock (countTaken (t.passedOn dest bytes)) (decodePayload kind payload) := by
  unfold goodPacket
  rw [if_pos h, forward_taken h]
  split
  next field hf => exact absurd hf (hp field)
  next => rfl

theorem joinFifo_room {p : Packet} (h : t.fifo.length < 4) : joinFifo clock p t = { t with fifo := t.fifo ++ [⟨p, clock⟩] } := if_pos h

theorem joinFifo_full {p : Packet} (h : 4 ≤ t.fifo.length) : joinFifo clock p t = flagOverrun t := if_neg (Nat.not_lt.2 h)

end Receive

/-- Settles O58: the tests, the address decision and what a taken packet is, one after the other. -/
theorem packetsAreReceived : Obligations.PacketsAreReceived := by
  refine ⟨⟨fun frame s hr => ?again, fun frame s hr hnone => ?packet⟩, fun e s hr he => ?enumerated,
    fun s hr => ⟨running_next _ hr, enumerate_none⟩⟩
  case again =>
    have hr' : ({ s with tif := enumerate s.tif } : State).inReset = false := hr
    refine (running_next _ hr).trans (.trans ?_ (running_next _ hr').symm)
    exact congrArg (fun u => Host.Outcome.next { s with tif := receive s.lck.clock frame u }) (enumerate_enumerate s.tif).symm
  case packet =>
    intro t counts gives formatFails
    have hgive {u : Tif} (h : receive s.lck.clock frame t = u) : gives u := by
      refine (running_next _ hr).trans (congrArg (fun u => Host.Outcome.next { s with tif := u }) (.trans ?_ h))
      exact congrArg (receive s.lck.clock frame) (enumerate_none hnone)
    refine ⟨fun h => hgive (receive_broken h), ?_⟩
    rintro bytes rfl
    refine ⟨fun h => hgive (receive_formatFailure h), fun h => hgive (receive_checkFailure h), fun kind dest payload h => ?_⟩
    have hgood {u : Tif} (hu : goodPacket s.lck.clock kind dest payload bytes (countReceived t) = u) : gives u := hgive ((receive_good h).trans hu)
    refine ⟨fun hd hp => hgood (goodPacket_other hd hp), fun hd => ?_⟩
    intro passed kept
    have htaken : isTaken (countReceived t) dest = true := isTaken_iff.2 hd
    have hkeep {d : Option Decoded} {u : Tif} (hpay : decodePayload kind payload = d) (hd : ∀ field, d ≠ some (.enumerate field))
        (hu : keepTaken s.lck.clock (countTaken ((countReceived t).passedOn dest bytes)) d = u) : gives u := by
      subst hpay
      exact hgood ((goodPacket_kept htaken hd).trans hu)
    refine ⟨fun hpay => hkeep hpay nofun rfl, fun p hpay => ⟨fun hroom => ?_, fun hfull => ?_⟩,
      fun f hpay => hkeep hpay nofun rfl, fun field hpay => hgood (goodPacket_enumerate htaken hpay)⟩
    · exact hkeep hpay nofun (joinFifo_room hroom)
    · exact hkeep hpay nofun (joinFifo_full hfull)
  case enumerated =>
    intro t sends assigns
    have hgive {u : Tif} (h : enumerate s.tif = u) : exec .enumerate s = .next { s with tif := u } :=
      (running_next _ hr).trans (congrArg (fun u => Host.Outcome.next { s with tif := u }) h)
    exact ⟨fun hd => hgive (enumerate_consumed he hd), fun hd ha => hgive (enumerate_assigns he hd ha),
      fun hd ha => hgive (enumerate_passes he hd ha)⟩

end Sys2Proof.Machine
end

section
/-! PROOFS. SETs of the schedule, the clock format and the channels (R21, R60, R105, R142, R143, R181). -/

namespace Sys2Proof.Machine

/-! ## The schedule list computed anew (R21) -/

/-- The entries of slot `j` in a list. -/
def ofSlot (j : Fin 96) (l : List SchedEntry) : List SchedEntry := l.filter fun e => e.slot == j

/-- The next entry of a showing in slot `i`, if it has one. -/
def nextEntry (c : Sch) (clock : Nat) (i : Fin 96) : List SchedEntry :=
  (nextDue c clock (c.showings.get i)).toList.map fun d => ⟨i, d.1, d.2⟩

theorem ofSlot_insertEntry_ne {j : Fin 96} {e : SchedEntry} (h : e.slot ≠ j) (l : List SchedEntry) : ofSlot j (insertEntry e l) = ofSlot j l := by
  have he : ¬ (e.slot == j) = true := by simpa using h
  unfold ofSlot
  induction l with
  | nil => simp [insertEntry, he]
  | cons b l ih =>
    unfold insertEntry
    split
    · exact List.filter_cons_of_neg he
    · rw [List.filter_cons, List.filter_cons, ih]

theorem ofSlot_insertEntry_same {e : SchedEntry} {l : List SchedEntry} (h : ofSlot e.slot l = []) : ofSlot e.slot (insertEntry e l) = [e] := by
  have hperm := (insertEntry_perm e l).filter fun b => b.slot == e.slot
  rw [List.filter_cons_of_pos (by simp)] at hperm
  unfold ofSlot at h
  rw [h] at hperm
  exact List.perm_singleton.1 hperm

theorem ofSlot_dropEntry (i j : Fin 96) (l : List SchedEntry) : ofSlot j (dropEntry i l) = if j = i then [] else ofSlot j l := by
  unfold ofSlot dropEntry
  rw [List.filter_filter]
  split
  next hj => simp [List.filter_eq_nil_iff, hj]
  next hj =>
    refine List.filter_congr fun e _ => ?_
    by_cases he : e.slot = j <;> simp [he, hj]

theorem ofSlot_nextList (c : Sch) (clock : Nat) (i j : Fin 96) (l : List SchedEntry) :
    ofSlot j (nextList c clock i (c.showings.get i) l) = if j = i then nextEntry c clock i else ofSlot j l := by
  unfold nextList nextEntry
  split
  next d hd =>
    rw [hd]
    by_cases hj : j = i
    · subst hj
      rw [if_pos rfl]
      exact ofSlot_insertEntry_same (e := ⟨j, d.1, d.2⟩) ((ofSlot_dropEntry j j l).trans (if_pos rfl))
    · exact (ofSlot_insertEntry_ne (Ne.symm hj) _).trans ((ofSlot_dropEntry i j l).trans (by simp [hj]))
  next hd =>
    rw [hd]
    exact ofSlot_dropEntry i j l

theorem nextList_ordered {c : Sch} {clock : Nat} {i : Fin 96} {x : Showing} {l : List SchedEntry}
    (h : l.Pairwise fun a b => entryBefore a b = true) : (nextList c clock i x l).Pairwise fun a b => entryBefore a b = true := by
  have hdrop : (dropEntry i l).Pairwise fun a b => entryBefore a b = true := h.filter _
  unfold nextList
  split
  · exact insertEntry_ordered hdrop fun b hb => (mem_dropEntry.1 hb).2
  · exact hdrop

/-- The entries of some slots recomputed one after the other. -/
def nextLists (c : Sch) (clock : Nat) (slots : List (Fin 96)) (l : List SchedEntry) : List SchedEntry :=
  slots.foldl (fun l i => nextList c clock i (c.showings.get i) l) l

theorem ofSlot_nextLists (c : Sch) (clock : Nat) (slots : List (Fin 96)) (j : Fin 96) (l : List SchedEntry) :
    ofSlot j (nextLists c clock slots l) = if j ∈ slots then nextEntry c clock j else ofSlot j l := by
  unfold nextLists
  induction slots generalizing l with
  | nil => simp
  | cons i slots ih =>
    rw [List.foldl_cons, ih, ofSlot_nextList]
    by_cases hj : j = i
    · subst hj
      simp
    · simp [hj]

theorem nextLists_ordered {c : Sch} {clock : Nat} {slots : List (Fin 96)} {l : List SchedEntry}
    (h : l.Pairwise fun a b => entryBefore a b = true) : (nextLists c clock slots l).Pairwise fun a b => entryBefore a b = true := by
  unfold nextLists
  induction slots generalizing l with
  | nil => exact h
  | cons i slots ih => exact ih (nextList_ordered h)

theorem reschedule_eq (i : Fin 96) (s : State) :
    reschedule i s = s.withSch { s.sch with list := nextList s.sch s.lck.clock i (s.sch.showings.get i) s.sch.list } := by
  unfold reschedule Sch.reschedule nextList
  cases nextDue s.sch s.lck.clock (s.sch.showings.get i) <;> rfl

theorem foldl_reschedule (l : List (Fin 96)) (s : State) :
    l.foldl (fun s i => reschedule i s) s = s.withSch { s.sch with list := nextLists s.sch s.lck.clock l s.sch.list } := by
  induction l generalizing s with
  | nil => rfl
  | cons i l ih =>
    rw [List.foldl_cons, ih, reschedule_eq]
    rfl

/-- The slots of the showings in LISTED to ENDED. -/
def heldSlots (s : State) : List (Fin 96) := (filledSlots s).filter fun i => (s.sch.showings.get i).state != .cancelled

theorem mem_heldSlots {s : State} {i : Fin 96} :
    i ∈ heldSlots s ↔ ¬ ((s.sch.showings.get i).state = .empty ∨ (s.sch.showings.get i).state = .cancelled) := by
  simp [heldSlots, filledSlots, fins, and_comm]

theorem rescheduled_nextLists (s : State) : Rescheduled s.sch s.lck.clock (nextLists s.sch s.lck.clock (heldSlots s) s.sch.list) := by
  refine ⟨fun i => (ofSlot_nextLists ..).trans ?_, nextLists_ordered⟩
  by_cases h : (s.sch.showings.get i).state = .empty ∨ (s.sch.showings.get i).state = .cancelled
  · rw [if_pos h, if_neg fun hi => mem_heldSlots.1 hi h]
    rfl
  · rw [if_neg h, if_pos (mem_heldSlots.2 h)]
    rfl

/-- A setting of the SCH, once stored; the store leaves the showings alone. -/
theorem applySchSetting_eq {store : Sch → Sch} {s : State} (hd : runDue s = false) (hshow : (store s.sch).showings = s.sch.showings) :
    ∃ list, Rescheduled (store s.sch) s.lck.clock list
      ∧ applySchSetting store s = ({ s with
        sch := { store s.sch with list := list }
        links := { s.links with schTst := s.links.schTst ++ (onSaleSlots s).map (mail .sch s) } } : State).noting 14 := by
  have hall := foldl_reschedule (heldSlots (s.withSch (store s.sch))) (s.withSch (store s.sch))
  refine ⟨_, rescheduled_nextLists (s.withSch (store s.sch)), ?_⟩
  unfold applySchSetting rescheduleAll
  rw [hd, noteCause_noting]
  refine (congrArg (fun t => (purgeOnSale t).noting kindSet) hall).trans ?_
  rw [purgeOnSale_eq]
  have hslots : onSaleSlots (s.withSch { store s.sch with
      list := nextLists (store s.sch) s.lck.clock (heldSlots (s.withSch (store s.sch))) (store s.sch).list }) = onSaleSlots s := by
    unfold onSaleSlots
    rw [State.withSch_sch, hshow]
  exact congrArg (fun l => ({ s with
    sch := { store s.sch with list := nextLists (store s.sch) s.lck.clock (heldSlots (s.withSch (store s.sch))) (store s.sch).list }
    links := { s.links with schTst := s.links.schTst ++ l.map (mail .sch s) } } : State).noting 14) hslots

/-! ## Yes-or-no settings -/

theorem yesNo_of_le {v : Nat} (h : v ≤ 1) : yesNo v = some (v == 1) := by
  obtain rfl | rfl : v = 0 ∨ v = 1 := by omega
  all_goals rfl

theorem yesNo_of_lt {v : Nat} (h : 2 ≤ v) : yesNo v = none := by
  rw [← Option.not_isSome_iff_eq_none, yesNo_isSome]
  omega

section YesNo

variable {v : Nat} {s : State}

theorem applyClockFormat_refused (h : 2 ≤ v) : applyClockFormat v s = refuse .cmp 14 .badField 13 s := by
  unfold applyClockFormat
  rw [yesNo_of_lt h]
  rfl

theorem applyClockFormat_stored (h : v ≤ 1) : applyClockFormat v s = ({ s with
    cmp := { s.cmp with twelveHour := v == 1 }
    links := { s.links with cmpTst := s.links.cmpTst ++ (filledSlots s).map (mail .cmp s) } } : State).marked fun _ _ x => isFollowClock x := by
  unfold applyClockFormat
  rw [yesNo_of_le h]
  dsimp only
  rw [markAll_eq, purgeAll, foldl_purge_cmp]
  rfl

theorem takeArbitration_refused (h : 2 ≤ v) : takeArbitration v s = refuse .blc 14 .badField 14 s := by
  unfold takeArbitration
  rw [yesNo_of_lt h]
  rfl

theorem takeArbitration_stored (h : v ≤ 1) : takeArbitration v s = { s with blc := { s.blc with rotating := v == 1 } } := by
  unfold takeArbitration
  rw [yesNo_of_le h]
  rfl

theorem takeRun_refused (h : 2 ≤ v) : takeRun v s = refuse .blc 14 .badField 15 s := by
  unfold takeRun
  rw [yesNo_of_lt h]
  rfl

theorem takeRun_stored (h : v ≤ 1) : takeRun v s = applyRun (v == 1) s := by
  unfold takeRun
  rw [yesNo_of_le h]

theorem applyRun_same {on : Bool} (h : s.blc.run = on) : applyRun on s = s := if_pos h

/-- Every channel not in writing stops. -/
theorem applyRun_off (h : s.blc.run = true) : applyRun false s = { s with blc := { s.blc with
    run := false
    channels := Tab.make 4 fun n =>
      if (s.blc.channels.get n).state = .active ∧ (s.blc.channels.get n).phase ≠ .writing then
        { s.blc.channels.get n with state := .stopped, phase := .none }
      else s.blc.channels.get n } } := by
  unfold applyRun
  rw [if_neg (by simp [h]), if_neg (by simp), Tab.map_eq_make]
  rfl

/-- Every STOPPED channel resumes, in channel order. -/
theorem applyRun_on (h : s.blc.run = false) : applyRun true s = (fins 4).foldl (fun t n =>
    if (t.blc.channels.get n).state = .stopped then
      if (t.blc.channels.get n).current = none then choose n (t.channelled n { t.blc.channels.get n with state := .active } [] [])
      else t.channelled n { t.blc.channels.get n with state := .active, phase := .requesting } [] []
    else t) { s with blc := { s.blc with run := true } } := by
  unfold applyRun
  rw [if_neg (by simp [h]), if_pos rfl]
  refine congrFun (congrFun (congrArg List.foldl (funext fun t => funext fun n => ?_)) _) _
  rw [resumeChannel_eq]
  by_cases hst : (chan t n).state = .stopped
  · refine (if_pos hst).trans (.trans ?_ (if_pos hst).symm)
    cases hj : (chan t n).current with
    | some j => exact (if_pos rfl).trans (if_neg (by simp [show (t.blc.channels.get n).current = some j from hj])).symm
    | none => exact (if_neg (by simp)).trans (if_pos hj).symm
  · exact (if_neg hst).trans (if_neg hst).symm

end YesNo

/-- Settles O52: each SET is delivered and stored or refused; a setting of the schedule ends in the list computed anew. -/
theorem scheduleAndChannelSettings : Obligations.ScheduleAndChannelSettings := by
  refine ⟨fun item key clock bytes rest s hdel => ?sch, fun item key clock bytes rest s => ?other⟩
  case sch =>
    intro v stored
    have hdue : runDue (s.withFifo rest) = false := runDue_of_ready hdel.2
    have hstore {c : Instr} {code : Nat} {store : Nat → Sch → Sch} {d : Sch} (hitem : item = code)
        (hc : exec c s = running s (deliver .sch (pickSet code fun _ v => applySchSetting (store v))))
        (hd : store v s.sch = d) (hshow : d.showings = s.sch.showings) : stored c d := by
      subst hitem hd
      obtain ⟨list, hlist, heq⟩ := applySchSetting_eq (store := store v) hdue hshow
      exact ⟨list, hlist, hc.trans (set_leaves (act := fun _ v => applySchSetting (store v)) hdel heq)⟩
    exact ⟨fun h => hstore (store := fun v c => { c with listLead := clamp 600 43200 v }) h rfl rfl rfl,
      fun h => hstore (store := fun v c => { c with countdownWindow := clamp 60 5940 v }) h rfl rfl rfl,
      fun h => hstore (store := fun v c => { c with boardLead := clamp 0 3600 v }) h rfl
        (congrArg (fun x => { s.sch with boardLead := x }) (Nat.zero_max _)) rfl,
      fun h => hstore (store := fun v c => { c with lateWindow := clamp 0 3600 v }) h rfl
        (congrArg (fun x => { s.sch with lateWindow := x }) (Nat.zero_max _)) rfl⟩
  case other =>
    intro v s'
    refine ⟨?format, fun hdel => ⟨?arb, ?arbBad, ?runBad, ?runSame, ?runOff, ?runOn⟩⟩
    case format =>
      rintro hdel rfl
      exact ⟨fun h => set_leaves (act := fun _ v => applyClockFormat v) hdel (applyClockFormat_stored h),
        fun h => set_leaves (act := fun _ v => applyClockFormat v) hdel (applyClockFormat_refused h)⟩
    case arb =>
      rintro rfl h
      exact set_leaves (act := fun _ v => takeArbitration v) hdel (takeArbitration_stored h)
    case arbBad =>
      rintro rfl h
      exact set_leaves (act := fun _ v => takeArbitration v) hdel (takeArbitration_refused h)
    case runBad =>
      rintro rfl h
      exact set_leaves (act := fun _ v => takeRun v) hdel (takeRun_refused h)
    case runSame =>
      rintro rfl h hsame
      exact set_leaves (act := fun _ v => takeRun v) hdel ((takeRun_stored h).trans (applyRun_same (s := s') hsame))
    case runOff =>
      rintro rfl h hrun
      have hv : (v == 1) = false := by simp [h]
      refine set_leaves (act := fun _ v => takeRun v) hdel ((takeRun_stored (v := v) (by omega)).trans ?_)
      rw [hv]
      exact applyRun_off (s := s') hrun
    case runOn =>
      rintro rfl h hrun
      have hv : (v == 1) = true := by simp [h]
      refine set_leaves (act := fun _ v => takeRun v) hdel ((takeRun_stored (v := v) (by omega)).trans ?_)
      rw [hv]
      exact applyRun_on (s := s') hrun

end Sys2Proof.Machine
end

section
/-! PROOFS. Per-panel SETs and CHANNEL_CLEAR (R85, R86, R105, R146, R151, R160). -/

namespace Sys2Proof.Machine

/-- Byte one of a two-byte key is above 7 exactly where the key is above 2047. -/
theorem asFin_panel_none {key : Nat} (h : 2048 ≤ key) : asFin 8 (key / 256) = none := asFin_eq_none (by omega)

/-! ## SETs of the NTC and the CMP (R85, R86, R105) -/

section Notices

variable {item key v : Nat} {p : Fin 8} {s : State}

theorem panelSet_badItem {f : Option (NtcPanel → NtcPanel)} (h : 8 ≤ key) : panelSet item key f s = refuse .ntc 14 .badItem item s := by
  unfold panelSet
  rw [asFin_eq_none h]
  rfl

theorem panelSet_badField (p : Fin 8) : panelSet item p.val none s = refuse .ntc 14 .badField item s := by
  unfold panelSet
  rw [asFin_val]
  rfl

theorem panelSet_stored (p : Fin 8) (g : NtcPanel → NtcPanel) : panelSet item p.val (some g) s
    = evalTakes p { s with ntc := { s.ntc with panels := s.ntc.panels.set p (g (s.ntc.panels.get p)) } } := by
  unfold panelSet
  rw [asFin_val]
  exact congrArg (evalTakes p) ((setNtcPanel_eq g).trans paneled_nil)

theorem applyNoticeLayout_badItem (h : 2048 ≤ key) : applyNoticeLayout key v s = refuse .ntc 14 .badItem 19 s := by
  unfold applyNoticeLayout
  rw [asFin_panel_none h]
  rfl

theorem applyNoticeLayout_badField (hp : p.val = key / 256) (h : 12 ≤ key % 256 ∨ 16 ≤ v) :
    applyNoticeLayout key v s = refuse .ntc 14 .badField 19 s := by
  unfold applyNoticeLayout
  rw [← hp, asFin_val]
  dsimp only
  split
  next hc hl =>
    have := asFin_eq_some hc
    have := asFin_eq_some hl
    omega
  next => rfl

theorem applyNoticeLayout_stored {c : Fin 12} {l : Fin 16} (hp : p.val = key / 256) (hc : c.val = key % 256) (hl : l.val = v) :
    applyNoticeLayout key v s = storeMap p c l s := by
  unfold applyNoticeLayout
  rw [← hp, ← hc, ← hl, asFin_val, asFin_val, asFin_val]

/-- The panel's view is an entry of the class exactly where a LIVE entry of that class is its view. -/
theorem showsClass_iff {c : Fin 12} :
    showsClass s p c = true ↔ ∃ e n, (s.ntc.panels.get p).view = some e ∧ s.ntc.entries.get e = some n ∧ n.cls = c := by
  unfold showsClass ntcPanel classOf
  cases hv : (s.ntc.panels.get p).view with
  | none => simp
  | some e =>
    have hlt := c.isLt
    cases he : s.ntc.entries.get e with
    | none => simp [he, show (12 : Nat) ≠ c.val by omega]
    | some n =>
      dsimp only
      rw [he]
      refine Iff.trans (beq_iff_eq.trans Fin.ext_iff.symm) ⟨fun h => ⟨e, n, rfl, he, h⟩, fun ⟨e', n', h1, h2, h3⟩ => ?_⟩
      cases h1
      rw [he] at h2
      cases h2
      exact h3

/-- A panel's notice state with a layout of a class stored in its map (R86). -/
def NtcPanel.mapped (x : NtcPanel) (c : Fin 12) (l : Fin 16) : NtcPanel := { x with map := x.map.set c l }

theorem storeMap_hidden {c : Fin 12} {l : Fin 16}
    (h : ∀ e n, (s.ntc.panels.get p).view = some e → s.ntc.entries.get e = some n → n.cls ≠ c) :
    storeMap p c l s = s.paneled p ((ntcPanel s p).mapped c l) [] := by
  unfold storeMap
  rw [setNtcPanel_eq]
  refine if_neg fun hs => ?_
  obtain ⟨e, n, hv, he, hc⟩ := showsClass_iff.1 hs
  refine h e n ?_ he hc
  have hview : (ntcPanel (s.paneled p ((ntcPanel s p).mapped c l) []) p).view = some e := hv
  rw [ntcPanel_paneled] at hview
  exact hview

theorem storeMap_shown {c : Fin 12} {l : Fin 16} {e : Fin 24} {n : Notice} (hv : (s.ntc.panels.get p).view = some e)
    (he : s.ntc.entries.get e = some n) (hc : n.cls = c) :
    storeMap p c l s = s.paneled p ((ntcPanel s p).mapped c l) [.view ⟨p, some e, some c, some l, Tab.fill 8 0⟩] := by
  have hpanel : ntcPanel (s.paneled p ((ntcPanel s p).mapped c l) []) p = (ntcPanel s p).mapped c l := ntcPanel_paneled
  have hview : (ntcPanel (s.paneled p ((ntcPanel s p).mapped c l) []) p).view = some e := by
    rw [hpanel]
    exact hv
  have hchange : viewChange (s.paneled p ((ntcPanel s p).mapped c l) []) p (some e) (Tab.fill 8 0)
      = ⟨p, some e, some c, some l, Tab.fill 8 0⟩ := by
    have he' : (s.paneled p ((ntcPanel s p).mapped c l) []).ntc.entries.get e = some n := he
    unfold viewChange mapLayout
    dsimp only
    rw [he', hpanel]
    dsimp only
    rw [hc, NtcPanel.mapped, Tab.get_set_same]
  unfold storeMap
  rw [setNtcPanel_eq]
  refine (if_pos (showsClass_iff.2 ⟨e, n, hview, he, hc⟩)).trans ?_
  have hself : { (ntcPanel s p).mapped c l with view := some e } = (ntcPanel s p).mapped c l := by
    rw [← show ((ntcPanel s p).mapped c l).view = some e from hv]
  have hview' : (ntcPanel (setNtcPanel p (fun x => { x with map := x.map.set c l }) s) p).view = some e := hview
  rw [setNtcPanel_eq] at hview'
  rw [hview', showView_eq]
  refine (congrArg₂ (fun x z => (s.paneled p ((ntcPanel s p).mapped c l) []).paneled p x [.view z]) ?_ hchange).trans paneled_paneled
  rw [← hself]
  exact congrArg (fun x : NtcPanel => { x with view := some e }) hpanel

theorem applyBaseLayout_badItem (h : 8 ≤ key) : applyBaseLayout key v s = refuse .cmp 14 .badItem 20 s := by
  unfold applyBaseLayout
  rw [asFin_eq_none h]
  rfl

theorem applyBaseLayout_badField (p : Fin 8) (h : 16 ≤ v) : applyBaseLayout p.val v s = refuse .cmp 14 .badField 20 s := by
  unfold applyBaseLayout
  rw [asFin_val, asFin_eq_none h]
  rfl

theorem applyBaseLayout_stored (p : Fin 8) (l : Fin 16) : applyBaseLayout p.val l.val s = storeBaseLayout p l s := by
  unfold applyBaseLayout
  rw [asFin_val, asFin_val]

end Notices

/-! ## SETs of the ports (R151, R160) -/

section Ports

variable {item key v : Nat} {p : Fin 8} {s : State}

theorem portSet_badItem {f : Option (Fin 8 → State → State)} (h : 8 ≤ key) : portSet item key f s = refuse .pnl 14 .badItem item s := by
  unfold portSet
  rw [asFin_eq_none h]
  rfl

theorem portSet_badField {f : Option (Fin 8 → State → State)} (p : Fin 8) (h : f = none) :
    portSet item p.val f s = refuse .pnl 14 .badField item s := by
  subst h
  unfold portSet
  rw [asFin_val]
  rfl

theorem portSet_taken {f : Option (Fin 8 → State → State)} {g : Fin 8 → State → State} (p : Fin 8) (h : f = some g) :
    portSet item p.val f s = g p s := by
  subst h
  unfold portSet
  rw [asFin_val]

/-- What going DARK leaves of a LIVE port. -/
theorem darkened_eq (x : Port) : { x.drain.silenceLink with enable := false, mode := .dark } = { x with
    enable := false, mode := .dark, presence := 0, mute := true, buffer := [], segment := none
    gated := min 65535 (x.gated + (x.buffer.length + if x.segment = none then 0 else 1))
    frame := none, frameWaiting := none, phase := .idle } := by
  rw [← segmentsHeld_eq]
  rfl

theorem disablePort_dark (h : (s.ports.get p).mode = .dark) :
    disablePort p s = { s with ports := s.ports.set p { s.ports.get p with enable := false } } := by
  unfold disablePort portOf
  rw [h]
  rfl

theorem disablePort_waiting (h : (s.ports.get p).mode = .waiting) : disablePort p s = { s with ports := s.ports.set p { s.ports.get p with
    enable := false, mode := .dark, presence := 0, frame := none, frameWaiting := none, phase := .idle } } := by
  unfold disablePort portOf
  rw [h]
  rfl

theorem disablePort_live (h : (s.ports.get p).mode = .live) : disablePort p s = { s with
    ports := s.ports.set p { (s.ports.get p).drain.silenceLink with enable := false, mode := .dark }
    links := { s.links with
      pnlCmp := s.links.pnlCmp.modify p fun l => l ++ [.presence .dark]
      pnlNtc := s.links.pnlNtc.modify p fun l => l ++ [.dark] } } := by
  unfold disablePort portOf
  rw [h]
  rfl

end Ports

/-! ## CHANNEL_CLEAR (R146) -/

section Clear

variable {s : State} {n : Fin 4}

/-- What a clear leaves of a faulted channel but for its state: the faulted job and the others of its panel gone, the record marked. -/
def Channel.clearedOf (c : Channel) (p : Fin 8) : Channel :=
  { c with
    announce := c.announce.filter fun k => !(k.panel == p)
    normal := c.normal.filter fun k => !(k.panel == p)
    aside := c.aside.filter fun k => !(k.panel == p)
    current := none
    fault := c.fault.map fun f => { f with cleared := true }
    counts := { c.counts with
      cleared := more c.counts.cleared
      abandoned := (c.aside.filter fun k => k.panel == p).toList.foldl (fun k _ => more k) c.counts.abandoned } }

theorem leaveFault_on (d : Channel) (r : List FromChannel) (u : List TileRef) (h : s.blc.run = true) : leaveFault n (s.channelled n d r u)
    = choose n (s.channelled n { d with fault := d.fault.map fun f => { f with cleared := true }, state := .active } r u) := by
  unfold leaveFault
  rw [setChan_eq, State.channelled_channelled, chan_channelled_same]
  refine (if_pos h).trans ?_
  rw [setChan_eq, State.channelled_channelled, chan_channelled_same, List.append_nil, List.append_nil, List.append_nil, List.append_nil]

theorem leaveFault_off (d : Channel) (r : List FromChannel) (u : List TileRef) (h : s.blc.run = false) : leaveFault n (s.channelled n d r u)
    = s.channelled n { d with
        fault := d.fault.map fun f => { f with cleared := true }
        state := if hasWork d then .stopped else .idle, phase := .none } r u := by
  unfold leaveFault
  rw [setChan_eq, State.channelled_channelled, chan_channelled_same]
  refine (if_neg (Bool.eq_false_iff.1 h)).trans ?_
  rw [stopStep_eq, State.channelled_channelled, chan_channelled_same, List.append_nil, List.append_nil, List.append_nil, List.append_nil]
  rfl

/-- The reports and the unpinned tiles of a clear of a faulted job: its own first, then those of its panel's other jobs. -/
def Channel.clearReports (c : Channel) (j : Job) : List FromChannel :=
  [.cleared j.panel j.number] ++ discards .announce (c.announce.filter fun k => k.panel == j.panel)
    ++ discards .normal (c.normal.filter fun k => k.panel == j.panel)
    ++ (c.aside.filter fun k => k.panel == j.panel).toList.map fun k => .abandoned k.panel k.number

def Channel.clearUnpins (c : Channel) (j : Job) : List TileRef :=
  (j :: (c.announce.filter (fun k => k.panel == j.panel) ++ c.normal.filter fun k => k.panel == j.panel)
    ++ (c.aside.filter fun k => k.panel == j.panel).toList).flatMap unpinsOf

/-- A channel that has no current job has nothing cut short. -/
theorem cutShort_of_none {c : Channel} (h : c.current = none) (p : Fin 8) : c.cancelled p = none ∧ c.cutShort p = none := by
  have hc : c.cancelled p = none := by simp [Channel.cancelled, h]
  exact ⟨hc, by simp [Channel.cutShort, hc]⟩

/-- Of a channel whose faulted job is gone a cancel abandons the aside job only. -/
theorem abandoned_endFaulted (c : Channel) (p : Fin 8) :
    (countCleared { c with current := none }).abandoned p = (c.aside.filter fun k => k.panel == p).toList := by
  rw [Channel.abandoned, (cutShort_of_none (c := countCleared { c with current := none }) rfl p).2]
  exact List.append_nil _

/-- The faulted job and its panel's other jobs ended, in one step. -/
theorem cancelJobs_endFaulted (j : Job) : cancelJobs n j.panel (endFaulted n j s) = s.channelled n
    ((countCleared { chan s n with current := none }).without j.panel) ((chan s n).clearReports j) ((chan s n).clearUnpins j) := by
  have hgone := abandoned_endFaulted (chan s n) j.panel
  rw [endFaulted_eq, cancelJobs_eq, State.channelled_channelled, chan_channelled_same, hgone]
  rfl

theorem without_eq_clearedOf (c : Channel) (p : Fin 8) :
    { (countCleared { c with current := none }).without p with fault := c.fault.map fun f => { f with cleared := true } } = c.clearedOf p := by
  obtain ⟨hcancelled, hcut⟩ := cutShort_of_none (c := countCleared { c with current := none }) rfl p
  rw [Channel.without, abandoned_endFaulted, hcancelled, hcut]
  rfl

theorem clearChannel_eq {j : Job} (hs : (chan s n).state = .fault) (hj : (chan s n).current = some j) :
    clearChannel n s = leaveFault n (cancelJobs n j.panel (endFaulted n j s)) := by
  unfold clearChannel
  rw [if_pos hs, hj]

theorem clearChannel_on {j : Job} (hs : (chan s n).state = .fault) (hj : (chan s n).current = some j) (h : s.blc.run = true) :
    clearChannel n s = choose n (s.channelled n { (chan s n).clearedOf j.panel with state := .active }
      ((chan s n).clearReports j) ((chan s n).clearUnpins j)) := by
  rw [clearChannel_eq hs hj, cancelJobs_endFaulted, leaveFault_on _ _ _ h, ← without_eq_clearedOf]
  rfl

theorem clearChannel_off {j : Job} (hs : (chan s n).state = .fault) (hj : (chan s n).current = some j) (h : s.blc.run = false) :
    clearChannel n s = s.channelled n { (chan s n).clearedOf j.panel with
        state := if hasWork ((chan s n).clearedOf j.panel) then .stopped else .idle, phase := .none }
      ((chan s n).clearReports j) ((chan s n).clearUnpins j) := by
  rw [clearChannel_eq hs hj, cancelJobs_endFaulted, leaveFault_off _ _ _ h, ← without_eq_clearedOf]
  rfl

theorem takeChannelClear_none {key : Nat} (h : 4 ≤ key) : takeChannelClear key s = refuse .blc 14 .badItem 24 s := by
  unfold takeChannelClear
  rw [asFin_eq_none h]
  rfl

theorem takeChannelClear_some (n : Fin 4) : takeChannelClear n.val s = clearChannel n s := by
  unfold takeChannelClear
  rw [asFin_val]

end Clear

/-- Settles O54: each SET by its panel and its value, a clear by the state of the channel. -/
theorem panelSettings : Obligations.PanelSettings := by
  refine ⟨fun item key clock bytes rest s => ?blocks, fun item key clock bytes rest s hdel => ?ports,
    fun key clock bytes rest s hdel => ?clear⟩
  case blocks =>
    intro v s'
    refine ⟨fun hdel => ?ntc, ?cmp⟩
    case ntc =>
      intro refused
      refine ⟨fun hkey => ⟨?_, ?_, ?_⟩, ?_, fun p => ?_⟩
      · rintro rfl
        exact set_leaves (act := fun p v => panelSet 16 p (if v < 4096 then _ else _)) hdel (panelSet_badItem hkey)
      · rintro rfl
        exact set_leaves (act := fun p v => panelSet 17 p (if v < 4096 then _ else _)) hdel (panelSet_badItem hkey)
      · rintro rfl
        exact set_leaves (act := fun p v => panelSet 18 p ((yesNo v).map _)) hdel (panelSet_badItem hkey)
      · rintro hkey rfl
        exact set_leaves (act := applyNoticeLayout) hdel (applyNoticeLayout_badItem hkey)
      intro x store
      refine ⟨?_, ?_⟩
      · rintro rfl
        refine ⟨?_, ?_, ?_⟩
        · rintro rfl
          have hset {u : State} (hu : panelSet 16 p.val (if v < 4096 then some fun x => { x with enableMask := BitVec.ofNat 12 v }
                else none) s' = u) :
              exec .setEnableMask s = .next u := set_leaves (act := fun p v => panelSet 16 p (if v < 4096 then _ else _)) hdel hu
          exact ⟨fun hv => hset (by rw [if_pos hv]; exact panelSet_stored p _),
            fun hv => hset (by rw [if_neg (Nat.not_lt.2 hv)]; exact panelSet_badField p)⟩
        · rintro rfl
          have hset {u : State} (hu : panelSet 17 p.val (if v < 4096 then some fun x => { x with closedMask := BitVec.ofNat 12 v }
                else none) s' = u) :
              exec .setClosedMask s = .next u := set_leaves (act := fun p v => panelSet 17 p (if v < 4096 then _ else _)) hdel hu
          exact ⟨fun hv => hset (by rw [if_pos hv]; exact panelSet_stored p _),
            fun hv => hset (by rw [if_neg (Nat.not_lt.2 hv)]; exact panelSet_badField p)⟩
        · rintro rfl
          have hset {u : State} (hu : panelSet 18 p.val ((yesNo v).map fun b x => { x with hold := b }) s' = u) :
              exec .setNoticeHold s = .next u := set_leaves (act := fun p v => panelSet 18 p ((yesNo v).map _)) hdel hu
          exact ⟨fun hv => hset (by rw [yesNo_of_le hv]; exact panelSet_stored p _),
            fun hv => hset (by rw [yesNo_of_lt hv]; exact panelSet_badField p)⟩
      · rintro hp rfl
        refine ⟨fun h => set_leaves (act := applyNoticeLayout) hdel (applyNoticeLayout_badField hp h), fun c l hc hl => ?_⟩
        intro y
        have hset {u : State} (hu : storeMap p c l s' = u) : exec .setNoticeLayout s = .next u :=
          set_leaves (act := applyNoticeLayout) hdel ((applyNoticeLayout_stored hp hc hl).trans hu)
        exact ⟨fun e n hv he hcls => hset (storeMap_shown hv he hcls), fun h => hset ((storeMap_hidden (s := s') h).trans paneled_nil)⟩
    case cmp =>
      rintro hdel rfl
      refine ⟨fun hkey => set_leaves (act := applyBaseLayout) hdel (applyBaseLayout_badItem hkey), ?_⟩
      rintro p rfl
      refine ⟨fun hv => set_leaves (act := applyBaseLayout) hdel (applyBaseLayout_badField p hv), fun l hl => ?_⟩
      intro t
      have hstore : applyBaseLayout p.val v s' = storeBaseLayout p l s' := by
        rw [← hl]
        exact applyBaseLayout_stored p l
      exact set_leaves (act := applyBaseLayout) hdel hstore
  case ports =>
    intro v s' refused
    refine ⟨fun hkey => ⟨?_, ?_, ?_⟩, ?_⟩
    · rintro rfl
      exact set_leaves (act := fun p v => portSet 21 p (enableAction v)) hdel (portSet_badItem hkey)
    · rintro rfl
      exact set_leaves (act := fun p v => portSet itemPanelGeometry p (geometryAction v)) hdel (portSet_badItem hkey)
    · rintro rfl
      exact set_leaves (act := fun p v => portSet itemPanelRate p (rateAction v)) hdel (portSet_badItem hkey)
    rintro p rfl
    intro x store
    refine ⟨?_, ?_, ?_⟩
    · rintro rfl
      have hset {u : State} (hu : portSet 21 p.val (enableAction v) s' = u) : exec .setPanelEnable s = .next u :=
        set_leaves (act := fun p v => portSet 21 p (enableAction v)) hdel hu
      have hon (hv : v = 1) : enableAction v = some enablePort := by rw [hv]; rfl
      have hoff (hv : v = 0) : enableAction v = some disablePort := by rw [hv]; rfl
      refine ⟨fun hv => hset (portSet_badField p ?_), fun hv => hset ((portSet_taken p (hon hv)).trans ?_),
        fun hv hm => hset ((portSet_taken p (hoff hv)).trans (disablePort_dark hm)),
        fun hv hm => hset ((portSet_taken p (hoff hv)).trans (disablePort_waiting hm)),
        fun hv hm => hset ((portSet_taken p (hoff hv)).trans ?_)⟩
      · rw [enableAction, yesNo_of_lt hv]
        rfl
      · exact setPort_eq ..
      · refine (disablePort_live (s := s') hm).trans ?_
        rw [darkened_eq]
        rfl
    · rintro rfl ok
      have hset {u : State} (hu : portSet 22 p.val (geometryAction v) s' = u) : exec .setPanelGeometry s = .next u :=
        set_leaves (act := fun p v => portSet itemPanelGeometry p (geometryAction v)) hdel hu
      exact ⟨fun h => hset ((portSet_taken p (if_pos h)).trans (setPort_eq _)), fun h => hset (portSet_badField p (if_neg h))⟩
    · rintro rfl
      have hset {u : State} (hu : portSet 23 p.val (rateAction v) s' = u) : exec .setPanelRate s = .next u :=
        set_leaves (act := fun p v => portSet itemPanelRate p (rateAction v)) hdel hu
      exact ⟨fun h => hset ((portSet_taken p (if_pos h)).trans (setPort_eq _)),
        fun h h' => hset (portSet_badField p (if_neg (not_or.2 ⟨h, h'⟩)))⟩
  case clear =>
    intro s'
    refine ⟨fun hkey => set_leaves (act := fun k _ => takeChannelClear k) hdel (takeChannelClear_none hkey), ?_⟩
    rintro n rfl
    intro c
    have hclear {u : State} (hu : clearChannel n s' = u) : exec .setChannelClear s = .next u :=
      set_leaves (act := fun k _ => takeChannelClear k) hdel ((takeChannelClear_some n).trans hu)
    exact ⟨fun hs => hclear (if_neg hs), fun j hs hj => ⟨fun hr => hclear (clearChannel_on (s := s') hs hj hr),
      fun hr => hclear (clearChannel_off (s := s') hs hj hr)⟩⟩

end Sys2Proof.Machine
end

section
/-! PROOFS. The bodies of a TABLE packet: which are in range, and the entry that each becomes (R8, R64, R66, R67, R100, R104, R198). -/

namespace Sys2Proof.Machine

/-! ## Codes -/

theorem fieldKindOf_eq_some {v : Nat} {k : FieldKind} (h : fieldKindOf v = some k) : k.code = v ∧ v < 10 := by
  unfold fieldKindOf at h
  split at h <;> cases h <;> exact ⟨rfl, by decide⟩

theorem fieldKindOf_isSome (v : Nat) : (fieldKindOf v).isSome = true ↔ v < 10 := by
  refine ⟨fun h => ?_, fun h => ?_⟩
  · obtain ⟨x, hx⟩ := Option.isSome_iff_exists.1 h
    exact (fieldKindOf_eq_some hx).2
  · interval_cases v <;> rfl

theorem alignmentOf_eq_some {v : Nat} {a : Alignment} (h : alignmentOf v = some a) : a.code = v ∧ v < 3 := by
  unfold alignmentOf at h
  split at h <;> cases h <;> exact ⟨rfl, by decide⟩

theorem alignmentOf_isSome (v : Nat) : (alignmentOf v).isSome = true ↔ v < 3 := by
  refine ⟨fun h => ?_, fun h => ?_⟩
  · obtain ⟨x, hx⟩ := Option.isSome_iff_exists.1 h
    exact (alignmentOf_eq_some hx).2
  · interval_cases v <;> rfl

theorem clockFormOf_eq_some {v : Nat} {a : ClockForm} (h : clockFormOf v = some a) : a.code = v ∧ v < 3 := by
  unfold clockFormOf at h
  split at h <;> cases h <;> exact ⟨rfl, by decide⟩

theorem clockFormOf_isSome (v : Nat) : (clockFormOf v).isSome = true ↔ v < 3 := by
  refine ⟨fun h => ?_, fun h => ?_⟩
  · obtain ⟨x, hx⟩ := Option.isSome_iff_exists.1 h
    exact (clockFormOf_eq_some hx).2
  · interval_cases v <;> rfl

theorem inkOk_iff (v : Nat) : inkOk v = true ↔ v < 16 := by
  rw [inkOk, decide_eq_true_iff]
  omega

/-- A bit of a flags byte, by division. -/
theorem flag_eq_testBit (n i : Nat) : (n / 2 ^ i % 2 == 1) = n.testBit i := (Nat.testBit_eq_decide_div_mod_eq ..).symm

/-! ## Every element of a list -/

section AllOf

variable {α β : Type} {f : α → Option β} {l : List α} {r : List β}

theorem allOf_cons (a : α) : allOf f (a :: l) = (f a).bind fun b => (allOf f l).map fun r => b :: r := by
  rw [allOf]
  cases f a <;> cases allOf f l <;> rfl

theorem allOf_isSome : (allOf f l).isSome = true ↔ ∀ a ∈ l, (f a).isSome = true := by
  induction l with
  | nil => simp [allOf]
  | cons a l ih =>
    rw [List.forall_mem_cons, ← ih, allOf_cons]
    cases f a <;> cases allOf f l <;> simp

theorem allOf_cons_eq_some {a : α} (h : allOf f (a :: l) = some r) : ∃ b r', f a = some b ∧ allOf f l = some r' ∧ r = b :: r' := by
  rw [allOf_cons] at h
  obtain ⟨b, hb, h⟩ := Option.bind_eq_some_iff.1 h
  obtain ⟨r', hr, rfl⟩ := Option.map_eq_some_iff.1 h
  exact ⟨b, r', hb, hr, rfl⟩

theorem allOf_length (h : allOf f l = some r) : r.length = l.length := by
  induction l generalizing r with
  | nil => cases h; rfl
  | cons a l ih =>
    obtain ⟨b, r', -, hr, rfl⟩ := allOf_cons_eq_some h
    exact congrArg (· + 1) (ih hr)

theorem allOf_getElem? (h : allOf f l = some r) {i : Nat} {a : α} {b : β} (ha : l[i]? = some a) (hb : r[i]? = some b) : f a = some b := by
  induction l generalizing r i with
  | nil => cases ha
  | cons c l ih =>
    obtain ⟨d, r', hd, hr, rfl⟩ := allOf_cons_eq_some h
    cases i with
    | zero =>
      cases ha
      cases hb
      exact hd
    | succ i => exact ih hr ha hb

/-- What gives each element back from what it became gives the list back. -/
theorem map_allOf {g : β → α} (hg : ∀ a b, f a = some b → g b = a) (h : allOf f l = some r) : r.map g = l := by
  induction l generalizing r with
  | nil => cases h; rfl
  | cons a l ih =>
    obtain ⟨b, r', hb, hr, rfl⟩ := allOf_cons_eq_some h
    rw [List.map_cons, hg a b hb, ih hr]

end AllOf

/-! ## Titles -/

section Titles

variable {long short : List Nat} {hint : Nat}

theorem titleOf_isSome : (titleOf long short hint).isSome = true
    ↔ long.length ≤ 40 ∧ short.length ≤ 16 ∧ (∀ g ∈ long ++ short, g ≤ 1023) ∧ (hint < 2 ∨ hint = 255) := by
  rw [← optIndex_isSome, List.forall_mem_append, ← glyphsOk_iff, ← glyphsOk_iff]
  unfold titleOf
  cases optIndex 2 hint with
  | none => simp
  | some h =>
    dsimp only
    split
    next hok => simpa using hok
    next hok => simpa using hok

theorem optIndex_of_lt {n v : Nat} (h : v < n) (hne : v ≠ 255) : optIndex n v = some (some ⟨v, h⟩) := by
  unfold optIndex asFin
  rw [if_neg hne, dif_pos h]
  rfl

theorem titleOf_eq_some {t : Title} (h : titleOf long short hint = some t) :
    t.long = long ∧ t.short = short ∧ (hint = 255 → t.hint = none) ∧ (hint < 2 → t.hint.map Fin.val = some hint) := by
  unfold titleOf at h
  split at h
  next x hx =>
    split_ifs at h
    cases h
    refine ⟨rfl, rfl, fun hh => ?_, fun hh => ?_⟩
    · rw [hh] at hx
      cases hx
      rfl
    · rw [optIndex_of_lt hh (by omega)] at hx
      cases hx
      rfl
  next => cases h

end Titles

/-! ## Layouts -/

/-- The option bytes of a pane are in range for its kind. -/
def PaneOptionsOk (x : RawPane) : Prop :=
  (x.kind = 0 ∧ x.o0 < 8 ∧ x.o1 < 4) ∨ (x.kind = 1 ∧ x.o0 < 2) ∨ (x.kind = 2 ∧ x.o0 < 16 ∧ x.o1 < 16)
    ∨ (x.kind = 3 ∧ x.o0 < 3 ∧ x.o1 < 16 ∧ x.o2 < 16) ∨ (x.kind = 4 ∧ x.o0 < 16 ∧ x.o1 < 16)
    ∨ (x.kind = 5 ∧ x.o0 < 48 ∧ x.o1 < 16 ∧ x.o2 < 16)

/-- The kind and options of a pane are those that its bytes name. -/
def PaneKindIs (x : RawPane) : PaneKind → Prop
  | .listing f st dwell => x.kind = 0 ∧ f.val = x.o0 ∧ st.val = x.o1 ∧ dwell = max 4 (min 60 x.o2)
  | .trailer w => x.kind = 1 ∧ w.val = x.o0
  | .deskStrip ink paper => x.kind = 2 ∧ ink = x.o0 ∧ paper = x.o1
  | .clock form ink paper => x.kind = 3 ∧ form.code = x.o0 ∧ ink = x.o1 ∧ paper = x.o2
  | .noticeText ink paper => x.kind = 4 ∧ ink = x.o0 ∧ paper = x.o1
  | .text p ink paper => x.kind = 5 ∧ p.val = x.o0 ∧ ink = x.o1 ∧ paper = x.o2

theorem ite_some_isSome {α : Type} {p : Prop} [Decidable p] {a : α} : (if p then some a else none).isSome = true ↔ p := by
  split <;> simp_all

theorem paneKindOf_isSome (x : RawPane) : (paneKindOf x).isSome = true ↔ PaneOptionsOk x := by
  unfold paneKindOf PaneOptionsOk
  simp only [← asFin_isSome 8, ← asFin_isSome 4, ← asFin_isSome 2, ← asFin_isSome 48, ← inkOk_iff, ← clockFormOf_isSome]
  split
  next h =>
    cases asFin 8 x.o0 <;> cases asFin 4 x.o1 <;> simp [h]
  next h => simp [h]
  next h => cases inkOk x.o0 <;> cases inkOk x.o1 <;> simp [h]
  next h => cases clockFormOf x.o0 <;> cases inkOk x.o1 <;> cases inkOk x.o2 <;> simp [h]
  next h => cases inkOk x.o0 <;> cases inkOk x.o1 <;> simp [h]
  next h => cases asFin 48 x.o0 <;> cases inkOk x.o1 <;> cases inkOk x.o2 <;> simp [h]
  next => simp_all

theorem paneKindOf_eq_some {x : RawPane} {k : PaneKind} (h : paneKindOf x = some k) : PaneKindIs x k := by
  unfold paneKindOf at h
  split at h
  next hk =>
    split at h
    next f st hf hst =>
      cases h
      exact ⟨hk, (asFin_eq_some hf).symm, (asFin_eq_some hst).symm, rfl⟩
    next => cases h
  next hk =>
    obtain ⟨w, hw, rfl⟩ := Option.map_eq_some_iff.1 h
    exact ⟨hk, (asFin_eq_some hw).symm⟩
  next hk =>
    split_ifs at h
    cases h
    exact ⟨hk, rfl, rfl⟩
  next hk =>
    split at h
    next f hf =>
      split_ifs at h
      cases h
      exact ⟨hk, (clockFormOf_eq_some hf).1, rfl, rfl⟩
    next => cases h
  next hk =>
    split_ifs at h
    cases h
    exact ⟨hk, rfl, rfl⟩
  next hk =>
    split at h
    next p hp =>
      split_ifs at h
      cases h
      exact ⟨hk, (asFin_eq_some hp).symm, rfl, rfl⟩
    next => cases h
  next => cases h

theorem paneOf_isSome (x : RawPane) : (paneOf x).isSome = true ↔ x.top ≤ 35 ∧ x.left ≤ 63 ∧ 1 ≤ x.height ∧ x.height ≤ 36
    ∧ 1 ≤ x.width ∧ x.width ≤ 64 ∧ PaneOptionsOk x := by
  unfold paneOf
  split
  next h =>
    obtain ⟨h1, h2, h3, h4, h5, h6⟩ := h
    rw [Option.isSome_map, paneKindOf_isSome]
    exact ⟨fun hk => ⟨h1, h2, h3, h4, h5, h6, hk⟩, fun ⟨_, _, _, _, _, _, hk⟩ => hk⟩
  next h => exact ⟨fun hs => absurd hs Bool.false_ne_true, fun ⟨h1, h2, h3, h4, h5, h6, _⟩ => absurd ⟨h1, h2, h3, h4, h5, h6⟩ h⟩

theorem paneOf_eq_some {x : RawPane} {y : Pane} (h : paneOf x = some y) :
    y.top = x.top ∧ y.left = x.left ∧ y.height = x.height ∧ y.width = x.width ∧ PaneKindIs x y.kind := by
  unfold paneOf at h
  split_ifs at h
  obtain ⟨k, hk, rfl⟩ := Option.map_eq_some_iff.1 h
  exact ⟨rfl, rfl, rfl, rfl, paneKindOf_eq_some hk⟩

theorem cellOf_isSome (c : RawCell) : (cellOf c).isSome = true ↔ c.glyph ≤ 1023 ∧ c.flags < 8 := ite_some_isSome

theorem cellOf_eq_some {b : RawCell} {c : Cell} (h : cellOf b = some c) :
    c = ⟨b.glyph, b.inkPaper / 16, b.inkPaper % 16, b.flags.testBit 0, b.flags.testBit 1, b.flags.testBit 2⟩ := by
  unfold cellOf at h
  split_ifs at h
  cases h
  rw [← flag_eq_testBit, ← flag_eq_testBit, ← flag_eq_testBit, Nat.pow_zero, Nat.div_one]
  rfl

theorem layoutOf_isSome {b : RawCell} {panes : List RawPane} : (layoutOf b panes).isSome = true
    ↔ (b.glyph ≤ 1023 ∧ b.flags < 8) ∧ panes.length ≤ 8 ∧ ∀ x ∈ panes, (paneOf x).isSome = true := by
  rw [← allOf_isSome, ← cellOf_isSome]
  unfold layoutOf
  cases cellOf b with
  | none => simp
  | some c =>
    cases hl : allOf paneOf panes with
    | none => simp
    | some l =>
      dsimp only
      rw [ite_some_isSome, allOf_length hl]
      simp

theorem layoutOf_eq_some {b : RawCell} {panes : List RawPane} {l : Layout} (h : layoutOf b panes = some l) :
    cellOf b = some l.background ∧ allOf paneOf panes = some l.panes := by
  unfold layoutOf at h
  split at h
  next c ps hc hps =>
    split_ifs at h
    cases h
    exact ⟨hc, hps⟩
  next => cases h

/-! ## Filters, styles and templates -/

theorem filterOf_isSome {a b m : Nat} : (filterOf a b m).isSome = true ↔ a < 16 ∧ b % 2 = 0 ∧ b < 2 ^ 25 ∧ 1 ≤ m ∧ m ≤ 96 := ite_some_isSome

theorem filterOf_eq_some {a b m : Nat} {f : Filter} (h : filterOf a b m = some f) :
    f.states.toNat = a ∧ f.auditoriums.toNat = b ∧ f.maxLines = m := by
  unfold filterOf at h
  split_ifs at h with hok
  cases h
  obtain ⟨ha, -, hb, -, -⟩ := hok
  exact ⟨Nat.mod_eq_of_lt ha, Nat.mod_eq_of_lt (by omega), rfl⟩

theorem styleFieldOf_isSome (f : RawField) : (styleFieldOf f).isSome = true ↔ f.kind < 10 ∧ f.start ≤ 63 ∧ 1 ≤ f.width ∧ f.width ≤ 64
    ∧ f.ink < 16 ∧ f.paper < 16 ∧ f.alignment < 3 ∧ f.flags < 8 := by
  rw [← fieldKindOf_isSome, ← alignmentOf_isSome]
  unfold styleFieldOf
  cases fieldKindOf f.kind <;> cases alignmentOf f.alignment <;> simp [Nat.lt_succ_iff]

theorem styleFieldOf_eq_some {x : RawField} {y : StyleField} (h : styleFieldOf x = some y) : y.kind.code = x.kind ∧ y.start = x.start
    ∧ y.width = x.width ∧ y.ink = x.ink ∧ y.paper = x.paper ∧ y.alignment.code = x.alignment ∧ y.blink = x.flags.testBit 1
    ∧ y.underline = x.flags.testBit 2 := by
  unfold styleFieldOf at h
  split at h
  next k a hk ha =>
    split_ifs at h
    cases h
    exact ⟨(fieldKindOf_eq_some hk).1, rfl, rfl, rfl, rfl, (alignmentOf_eq_some ha).1, flag_eq_testBit x.flags 1, flag_eq_testBit x.flags 2⟩
  next => cases h

theorem styleOf_isSome {ink paper : Nat} {fields : List RawField} : (styleOf ink paper fields).isSome = true
    ↔ ink ≤ 15 ∧ paper ≤ 15 ∧ fields.length ≤ 10 ∧ ∀ f ∈ fields, (styleFieldOf f).isSome = true := by
  rw [← allOf_isSome]
  unfold styleOf
  cases hl : allOf styleFieldOf fields with
  | none => simp
  | some l =>
    dsimp only
    rw [ite_some_isSome, allOf_length hl]
    simp

theorem styleOf_eq_some {ink paper : Nat} {fields : List RawField} {st : Style} (h : styleOf ink paper fields = some st) :
    st.baseInk = ink ∧ st.basePaper = paper ∧ allOf styleFieldOf fields = some st.fields := by
  unfold styleOf at h
  split at h
  next l hl =>
    split_ifs at h
    cases h
    exact ⟨rfl, rfl, hl⟩
  next => cases h

/-- The two bytes of a template item. -/
def TemplateItem.sent : TemplateItem → Nat × Nat
  | .phrase p => (1, p.val)
  | .field k => (2, k.code)

theorem itemOf_isSome (x : Nat × Nat) : (itemOf x).isSome = true ↔ (x.1 = 1 ∧ x.2 < 48) ∨ (x.1 = 2 ∧ x.2 < 10) := by
  rw [← asFin_isSome, ← fieldKindOf_isSome]
  unfold itemOf
  split
  next h => simp [h]
  next h => simp [h]
  next => simp_all

theorem sent_itemOf (x : Nat × Nat) (y : TemplateItem) (h : itemOf x = some y) : y.sent = x := by
  unfold itemOf at h
  split at h
  next h1 =>
    obtain ⟨p, hp, rfl⟩ := Option.map_eq_some_iff.1 h
    exact Prod.ext h1.symm (asFin_eq_some hp).symm
  next h2 =>
    obtain ⟨k, hk, rfl⟩ := Option.map_eq_some_iff.1 h
    exact Prod.ext h2.symm (fieldKindOf_eq_some hk).1
  next => cases h

theorem templateLineOf_isSome (l : List (Nat × Nat)) : (templateLineOf l).isSome = true
    ↔ l.length ≤ 6 ∧ ∀ x ∈ l, (x.1 = 1 ∧ x.2 < 48) ∨ (x.1 = 2 ∧ x.2 < 10) := by
  simp only [← itemOf_isSome, ← allOf_isSome]
  unfold templateLineOf
  cases hl : allOf itemOf l with
  | none => simp
  | some items =>
    dsimp only
    rw [ite_some_isSome, allOf_length hl]
    simp

theorem sent_templateLineOf (l : List (Nat × Nat)) (r : List TemplateItem) (h : templateLineOf l = some r) : r.map TemplateItem.sent = l := by
  unfold templateLineOf at h
  split at h
  next items hitems =>
    split_ifs at h
    cases h
    exact map_allOf sent_itemOf hitems
  next => cases h

theorem templateOf_isSome (lines : List (List (Nat × Nat))) : (templateOf lines).isSome = true
    ↔ lines.length ≤ 3 ∧ ∀ l ∈ lines, l.length ≤ 6 ∧ ∀ x ∈ l, (x.1 = 1 ∧ x.2 < 48) ∨ (x.1 = 2 ∧ x.2 < 10) := by
  simp only [← templateLineOf_isSome, ← allOf_isSome]
  unfold templateOf
  cases hl : allOf templateLineOf lines with
  | none => simp
  | some ls =>
    dsimp only
    rw [ite_some_isSome, allOf_length hl]
    simp

theorem sent_templateOf {lines : List (List (Nat × Nat))} {ls : List (List TemplateItem)} (h : templateOf lines = some ls) :
    ls.map (List.map TemplateItem.sent) = lines := by
  unfold templateOf at h
  split at h
  next r hr =>
    split_ifs at h
    cases h
    exact map_allOf sent_templateLineOf hr
  next => cases h

end Sys2Proof.Machine
end

section
/-! PROOFS. TABLE loads (R8, R25, R60, R64, R66, R67, R69, R100, R104, R106). -/

namespace Sys2Proof.Machine

/-- A TABLE packet whose body reads leaves the FIFO and is handled. -/
theorem table_leaves {b : Block} {item index clock : Nat} {bytes : List Byte} {rest : List Taken} {s u : State} {body : TableBody}
    {act : Nat → TableBody → State → State} (h : Delivers b (.table item index bytes) clock rest s) (hb : readBody item bytes = some body)
    (hu : act index body (s.withFifo rest) = u) : running s (deliver b (pickTable item act)) = .next u := by
  refine deliver_leaves (act := fun _ => act index body) h ((if_pos rfl).trans ?_) hu
  rw [hb]

theorem inUse_iff {cond : Fin 8 → Bool} {s : State} : inUse cond s = true
    ↔ (∃ n, (s.blc.channels.get n).state = .active) ∧ ∃ p, (s.ports.get p).mode = .live ∧ cond p = true := by
  simp [inUse, anyActive, portLive, fins]

theorem viewHas_iff {s : State} {p : Fin 8} {pick : Pane → Bool} : viewHas s p pick = true ↔ ∃ x ∈ (viewLayout s p).panes, pick x = true :=
  List.any_eq_true

/-- Which panes put a phrase in use (R106). -/
theorem usesPhrase_iff (i : Fin 48) (p : Fin 8) (x : Pane) (s : State) : usesPhrase i s p x = true
    ↔ (∃ f st dwell, x.kind = .listing f st dwell) ∨ (∃ ink paper, x.kind = .deskStrip ink paper)
      ∨ (∃ form ink paper, x.kind = .clock form ink paper) ∨ (∃ ink paper, x.kind = .text i ink paper)
      ∨ (∃ ink paper, x.kind = .noticeText ink paper) ∧ ∃ e : Fin 24, (s.cmp.panels.get p).view = some e ∧ 18 ≤ e.val := by
  unfold usesPhrase
  cases x.kind with
  | listing | deskStrip | clock | trailer => simp
  | text k ink paper => simp
  | noticeText ink paper =>
    unfold viewAuto cmpPanel
    cases (s.cmp.panels.get p).view <;> simp

section Loads

variable {index : Nat} {s : State}

/-! ## Titles, filters, styles, phrases, templates, the class map -/

theorem applyTitle_badItem {long short : List Nat} {hint : Nat} (h : 64 ≤ index) :
    applyTitle index (.title long short hint) s = refuse .sch 15 .badItem index s := by
  simp only [applyTitle, asFin_eq_none h]
  rfl

theorem applyTitle_badField (i : Fin 64) {long short : List Nat} {hint : Nat} (h : titleOf long short hint = none) :
    applyTitle i.val (.title long short hint) s = refuse .sch 15 .badField i.val s := by
  simp only [applyTitle, asFin_val, h]
  rfl

theorem applyTitle_stored (i : Fin 64) {long short : List Nat} {hint : Nat} {t : Title} (h : titleOf long short hint = some t) :
    applyTitle i.val (.title long short hint) s = { s with
      sch := { s.sch with titles := s.sch.titles.set i t }
      links := { s.links with schTst := s.links.schTst
        ++ ((filledSlots s).filter fun j => (s.sch.showings.get j).title == some i).map (mail .sch s) } } := by
  simp only [applyTitle, asFin_val, h, purgeTitle]
  exact foldl_purge_sch _ _

theorem applyLayout_badItem {b : RawCell} {panes : List RawPane} (h : 16 ≤ index) :
    applyLayout index (.layout b panes) s = refuse .cmp 15 .badItem index s := by
  simp only [applyLayout, asFin_eq_none h]
  rfl

theorem applyLayout_badField (i : Fin 16) {b : RawCell} {panes : List RawPane} (h : layoutOf b panes = none) :
    applyLayout i.val (.layout b panes) s = refuse .cmp 15 .badField i.val s := by
  simp only [applyLayout, asFin_val, h]
  rfl

theorem applyLayout_read (i : Fin 16) {b : RawCell} {panes : List RawPane} {l : Layout} (h : layoutOf b panes = some l) :
    applyLayout i.val (.layout b panes) s
      = if inUse (fun p => (cmpPanel s p).layout == i) s then refuse .cmp 15 .inUse i.val s else storeLayout i l s := by
  simp only [applyLayout, asFin_val, h]
  rfl

theorem applyFilter_badItem {a b m : Nat} (h : 8 ≤ index) : applyFilter index (.filter a b m) s = refuse .cmp 15 .badItem index s := by
  simp only [applyFilter, asFin_eq_none h]
  rfl

theorem applyFilter_badField (i : Fin 8) {a b m : Nat} (h : filterOf a b m = none) :
    applyFilter i.val (.filter a b m) s = refuse .cmp 15 .badField i.val s := by
  simp only [applyFilter, asFin_val, h]
  rfl

theorem applyFilter_read (i : Fin 8) {a b m : Nat} {f : Filter} (h : filterOf a b m = some f) : applyFilter i.val (.filter a b m) s
    = if inUse (fun p => viewHas s p (namesFilter i)) s then refuse .cmp 15 .inUse i.val s else storeFilter i f s := by
  simp only [applyFilter, asFin_val, h]
  rfl

theorem storeFilter_eq (i : Fin 8) (f : Filter) : storeFilter i f s = ({ s with
    cmp := { s.cmp with filters := s.cmp.filters.set i f }
    links := { s.links with cmpSch := s.links.cmpSch ++ [i] } } : State).marked fun _ _ x => namesFilter i x := markAll_eq ..

theorem applyStyle_badItem {ink paper : Nat} {fields : List RawField} (h : 4 ≤ index) :
    applyStyle index (.style ink paper fields) s = refuse .cmp 15 .badItem index s := by
  simp only [applyStyle, asFin_eq_none h]
  rfl

theorem applyStyle_badField (i : Fin 4) {ink paper : Nat} {fields : List RawField} (h : styleOf ink paper fields = none) :
    applyStyle i.val (.style ink paper fields) s = refuse .cmp 15 .badField i.val s := by
  simp only [applyStyle, asFin_val, h]
  rfl

theorem applyStyle_read (i : Fin 4) {ink paper : Nat} {fields : List RawField} {st : Style} (h : styleOf ink paper fields = some st) :
    applyStyle i.val (.style ink paper fields) s
      = if inUse (fun p => viewHas s p (namesStyle i)) s then refuse .cmp 15 .inUse i.val s else storeStyle i st s := by
  simp only [applyStyle, asFin_val, h]
  rfl

/-- The machine with `d` as its CMP's state and a purge sent for every non-EMPTY showing, in slot order. -/
def State.purgedAll (s : State) (d : Cmp) : State :=
  { s with cmp := d, links := { s.links with cmpTst := s.links.cmpTst ++ (filledSlots s).map (mail .cmp s) } }

theorem purgeAll_eq (d : Cmp) : purgeAll (s.withCmp d) = s.purgedAll d := foldl_purge_cmp _ _

theorem storeStyle_eq (i : Fin 4) (st : Style) :
    storeStyle i st s = (s.purgedAll { s.cmp with styles := s.cmp.styles.set i st }).marked fun _ _ x => namesStyle i x := by
  rw [storeStyle, purgeAll_eq, markAll_eq]

theorem applyPhrase_badItem {glyphs : List Nat} (h : 48 ≤ index) : applyPhrase index (.phrase glyphs) s = refuse .cmp 15 .badItem index s := by
  simp only [applyPhrase, asFin_eq_none h]
  rfl

theorem phrase_bad_iff {glyphs : List Nat} : (24 < glyphs.length ∨ glyphsOk glyphs = false)
    ↔ ¬ (glyphs.length ≤ 24 ∧ ∀ g ∈ glyphs, g ≤ 1023) := by
  rw [← glyphsOk_iff, not_and_or, Nat.not_le, Bool.not_eq_true]

theorem applyPhrase_badField (i : Fin 48) {glyphs : List Nat} (h : ¬ (glyphs.length ≤ 24 ∧ ∀ g ∈ glyphs, g ≤ 1023)) :
    applyPhrase i.val (.phrase glyphs) s = refuse .cmp 15 .badField i.val s := by
  simp only [applyPhrase, asFin_val]
  exact if_pos (phrase_bad_iff.2 h)

theorem applyPhrase_read (i : Fin 48) {glyphs : List Nat} (h : glyphs.length ≤ 24 ∧ ∀ g ∈ glyphs, g ≤ 1023) :
    applyPhrase i.val (.phrase glyphs) s
      = if inUse (fun p => viewHas s p (usesPhrase i s p)) s then refuse .cmp 15 .inUse i.val s else storePhrase i glyphs s := by
  simp only [applyPhrase, asFin_val]
  exact if_neg (phrase_bad_iff.not.2 (not_not_intro h))

theorem storePhrase_eq (i : Fin 48) (glyphs : List Nat) : storePhrase i glyphs s
    = (s.purgedAll { s.cmp with phrases := s.cmp.phrases.set i glyphs }).marked fun p _ x => usesPhrase i s p x := by
  rw [storePhrase, purgeAll_eq, markAll_eq]
  rfl

theorem applyTemplate_badItem {lines : List (List (Nat × Nat))} (h : 8 ≤ index) :
    applyTemplate index (.template lines) s = refuse .cmp 15 .badItem index s := by
  simp only [applyTemplate, asFin_eq_none h]
  rfl

theorem applyTemplate_badField (i : Fin 8) {lines : List (List (Nat × Nat))} (h : templateOf lines = none) :
    applyTemplate i.val (.template lines) s = refuse .cmp 15 .badField i.val s := by
  simp only [applyTemplate, asFin_val, h]
  rfl

theorem applyTemplate_stored (i : Fin 8) {lines : List (List (Nat × Nat))} {ls : List (List TemplateItem)} (h : templateOf lines = some ls) :
    applyTemplate i.val (.template lines) s = ({ s with cmp := { s.cmp with templates := s.cmp.templates.set i ls } } : State).marked
      fun p _ x => isNoticeText x && viewTemplate i s p := by
  simp only [applyTemplate, asFin_val, h]
  exact markAll_eq ..

theorem applyClassMap_badItem {b o : Nat} (h : 12 ≤ index) : applyClassMap index (.classMap b o) s = refuse .cmp 15 .badItem index s := by
  simp only [applyClassMap, asFin_eq_none h]
  rfl

theorem optIndex_eq_none {n v : Nat} (h : n ≤ v) (hne : v ≠ 255) : optIndex n v = none := by
  rw [optIndex, if_neg hne, asFin_eq_none h]
  rfl

theorem optIndex_eight {v : Nat} (h : v < 8 ∨ v = 255) : optIndex 8 v = some (asFin 8 v) := by
  rcases h with h | rfl
  · rw [optIndex_of_lt h (by omega), asFin, dif_pos h]
  · rfl

theorem applyClassMap_badField (i : Fin 12) {b o : Nat} (h : (8 ≤ b ∧ b ≠ 255) ∨ (8 ≤ o ∧ o ≠ 255)) :
    applyClassMap i.val (.classMap b o) s = refuse .cmp 15 .badField i.val s := by
  simp only [applyClassMap, asFin_val]
  rcases h with ⟨h, hne⟩ | ⟨h, hne⟩
  · rw [optIndex_eq_none h hne]
    rfl
  · rw [optIndex_eq_none h hne]
    cases optIndex 8 b <;> rfl

theorem applyClassMap_stored (i : Fin 12) {b o : Nat} (hb : b < 8 ∨ b = 255) (ho : o < 8 ∨ o = 255) : applyClassMap i.val (.classMap b o) s
    = { s with cmp := { s.cmp with classMap := s.cmp.classMap.set i ⟨asFin 8 b, asFin 8 o⟩ } } := by
  simp only [applyClassMap, asFin_val, optIndex_eight hb, optIndex_eight ho]
  rfl

/-! ## Layouts -/

/-- A repaint of one panel leaves the others. -/
theorem cmpPanel_repaintAt {p q : Fin 8} (h : p ≠ q) (k : Tab 8 Nat) : cmpPanel (repaintAt p k s) q = cmpPanel s q :=
  Tab.get_set_ne _ _ h

/-- The panels to repaint are those that used the layout before the load: a repaint changes no other panel's layout. -/
theorem storeLayout_eq (i : Fin 16) (l : Layout) : storeLayout i l s = (fins 8).foldl
    (fun t p => if (s.cmp.panels.get p).layout = i then repaintAt p (Tab.fill 8 0) t else t)
    { s with cmp := { s.cmp with layouts := s.cmp.layouts.set i l } } := by
  refine foldl_congr_of (I := fun rest t => rest.Nodup ∧ ∀ p ∈ rest, (cmpPanel t p).layout = (s.cmp.panels.get p).layout)
    (fun p rest t ⟨hnd, hsame⟩ => ?_) (fins 8) _ ⟨List.nodup_finRange 8, fun p _ => rfl⟩
  obtain ⟨hp, hrest⟩ := List.nodup_cons.1 hnd
  have hnow := hsame p List.mem_cons_self
  have hstep : (if (cmpPanel t p).layout = i then repaintAt p (Tab.fill 8 0) t else t)
      = if (s.cmp.panels.get p).layout = i then repaintAt p (Tab.fill 8 0) t else t := by rw [hnow]
  refine ⟨hstep, hrest, fun q hq => ?_⟩
  have hne : p ≠ q := fun h => hp (h ▸ hq)
  have hq' := hsame q (List.mem_cons_of_mem _ hq)
  split
  · rw [cmpPanel_repaintAt hne]
    exact hq'
  · exact hq'

end Loads

/-- Settles O55: the bodies in range by the codes of their fields; each load by its index, its body and whether the entry is in use. -/
theorem tablesAreLoaded : Obligations.TablesAreLoaded := by
  refine ⟨⟨fun long short hint => titleOf_isSome, fun long short hint t => titleOf_eq_some, fun b panes => ?layouts, fun b panes l h => ?layout,
    fun _ _ _ => filterOf_isSome, fun _ _ _ _ => filterOf_eq_some, fun ink paper fields => ?styles, fun ink paper fields st h => ?style,
    templateOf_isSome, fun lines ls h => ?template⟩, fun item index clock bytes rest s => ?loads, usesPhrase_iff⟩
  case layouts =>
    refine layoutOf_isSome.trans ?_
    simp only [paneOf_isSome]
    exact and_assoc
  case layout =>
    obtain ⟨hb, hl⟩ := layoutOf_eq_some h
    refine ⟨cellOf_eq_some hb, allOf_length hl, fun i x y hx hy => ?_⟩
    obtain ⟨htop, hleft, hheight, hwidth, hkind⟩ := paneOf_eq_some (allOf_getElem? hl hx hy)
    refine ⟨htop, hleft, hheight, hwidth, ?_⟩
    cases hk : y.kind <;> rw [hk] at hkind <;> exact hkind
  case styles =>
    refine styleOf_isSome.trans ?_
    simp only [styleFieldOf_isSome, Nat.lt_succ_iff]
  case style =>
    obtain ⟨hink, hpaper, hfields⟩ := styleOf_eq_some h
    exact ⟨hink, hpaper, allOf_length hfields, fun i x y hx hy => styleFieldOf_eq_some (allOf_getElem? hfields hx hy)⟩
  case template =>
    refine .trans (List.map_congr_left fun l _ => List.map_congr_left fun x _ => ?_) (sent_templateOf h)
    cases x <;> rfl
  case loads =>
    intro s' used store purged
    have hused {cond : Fin 8 → Bool} {c : Fin 8 → Prop} (h : ∀ p, cond p = true ↔ c p) : inUse cond s' = true ↔ used c := by
      refine inUse_iff.trans (and_congr_right' (exists_congr fun p => and_congr_right' (h p)))
    refine ⟨fun hdel long short hint hitem hbody => ?title, fun hdel => ⟨fun b panes hitem hbody => ?layoutLoad, fun a b m hitem hbody => ?filter,
      fun ink paper fields hitem hbody => ?styleLoad, fun glyphs hitem hbody => ?phraseLoad, fun lines hitem hbody => ?templateLoad,
      fun b o hitem hbody => ?classMap⟩⟩ <;> subst hitem
    case title =>
      refine ⟨fun h => table_leaves (act := applyTitle) hdel hbody (applyTitle_badItem h), ?_⟩
      rintro i rfl
      exact ⟨fun h => table_leaves (act := applyTitle) hdel hbody (applyTitle_badField i h),
        fun t h => table_leaves (act := applyTitle) hdel hbody (applyTitle_stored i h)⟩
    case layoutLoad =>
      refine ⟨fun h => table_leaves (act := applyLayout) hdel hbody (applyLayout_badItem h), ?_⟩
      rintro i rfl
      refine ⟨fun h => table_leaves (act := applyLayout) hdel hbody (applyLayout_badField i h), fun l h => ?_⟩
      have hbusy := hused (cond := fun p => (cmpPanel s' p).layout == i) (fun p => beq_iff_eq)
      exact ⟨fun hb => table_leaves (act := applyLayout) hdel hbody ((applyLayout_read i h).trans (if_pos (hbusy.2 hb))),
        fun hb => table_leaves (act := applyLayout) hdel hbody
          ((applyLayout_read i h).trans ((if_neg (hbusy.not.2 hb)).trans (storeLayout_eq i l)))⟩
    case filter =>
      refine ⟨fun h => table_leaves (act := applyFilter) hdel hbody (applyFilter_badItem h), ?_⟩
      rintro i rfl
      refine ⟨fun h => table_leaves (act := applyFilter) hdel hbody (applyFilter_badField i h), fun f h => ?_⟩
      have hbusy := hused (fun p => viewHas_iff (s := s') (p := p) (pick := namesFilter i))
      exact ⟨fun hb => table_leaves (act := applyFilter) hdel hbody ((applyFilter_read i h).trans (if_pos (hbusy.2 hb))),
        fun hb => table_leaves (act := applyFilter) hdel hbody
          ((applyFilter_read i h).trans ((if_neg (hbusy.not.2 hb)).trans (storeFilter_eq i f)))⟩
    case styleLoad =>
      refine ⟨fun h => table_leaves (act := applyStyle) hdel hbody (applyStyle_badItem h), ?_⟩
      rintro i rfl
      refine ⟨fun h => table_leaves (act := applyStyle) hdel hbody (applyStyle_badField i h), fun st h => ?_⟩
      have hbusy := hused (fun p => viewHas_iff (s := s') (p := p) (pick := namesStyle i))
      exact ⟨fun hb => table_leaves (act := applyStyle) hdel hbody ((applyStyle_read i h).trans (if_pos (hbusy.2 hb))),
        fun hb => table_leaves (act := applyStyle) hdel hbody
          ((applyStyle_read i h).trans ((if_neg (hbusy.not.2 hb)).trans (storeStyle_eq i st)))⟩
    case phraseLoad =>
      refine ⟨fun h => table_leaves (act := applyPhrase) hdel hbody (applyPhrase_badItem h), ?_⟩
      rintro i rfl
      intro ok busy
      have hbusy := hused (fun p => viewHas_iff (s := s') (p := p) (pick := usesPhrase i s' p))
      exact ⟨fun h => table_leaves (act := applyPhrase) hdel hbody (applyPhrase_badField i h),
        fun h hb => table_leaves (act := applyPhrase) hdel hbody ((applyPhrase_read i h).trans (if_pos (hbusy.2 hb))),
        fun h hb => table_leaves (act := applyPhrase) hdel hbody
          ((applyPhrase_read i h).trans ((if_neg (hbusy.not.2 hb)).trans (storePhrase_eq i glyphs)))⟩
    case templateLoad =>
      refine ⟨fun h => table_leaves (act := applyTemplate) hdel hbody (applyTemplate_badItem h), ?_⟩
      rintro i rfl
      exact ⟨fun h => table_leaves (act := applyTemplate) hdel hbody (applyTemplate_badField i h),
        fun ls h => table_leaves (act := applyTemplate) hdel hbody (applyTemplate_stored i h)⟩
    case classMap =>
      refine ⟨fun h => table_leaves (act := applyClassMap) hdel hbody (applyClassMap_badItem h), ?_⟩
      rintro i rfl
      exact ⟨fun h => table_leaves (act := applyClassMap) hdel hbody (applyClassMap_badField i h),
        fun hb ho => table_leaves (act := applyClassMap) hdel hbody (applyClassMap_stored i hb ho)⟩

end Sys2Proof.Machine
end

section
/-! PROOFS. Resets: RESET packets at the TIF and at each block, the pin reset, and requests of before a RESET (R178, R194, R195). -/

namespace Sys2Proof.Machine

/-! ## The TIF's part (R178, R195) -/

section Begin

variable {type clock : Nat} {rest : List Taken} {s : State}

theorem headReset_of (hf : s.tif.fifo = ⟨.reset type, clock⟩ :: rest) (hn : s.tif.resetting = none) : headReset type s = true := by
  unfold headReset
  rw [hf, hn]
  exact beq_self_eq_true _

theorem exec_resetOps (h : AtHead (.reset 1) clock rest s) (hn : s.tif.resetting = none) : exec .resetOps s = .next (beginReset false s) :=
  (running_next _ h.1).trans (congrArg Host.Outcome.next (if_pos (headReset_of h.2 hn)))

theorem exec_resetAll (h : AtHead (.reset 2) clock rest s) (hn : s.tif.resetting = none) : exec .resetAll s = .next (beginReset true s) :=
  (running_next _ h.1).trans (congrArg Host.Outcome.next (if_pos (headReset_of h.2 hn)))

end Begin

/-! ## A block's part (R6, R26, R53, R99, R118, R129, R149, R169) -/

/-- The TIF once block `b` has taken the RESET in delivery: it leaves the FIFO with the last block. -/
theorem resetTaken_eq (b : Block) (r : Resetting) (t : Tif) : Tif.resetTaken b r t = if (r.waiting.filter fun c => c != b) = [] then
    { t with resetting := none, fifo := t.fifo.drop 1 } else { t with resetting := some ⟨r.all, r.waiting.filter fun c => c != b⟩ } := by
  simp only [Tif.resetTaken, List.isEmpty_iff]

theorem doResetTake_taken {b : Block} {r : Resetting} {s : State} (h : s.tif.resetting = some r) (hb : b ∈ r.waiting) (hr : ready b s = true) :
    doResetTake b s = onTif (Tif.resetTaken b r) (resetBlock b r.all (countReset b s)) := by
  unfold doResetTake
  rw [h]
  exact if_pos (by simp [hb, hr])

theorem doResetTake_waits {b : Block} {r : Resetting} {s : State} (h : s.tif.resetting = some r) (hb : b ∉ r.waiting ∨ ready b s = false) :
    doResetTake b s = s := by
  unfold doResetTake
  rw [h]
  refine if_neg ?_
  rcases hb with hb | hb <;> simp [hb]

theorem foldl_sendEntryFree (l : List (Fin 24)) (s : State) :
    l.foldl (fun s e => sendEntryFree e s) s = { s with links := { s.links with ntcBlc := s.links.ntcBlc ++ l } } := by
  induction l generalizing s with
  | nil => rw [List.append_nil]; rfl
  | cons e l ih =>
    rw [List.foldl_cons, ih, List.append_cons]
    rfl

theorem resetNtc_eq (all : Bool) (s : State) : resetNtc all s = { s with
    ntc := s.ntc.onReset all
    links := { s.links with ntcBlc := s.links.ntcBlc ++ (fins 24).filter fun e => (s.ntc.entries.get e).isSome } } := foldl_sendEntryFree _ _

/-- The cleared reports of some ports join their links. -/
def State.clearedFrom (s : State) (epoch : Nat) (on : Fin 8 → Prop) [DecidablePred on] : State :=
  { s with links := { s.links with pnlCmp := Tab.make 8 fun p => s.links.pnlCmp.get p ++ if on p then [.gridCleared epoch] else [] } }

theorem clearedFrom_cons {s : State} {epoch : Nat} {p : Fin 8} {l : List (Fin 8)} (hp : p ∉ l) :
    (sendFromPort p (.gridCleared epoch) s).clearedFrom epoch (· ∈ l) = s.clearedFrom epoch (· ∈ p :: l) := by
  refine congrArg (fun t => ({ s with links := { s.links with pnlCmp := t } } : State)) (Tab.ext_get fun q => ?_)
  rw [Tab.get_make, Tab.get_make]
  by_cases hq : p = q
  · subst hq
    simp [sendFromPort, State.withLinks, hp]
  · simp [sendFromPort, State.withLinks, Tab.get_modify_ne _ _ hq, Ne.symm hq]

theorem foldl_sendCleared (epoch : Nat) {l : List (Fin 8)} (hl : l.Nodup) (s : State) :
    l.foldl (fun s p => sendFromPort p (.gridCleared epoch) s) s = s.clearedFrom epoch (· ∈ l) := by
  induction l generalizing s with
  | nil => simp [State.clearedFrom, Tab.make_get]
  | cons p l ih =>
    obtain ⟨hp, hl⟩ := List.nodup_cons.1 hl
    rw [List.foldl_cons, ih hl, clearedFrom_cons hp]

theorem reportCleared_eq (epoch : Nat) (s : State) : reportCleared epoch s = s.clearedFrom epoch fun p => (s.ports.get p).mode = .live := by
  refine (foldl_sendCleared epoch ((List.nodup_finRange 8).filter _) s).trans ?_
  refine congrArg (fun t => ({ s with links := { s.links with pnlCmp := t } } : State)) (Tab.ext_get fun p => ?_)
  rw [Tab.get_make, Tab.get_make]
  simp [portLive]

/-- The ports under a RESET OPS, and the cleared reports of the LIVE ones. -/
theorem resetPnl_ops (s : State) : resetPnl false s = { s with
    ports := Tab.make 8 fun p => (portOf s p).onOps (baseBackground s p)
    links := { s.links with pnlCmp := Tab.make 8 fun p => s.links.pnlCmp.get p
      ++ if (s.ports.get p).mode = .live then [.gridCleared (s.taken.get (blockIx .pnl))] else [] } } := by
  have hmode (p : Fin 8) : ((resetPorts false s).get p).mode = (s.ports.get p).mode :=
    (congrArg Port.mode (Tab.get_make (fun p => (portOf s p).onOps (baseBackground s p)) p) :)
  refine (reportCleared_eq (s.taken.get (blockIx .pnl)) (s.withPorts (resetPorts false s))).trans ?_
  refine congrArg (fun t => ({ s with ports := resetPorts false s, links := { s.links with pnlCmp := t } } : State)) (Tab.ext_get fun p => ?_)
  simp only [Tab.get_make, State.withPorts, hmode]

/-- Repaints do not touch the TIF. -/
theorem foldl_repaint_withTif (t : Tif) (l : List (Fin 8)) (s : State) :
    (l.foldl (fun s p => repaint p s) s).withTif t = l.foldl (fun s p => repaint p s) (s.withTif t) := by
  induction l generalizing s with
  | nil => rfl
  | cons p l ih => exact ih (repaint p s)

theorem foldl_repaint_tif (l : List (Fin 8)) (s : State) : (l.foldl (fun s p => repaint p s) s).tif = s.tif := by
  induction l generalizing s with
  | nil => rfl
  | cons p l ih => exact ih (repaint p s)

theorem onTif_foldl_repaint (f : Tif → Tif) (l : List (Fin 8)) (s : State) :
    onTif f (l.foldl (fun s p => repaint p s) s) = l.foldl (fun s p => repaint p s) (onTif f s) := by
  unfold onTif
  rw [foldl_repaint_tif, foldl_repaint_withTif]

/-! ## Requests of before a RESET (R178) -/

section Stale

variable {s : State} {ep : Nat}

theorem not_isFresh {α : Type} {b : Block} {m : Mail α} (h : m.epoch < s.taken.get (blockIx b)) : ¬ isFresh b m s = true :=
  (isFresh_iff ..).not.2 (Nat.not_le.2 h)

theorem doListingTally_old {slot : Fin 96} {capacity sold blocked stamp : Nat} {fresh : Bool} {rest : List (Mail ToSlg)}
    (h : ep < s.taken.get (blockIx .slg)) (hi : s.slg.stage = .idle)
    (hq : s.links.schSlg = ⟨ep, .listingTally slot capacity sold blocked stamp fresh⟩ :: rest) :
    doListingTally s = s.withLinks { s.links with schSlg := rest } := by
  unfold doListingTally
  rw [hi, hq]
  exact if_neg (not_isFresh h)

theorem doStateChange_old {slot : Fin 96} {st : ShowState} {cause : Nat} {rest : List (Mail ToSlg)} (h : ep < s.taken.get (blockIx .slg))
    (hi : s.slg.stage = .idle) (hq : s.links.schSlg = ⟨ep, .stateChange slot st cause⟩ :: rest) :
    doStateChange s = s.withLinks { s.links with schSlg := rest } := by
  unfold doStateChange
  rw [hi, hq]
  exact if_neg (not_isFresh h)

theorem autoRaiseSch_old {r : AutoRaise} {rest : List (Mail ToNtc)} (h : ep < s.taken.get (blockIx .ntc))
    (hq : s.links.schNtc = ⟨ep, .autoRaise r⟩ :: rest) : autoRaiseSch s = s.withLinks { s.links with schNtc := rest } := by
  unfold autoRaiseSch
  rw [hq]
  exact if_neg (not_isFresh h)

theorem autoRaiseSlg_old {r : AutoRaise} {rest : List (Mail AutoRaise)} (h : ep < s.taken.get (blockIx .ntc))
    (hq : s.links.slgNtc = ⟨ep, r⟩ :: rest) : autoRaiseSlg s = s.withLinks { s.links with slgNtc := rest } := by
  unfold autoRaiseSlg
  rw [hq]
  exact if_neg (not_isFresh h)

theorem doSaleEnd_old {slot : Fin 96} {rest : List (Mail ToNtc)} (h : ep < s.taken.get (blockIx .ntc))
    (hq : s.links.schNtc = ⟨ep, .saleEnd slot⟩ :: rest) : doSaleEnd s = s.withLinks { s.links with schNtc := rest } := by
  unfold doSaleEnd
  rw [hq]
  exact if_neg (not_isFresh h)

theorem doRaiseReport_old {slot : Fin 96} {id : Option Nat} {entry : Option (Fin 24)} {rest : List (Mail ToSch)}
    (h : ep < s.taken.get (blockIx .sch)) (hq : s.links.ntcSch = ⟨ep, .raiseReport slot id entry⟩ :: rest) :
    doRaiseReport s = s.withLinks { s.links with ntcSch := rest } := by
  unfold doRaiseReport
  rw [hq]
  exact if_neg (not_isFresh h)

theorem doAutoFreeReport_old {slot : Fin 96} {entry : Fin 24} {rest : List (Mail ToSch)} (h : ep < s.taken.get (blockIx .sch))
    (hq : s.links.ntcSch = ⟨ep, .autoFree entry slot⟩ :: rest) : doAutoFreeReport s = s.withLinks { s.links with ntcSch := rest } := by
  unfold doAutoFreeReport
  rw [hq]
  exact if_neg (not_isFresh h)

theorem doViewChange_old {v : ViewChange} {rest : List (Mail ToCmp)} (h : ep < s.taken.get (blockIx .cmp))
    (hq : s.links.ntcCmp = ⟨ep, .view v⟩ :: rest) : doViewChange s = s.withLinks { s.links with ntcCmp := rest } := by
  unfold doViewChange
  rw [hq]
  exact if_neg (not_isFresh h)

theorem doNoticeContentChange_old {p : Fin 8} {rest : List (Mail ToCmp)} (h : ep < s.taken.get (blockIx .cmp))
    (hq : s.links.ntcCmp = ⟨ep, .content p⟩ :: rest) : doNoticeContentChange s = s.withLinks { s.links with ntcCmp := rest } := by
  unfold doNoticeContentChange
  rw [hq]
  exact if_neg (not_isFresh h)

theorem doRosterChange_old {f : Fin 8} {rest : List (Mail (Fin 8))} (h : ep < s.taken.get (blockIx .cmp))
    (hq : s.links.schCmp = ⟨ep, f⟩ :: rest) : doRosterChange s = s.withLinks { s.links with schCmp := rest } := by
  unfold doRosterChange
  rw [hq]
  exact if_neg (not_isFresh h)

theorem doDeskChange_old {rest : List (Mail Unit)} (h : ep < s.taken.get (blockIx .cmp)) (hq : s.links.slgCmp = ⟨ep, ()⟩ :: rest) :
    doDeskChange s = s.withLinks { s.links with slgCmp := rest } := by
  unfold doDeskChange
  rw [hq]
  exact if_neg (not_isFresh h)

theorem doPurgeReport_old {slot : Fin 96} {rest : List (Mail FromTst)} (h : ep < s.taken.get (blockIx .cmp))
    (hq : s.links.tstCmp = ⟨ep, .purged slot⟩ :: rest) : doPurgeReport s = s.withLinks { s.links with tstCmp := rest } := by
  unfold doPurgeReport
  rw [hq]
  exact if_neg (not_isFresh h)

theorem doPurge_old {sender : PurgeSender} {slot : Fin 96} {rest : List (Mail (Fin 96))} (h : ep < s.taken.get (blockIx .tst))
    (hq : purgeLink sender s.links = ⟨ep, slot⟩ :: rest) : doPurge sender s = s.withLinks (s.links.withPurges sender rest) := by
  unfold doPurge
  rw [hq]
  exact if_neg (not_isFresh h)

end Stale

/-- Settles O57: the RESET at the TIF, at each block by what its part of the reset is, the pin reset, and each request that is stale. -/
theorem resetsAreTaken : Obligations.ResetsAreTaken := by
  refine ⟨fun type clock rest s hhead => ?tif, fun b r s hr hres => ?blocks, fun s => ?pin, fun ep s hr => ?stale⟩
  case tif =>
    intro ops s'
    refine ⟨?_, ?_, fun h1 h2 hready => ?_⟩
    · rintro rfl hn
      exact exec_resetOps hhead hn
    · rintro rfl hn
      exact exec_resetAll hhead hn
    · exact deliverTif_next (act := refuse .tif 18 .badField 0) ⟨hhead, hready⟩ (if_neg (not_or.2 ⟨h1, h2⟩))
  case blocks =>
    intro left s' cleared
    refine ⟨fun h => (running_next _ hr).trans (congrArg Host.Outcome.next (doResetTake_waits hres h)), fun hb hready => ?_⟩
    have hcounted : onTif (Tif.resetTaken b r) (countReset b s) = s' :=
      congrArg (fun t => (countReset b s).withTif t) (resetTaken_eq b r s.tif)
    have htake {u v : State} (hu : resetBlock b r.all (countReset b s) = u) (hv : onTif (Tif.resetTaken b r) u = v) :
        exec (.resetTake b) s = .next v :=
      (running_next _ hr).trans (congrArg Host.Outcome.next ((doResetTake_taken hres hb hready).trans ((congrArg _ hu).trans hv)))
    refine ⟨?lck, ?sch, ?slg, ?ntc, ?tst, ?blc, ?cmpAll, ?cmpOps, ?pnlAll, ?pnlOps⟩ <;> rintro rfl
    case lck => exact htake rfl (congrArg (fun t : State => { t with lck := s.lck.onReset r.all }) hcounted)
    case sch => exact htake rfl (congrArg (fun t : State => { t with sch := s.sch.onReset r.all }) hcounted)
    case slg => exact htake rfl (congrArg (fun t : State => { t with slg := s.slg.onReset r.all }) hcounted)
    case ntc =>
      refine htake (resetNtc_eq r.all _) ((congrArg (fun t : State => { t with
        ntc := s.ntc.onReset r.all
        links := { s.links with ntcBlc := s.links.ntcBlc ++ (fins 24).filter fun e => (s.ntc.entries.get e).isSome } }) hcounted).trans ?_)
      rw [Ntc.onReset, Tab.map_eq_make]
      rfl
    case tst =>
      refine htake rfl ((congrArg (fun t : State => { t with tst := s.tst.onReset }) hcounted).trans ?_)
      rw [Tst.onReset, Tab.map_eq_make]
      rfl
    case blc =>
      refine htake rfl ((congrArg (fun t : State => { t with blc := s.blc.onReset r.all }) hcounted).trans ?_)
      rw [Blc.onReset, Tab.map_eq_make]
      rfl
    case cmpAll =>
      intro hall
      refine htake (if_pos hall) ((congrArg (fun t : State => { t with cmp := s.cmp.onReset r.all }) hcounted).trans ?_)
      rw [hall, Cmp.onReset, Tab.map_eq_make]
      rfl
    case cmpOps =>
      intro hops
      have hstate : onTif (Tif.resetTaken .cmp r) ((countReset .cmp s).withCmp (s.cmp.onReset r.all)) = { s' with cmp := s.cmp.onReset false } := by
        rw [← hops]
        exact congrArg (fun t : State => { t with cmp := s.cmp.onReset r.all }) hcounted
      refine htake (if_neg (by simp [hops])) ((onTif_foldl_repaint _ _ _).trans ?_)
      refine (congrArg (List.foldl _ · _) hstate).trans ?_
      rw [Cmp.onReset, if_neg Bool.false_ne_true, Tab.map_eq_make]
      rfl
    case pnlAll =>
      intro hall
      refine htake (if_pos hall) ((congrArg (fun t : State => { t with ports := resetPorts r.all s }) hcounted).trans ?_)
      rw [hall, resetPorts, if_pos rfl, Tab.map_eq_make]
    case pnlOps =>
      intro hops
      have hepoch : (countReset .pnl s).taken.get (blockIx .pnl) = s.taken.get (blockIx .pnl) + 1 := Tab.get_modify_same ..
      have hreset := resetPnl_ops (countReset .pnl s)
      rw [hepoch, ← hops] at hreset
      exact htake hreset (congrArg (fun t : State => { (s.clearedFrom (s.taken.get (blockIx .pnl) + 1) fun p => (s.ports.get p).mode = .live) with
        ports := Tab.make 8 fun p => (portOf s p).onOps (baseBackground s p), tif := t.tif, taken := t.taken }) hcounted)
  case pin =>
    refine ⟨_, rfl, rfl, rfl, rfl, rfl, rfl, rfl, rfl, rfl, rfl, rfl, rfl, rfl, fun p => ?_⟩
    rw [Tab.get_map]
    exact congrArg (fun x : Port => { x with level := (s.ports.get p).level }) (Tab.get_fill (Port.reset false) p).symm
  case stale =>
    intro left k old
    have hleft {c : Instr} {f : State → State} {k : Links} (hc : exec c s = running s f) (h : f s = s.withLinks k) : left c k :=
      hc.trans ((running_next _ hr).trans (congrArg Host.Outcome.next h))
    refine ⟨fun h hi => ⟨fun _ _ _ _ _ _ _ hq => ?_, fun _ _ _ _ hq => ?_⟩, fun h => ⟨fun _ _ hq => ?_, fun _ _ hq => ?_, fun _ _ hq => ?_⟩,
      fun h => ⟨fun _ _ _ _ hq => ?_, fun _ _ _ hq => ?_⟩,
      fun h => ⟨fun _ _ hq => ?_, fun _ _ hq => ?_, fun _ _ hq => ?_, fun _ hq => ?_, fun _ _ hq => ?_⟩, fun h sender _ _ hq => ?_⟩
    · exact hleft rfl (doListingTally_old h hi hq)
    · exact hleft rfl (doStateChange_old h hi hq)
    · exact hleft rfl (autoRaiseSch_old h hq)
    · exact hleft rfl (doSaleEnd_old h hq)
    · exact hleft rfl (autoRaiseSlg_old h hq)
    · exact hleft rfl (doRaiseReport_old h hq)
    · exact hleft rfl (doAutoFreeReport_old h hq)
    · exact hleft rfl (doViewChange_old h hq)
    · exact hleft rfl (doNoticeContentChange_old h hq)
    · exact hleft rfl (doRosterChange_old h hq)
    · exact hleft rfl (doDeskChange_old h hq)
    · exact hleft rfl (doPurgeReport_old h hq)
    · exact hleft rfl (doPurge_old h hq)

end Sys2Proof.Machine
end

section
/-! PROOFS. Packets read back from their bytes (10.2 to 10.4, R197). -/

namespace Sys2Proof.Machine

/-! ## Numbers -/

section Numbers

variable {n : Nat}

theorem toNat_byte (h : fits1 n = true) : (BitVec.ofNat 8 n).toNat = n := by
  rw [BitVec.toNat_ofNat]
  exact Nat.mod_eq_of_lt (of_decide_eq_true h)

theorem num2_bytes (h : fits2 n = true) : num2 (BitVec.ofNat 8 (n / 256)) (BitVec.ofNat 8 n) = n := by
  have h : n < 65536 := of_decide_eq_true h
  unfold num2
  rw [BitVec.toNat_ofNat, BitVec.toNat_ofNat]
  omega

theorem num3_bytes (h : fits3 n = true) :
    num3 (BitVec.ofNat 8 (n / 65536)) (BitVec.ofNat 8 (n / 256)) (BitVec.ofNat 8 n) = n := by
  have h : n < 16777216 := of_decide_eq_true h
  unfold num3
  rw [BitVec.toNat_ofNat, BitVec.toNat_ofNat, BitVec.toNat_ofNat]
  omega

end Numbers

/-! ## Glyph runs -/

theorem readGlyphs_put2 {gs : List Nat} (h : gs.all fits2 = true) (rest : List Byte) :
    readGlyphs gs.length ((gs.map put2).flatten ++ rest) = some (gs, rest) := by
  induction gs with
  | nil => rfl
  | cons g gs ih =>
    obtain ⟨hg, hgs⟩ := Bool.and_eq_true_iff.1 h
    show (match readGlyphs gs.length ((gs.map put2).flatten ++ rest) with
      | some (gs, rest) => some (num2 (BitVec.ofNat 8 (g / 256)) (BitVec.ofNat 8 g) :: gs, rest)
      | none => none) = _
    rw [ih hgs, num2_bytes hg]

theorem readRun_putRun {gs : List Nat} (hlen : fits1 gs.length = true) (h : gs.all fits2 = true) (rest : List Byte) :
    readRun (putRun gs ++ rest) = some (gs, rest) := by
  show readGlyphs (BitVec.ofNat 8 gs.length).toNat ((gs.map put2).flatten ++ rest) = _
  rw [toNat_byte hlen, readGlyphs_put2 h]

theorem readRuns_putRun {ls : List (List Nat)} (h : (ls.all fun l => fits1 l.length && l.all fits2) = true) :
    readRuns ls.length (ls.map putRun).flatten = some (ls, []) := by
  induction ls with
  | nil => rfl
  | cons l ls ih =>
    obtain ⟨hl, hls⟩ := Bool.and_eq_true_iff.1 h
    obtain ⟨hlen, hfits⟩ := Bool.and_eq_true_iff.1 hl
    rw [List.map_cons, List.flatten_cons, List.length_cons, readRuns, readRun_putRun hlen hfits]
    dsimp only
    rw [ih hls]

/-! ## Payloads -/

theorem readListing_encode {f : ListingFields} (h : f.wf = true) : readListing (encodePayload (.listing f)) = some (.listing f) := by
  simp only [ListingFields.wf, Bool.and_eq_true] at h
  obtain ⟨⟨⟨⟨⟨⟨⟨⟨⟨⟨⟨⟨⟨⟨⟨hslot, hid⟩, haud⟩, htitle⟩, hstart⟩, hrun⟩, hformat⟩, hrating⟩, hsub⟩, hlead⟩, hbc⟩, hsc⟩, hpanels⟩, hcap⟩, hsold⟩,
    hblocked⟩ := h
  simp only [encodePayload, put1, put2, put3, List.cons_append, List.nil_append, readListing, toNat_byte hslot, num2_bytes hid, toNat_byte haud,
    toNat_byte htitle, num3_bytes hstart, num2_bytes hrun, toNat_byte hformat, toNat_byte hrating, toNat_byte hsub, num2_bytes hlead,
    toNat_byte hbc, toNat_byte hsc, toNat_byte hpanels, num2_bytes hcap, num2_bytes hsold, num2_bytes hblocked]

theorem readRaise_encode {f : RaiseFields} (h : f.wf = true) : readRaise (encodePayload (.raise f)) = some (.raise f) := by
  simp only [RaiseFields.wf, Bool.and_eq_true] at h
  obtain ⟨⟨⟨⟨⟨hentry, hcls⟩, hpanels⟩, hlife⟩, hcount⟩, hlines⟩ := h
  have hlines : readRuns f.lines.length (f.lines.map putRun).flatten = some (f.lines, []) := readRuns_putRun hlines
  simp only [encodePayload, put1, put2, List.cons_append, List.nil_append, readRaise, toNat_byte hcount, hlines, toNat_byte hentry,
    toNat_byte hcls, num2_bytes hpanels, num2_bytes hlife]

theorem readSet_encode {item key : Nat} {v : List Byte} (h : (Packet.set item key v).wf = true) (hr : Reads (.set item key v)) :
    readSet (encodePayload (.set item key v)) = some (.set item key v) := by
  obtain ⟨hitem, hkey⟩ := Bool.and_eq_true_iff.1 h
  simp only [encodePayload, put2, List.cons_append, List.nil_append, readSet, num2_bytes hitem, num2_bytes hkey]
  cases hn : setValueSize item with
  | none => rfl
  | some n => exact if_pos (hr n hn)

theorem readTable_encode {item index : Nat} {b : List Byte} (h : (Packet.table item index b).wf = true) (hr : Reads (.table item index b)) :
    readTable (encodePayload (.table item index b)) = some (.table item index b) := by
  obtain ⟨hitem, hindex⟩ := Bool.and_eq_true_iff.1 h
  simp only [encodePayload, put2, List.cons_append, List.nil_append, readTable, num2_bytes hitem, num2_bytes hindex]
  refine if_neg fun hbad => ?_
  obtain ⟨hi, hnone⟩ := Bool.and_eq_true_iff.1 hbad
  exact absurd (hr hi) (by simpa using hnone)

theorem readQuery_encode {item : Nat} {k : List Byte} (h : (Packet.query item k).wf = true) (hr : Reads (.query item k)) :
    readQuery (encodePayload (.query item k)) = some (.query item k) := by
  simp only [encodePayload, put2, List.cons_append, List.nil_append, readQuery, num2_bytes (n := item) h]
  cases hn : queryKeySize item with
  | none => rfl
  | some n => exact if_pos (hr n hn)

theorem readPicture_encode {f : Picture} (h : f.wf = true) : readPicture (encodePicture f) = some f := by
  simp only [Picture.wf, Bool.and_eq_true, decide_eq_true_iff] at h
  obtain ⟨⟨⟨⟨⟨hpanel, hwindow⟩, htag⟩, hsegment⟩, hlow⟩, hhigh⟩ := h
  obtain ⟨panel, window, tag, segment, data⟩ := f
  cases data with
  | nil => cases hlow
  | cons d ds =>
    simp only [encodePicture, put1, put2, List.cons_append, List.nil_append, readPicture, toNat_byte hpanel, toNat_byte hwindow,
      num2_bytes htag, toNat_byte hsegment]
    exact if_pos (Nat.le_of_succ_le_succ hhigh)

/-- Settles O4: packet by packet of chapter 10, each from the numbers and runs that its payload is made of. -/
theorem packetsReadBack : Obligations.PacketsReadBack := by
  refine ⟨fun p h hr => ?_, fun f h => congrArg (Option.map Decoded.picture) (readPicture_encode h), fun n h => ?_⟩
  · cases p with
    | listing f => exact congrArg (Option.map Decoded.fifo) (readListing_encode h)
    | raise f => exact congrArg (Option.map Decoded.fifo) (readRaise_encode h)
    | set item key v => exact congrArg (Option.map Decoded.fifo) (readSet_encode h hr)
    | table item index b => exact congrArg (Option.map Decoded.fifo) (readTable_encode h hr)
    | query item k => exact congrArg (Option.map Decoded.fifo) (readQuery_encode h hr)
    | cancel id => exact congrArg (fun n => some (Decoded.fifo (.cancel n))) (num2_bytes h)
    | remove id => exact congrArg (fun n => some (Decoded.fifo (.remove n))) (num2_bytes h)
    | withdraw e => exact congrArg (fun n => some (Decoded.fifo (.withdraw n))) (toNat_byte h)
    | lobby m => exact congrArg (fun n => some (Decoded.fifo (.lobby n))) (toNat_byte h)
    | time v => exact congrArg (fun n => some (Decoded.fifo (.time n))) (num3_bytes h)
    | reset t => exact congrArg (fun n => some (Decoded.fifo (.reset n))) (toNat_byte h)
    | desk d op =>
      obtain ⟨hd, hop⟩ := Bool.and_eq_true_iff.1 h
      exact congrArg₂ (fun a b => some (Decoded.fifo (.desk a b))) (toNat_byte hd) (toNat_byte hop)
    | force e p =>
      obtain ⟨he, hp⟩ := Bool.and_eq_true_iff.1 h
      exact congrArg₂ (fun a b => some (Decoded.fifo (.force a b))) (toNat_byte he) (toNat_byte hp)
    | tally id sold blocked =>
      simp only [Packet.wf, Bool.and_eq_true] at h
      obtain ⟨⟨hid, hsold⟩, hblocked⟩ := h
      show some (Decoded.fifo (.tally (num2 _ _) (num2 _ _) (num2 _ _))) = _
      rw [num2_bytes hid, num2_bytes hsold, num2_bytes hblocked]
    | hold dk tag id seats period =>
      simp only [Packet.wf, Bool.and_eq_true] at h
      obtain ⟨⟨⟨⟨hdk, htag⟩, hid⟩, hseats⟩, hperiod⟩ := h
      show some (Decoded.fifo (.hold _ _ (num2 _ _) _ (num2 _ _))) = _
      rw [toNat_byte hdk, toNat_byte htag, num2_bytes hid, toNat_byte hseats, num2_bytes hperiod]
    | release dk tag id seats convert =>
      simp only [Packet.wf, Bool.and_eq_true] at h
      obtain ⟨⟨⟨⟨hdk, htag⟩, hid⟩, hseats⟩, hconvert⟩ := h
      show some (Decoded.fifo (.release _ _ (num2 _ _) _ _)) = _
      rw [toNat_byte hdk, toNat_byte htag, num2_bytes hid, toNat_byte hseats, toNat_byte hconvert]
  · exact congrArg (fun n => some (Decoded.enumerate n)) (toNat_byte (decide_eq_true h))

end Sys2Proof.Machine
end

section
/-! PROOFS. The tests of a framed packet, and what the check catches (R170, R196). -/

namespace Sys2Proof.Machine

/-! ## The check register -/

section Check

/-- A bit of the register after a data bit: the one below it, turned where the feedback is on and taps it. -/
theorem getLsbD_checkBit (r : BitVec 16) (b : Bool) {i : Nat} (h : i < 16) :
    (checkBit r b).getLsbD i = ((decide (1 ≤ i) && r.getLsbD (i - 1)) ^^ ((r.getLsbD 15 ^^ b) && (0x1021#16).getLsbD i)) := by
  have hshift : (r <<< 1).getLsbD i = (decide (1 ≤ i) && r.getLsbD (i - 1)) := by
    rw [BitVec.getLsbD_shiftLeft]
    cases i <;> simp [h]
  unfold checkBit
  cases r.getLsbD 15 <;> cases b
  case true.false | false.true => exact (BitVec.getLsbD_xor ..).trans (congrArg (· ^^ _) hshift)
  case true.true | false.false => exact hshift.trans (Bool.xor_false _).symm

/-- Two registers that end alike after as many bits, 16 at most, agreed in every place once the bits to come were combined in. -/
theorem foldl_checkBit_inj {bs cs : List Bool} {r q : BitVec 16} (hlen : bs.length = cs.length) (hmax : bs.length ≤ 16)
    (h : bs.foldl checkBit r = cs.foldl checkBit q) {i : Nat} (hi : i < 16) :
    (r.getLsbD i ^^ bs.getD (15 - i) false) = (q.getLsbD i ^^ cs.getD (15 - i) false) := by
  induction bs generalizing cs r q i with
  | nil =>
    obtain rfl := List.length_eq_zero_iff.1 hlen.symm
    rw [show r = q from h]
  | cons b bs ih =>
    obtain ⟨c, cs, rfl⟩ := List.exists_cons_of_length_eq_add_one hlen.symm
    have hlen : bs.length = cs.length := Nat.succ.inj hlen
    have hmax : bs.length ≤ 15 := Nat.le_of_succ_le_succ hmax
    have hrest {i : Nat} (hi : i < 16) := ih (cs := cs) (r := checkBit r b) (q := checkBit q c) hlen (Nat.le_succ_of_le hmax) h hi
    have hfeed : (r.getLsbD 15 ^^ b) = (q.getLsbD 15 ^^ c) := by
      have h0 := hrest (i := 0) (by decide)
      rw [getLsbD_checkBit _ _ (by decide), getLsbD_checkBit _ _ (by decide), List.getD_eq_default _ _ hmax,
        List.getD_eq_default _ _ (hlen ▸ hmax)] at h0
      simpa using h0
    obtain hlast | hlow : i = 15 ∨ i < 15 := by omega
    · subst hlast
      exact hfeed
    · have hstep := hrest (i := i + 1) (by omega)
      rw [getLsbD_checkBit _ _ (by omega), getLsbD_checkBit _ _ (by omega), hfeed] at hstep
      have hget (b : Bool) (l : List Bool) : (b :: l).getD (15 - i) false = l.getD (15 - (i + 1)) false := by
        rw [show 15 - i = (15 - (i + 1)) + 1 by omega, List.getD_cons_succ]
      rw [hget, hget]
      rw [Nat.add_sub_cancel, decide_eq_true (Nat.le_add_left 1 i), Bool.true_and, Bool.true_and] at hstep
      generalize ((q.getLsbD 15 ^^ c) && (0x1021#16).getLsbD (i + 1)) = tapped at hstep
      generalize bs.getD (15 - (i + 1)) false = x at *
      generalize cs.getD (15 - (i + 1)) false = y at *
      rw [Bool.xor_right_comm, Bool.xor_right_comm _ tapped] at hstep
      exact (Bool.xor_left_inj ..).1 hstep

/-- The bits of a byte, most significant first. -/
def bitsOf (x : Byte) : List Bool :=
  [x.getLsbD 7, x.getLsbD 6, x.getLsbD 5, x.getLsbD 4, x.getLsbD 3, x.getLsbD 2, x.getLsbD 1, x.getLsbD 0]

theorem checkByte_eq (r : BitVec 16) (x : Byte) : checkByte r x = (bitsOf x).foldl checkBit r := rfl

/-- A byte is read in the upper half of the register. -/
theorem bitsOf_getD (x : Byte) {i : Nat} (h : i < 16) : (bitsOf x).getD (15 - i) false = (decide (8 ≤ i) && x.getLsbD (i - 8)) := by
  interval_cases i <;> rfl

theorem checkByte_inj_byte {r : BitVec 16} {x y : Byte} (h : checkByte r x = checkByte r y) : x = y := by
  refine BitVec.eq_of_getLsbD_eq fun i hi => ?_
  have hbit := foldl_checkBit_inj (bs := bitsOf x) (cs := bitsOf y) rfl (by decide : 8 ≤ 16) h (i := i + 8) (by omega)
  rw [bitsOf_getD _ (by omega), bitsOf_getD _ (by omega), decide_eq_true (Nat.le_add_left 8 i), Nat.add_sub_cancel] at hbit
  simpa using hbit

theorem checkByte_inj_register {r q : BitVec 16} {x : Byte} (h : checkByte r x = checkByte q x) : r = q :=
  BitVec.eq_of_getLsbD_eq fun _ hi =>
    (Bool.xor_left_inj ..).1 (foldl_checkBit_inj (bs := bitsOf x) (cs := bitsOf x) rfl (by decide : 8 ≤ 16) h hi)

theorem foldl_checkByte_inj {l : List Byte} {r q : BitVec 16} (h : l.foldl checkByte r = l.foldl checkByte q) : r = q := by
  induction l generalizing r q with
  | nil => exact h
  | cons x l ih => exact checkByte_inj_register (ih h)

/-- A change of any one byte changes the check. -/
theorem check_inj {before after : List Byte} {x y : Byte} (h : check (before ++ x :: after) = check (before ++ y :: after)) : x = y := by
  unfold check at h
  rw [List.foldl_append, List.foldl_append] at h
  exact checkByte_inj_byte (foldl_checkByte_inj (l := after) h)

/-- A data bit that is the register's top bit moves the register up. -/
theorem checkBit_top (r : BitVec 16) : checkBit r (r.getLsbD 15) = r <<< 1 := if_neg (by simp)

/-- A byte that is the register's upper half moves the register up by a byte. -/
theorem checkByte_top {r : BitVec 16} {x : Byte} (h : ∀ i < 8, x.getLsbD i = r.getLsbD (i + 8)) : checkByte r x = r <<< 8 := by
  have hnext (k : Nat) (hk : k < 8) : x.getLsbD (7 - k) = (r <<< k).getLsbD 15 := by
    rw [h _ (by omega), BitVec.getLsbD_shiftLeft]
    simp [show ¬ 15 < k by omega, show 7 - k + 8 = 15 - k by omega]
  have hstep (k : Nat) (hk : k < 8) : checkBit (r <<< k) (x.getLsbD (7 - k)) = r <<< (k + 1) := by
    rw [hnext k hk, checkBit_top, BitVec.shiftLeft_add]
  have h0 := hstep 0 (by decide)
  rw [BitVec.shiftLeft_zero] at h0
  simp only [checkByte, List.foldl_cons, List.foldl_nil]
  rw [h0, hstep 1 (by decide), hstep 2 (by decide), hstep 3 (by decide), hstep 4 (by decide), hstep 5 (by decide), hstep 6 (by decide),
    hstep 7 (by decide)]

/-- The register ends with 0 on bytes followed by their check. -/
theorem check_checkBytes (bs : List Byte) : check (bs ++ checkBytes bs) = 0#16 := by
  have hupper : ∀ i < 8, (BitVec.ofNat 8 ((check bs).toNat / 256)).getLsbD i = (check bs).getLsbD (i + 8) := fun i hi => by
    rw [BitVec.getLsbD_ofNat, decide_eq_true hi, Bool.true_and, BitVec.getLsbD, show 256 = 2 ^ 8 from rfl, Nat.testBit_div_two_pow]
  have hlower : ∀ i < 8, (BitVec.ofNat 8 (check bs).toNat).getLsbD i = (check bs <<< 8).getLsbD (i + 8) := fun i hi => by
    rw [BitVec.getLsbD_ofNat, decide_eq_true hi, Bool.true_and, BitVec.getLsbD_shiftLeft]
    simp [show i + 8 < 16 by omega, BitVec.getLsbD]
  have hall : check (bs ++ checkBytes bs)
      = checkByte (checkByte (check bs) (BitVec.ofNat 8 ((check bs).toNat / 256))) (BitVec.ofNat 8 (check bs).toNat) :=
    List.foldl_append ..
  rw [hall, checkByte_top hupper, checkByte_top hlower, ← BitVec.shiftLeft_add, BitVec.shiftLeft_eq_zero (by decide)]

/-- The register over the digits 1 to 9, byte by byte. -/
theorem check_digits :
    check [0x31#8, 0x32#8, 0x33#8, 0x34#8, 0x35#8, 0x36#8, 0x37#8, 0x38#8, 0x39#8] = 0x29B1#16 := by
  have h1 : checkByte 0xFFFF#16 0x31#8 = 0xC782#16 := by decide
  have h2 : checkByte 0xC782#16 0x32#8 = 0x3DBA#16 := by decide
  have h3 : checkByte 0x3DBA#16 0x33#8 = 0x5BCE#16 := by decide
  have h4 : checkByte 0x5BCE#16 0x34#8 = 0x5349#16 := by decide
  have h5 : checkByte 0x5349#16 0x35#8 = 0x4560#16 := by decide
  have h6 : checkByte 0x4560#16 0x36#8 = 0x2EF4#16 := by decide
  have h7 : checkByte 0x2EF4#16 0x37#8 = 0x7718#16 := by decide
  have h8 : checkByte 0x7718#16 0x38#8 = 0xA12B#16 := by decide
  have h9 : checkByte 0xA12B#16 0x39#8 = 0x29B1#16 := by decide
  simp only [check, List.foldl_cons, List.foldl_nil, h1, h2, h3, h4, h5, h6, h7, h8, h9]

end Check

/-! ## The tests of a frame -/

section Tests

variable {k d n1 n0 : Byte} {rest : List Byte}

theorem testFrame_format (h : 1024 < num2 n1 n0 ∨ rest.length ≠ num2 n1 n0 + 2) : testFrame (k :: d :: n1 :: n0 :: rest) = .formatFailure :=
  if_pos (by simpa using h)

theorem testFrame_checked {p c : List Byte} (hmax : num2 n1 n0 ≤ 1024) (hp : p.length = num2 n1 n0) (hc : c.length = 2) :
    testFrame (k :: d :: n1 :: n0 :: p ++ c)
      = if c = checkBytes (k :: d :: n1 :: n0 :: p) then .good k.toNat d.toNat p else .checkFailure := by
  have hok : ¬ (decide (1024 < num2 n1 n0) || (p ++ c).length != num2 n1 n0 + 2) = true := by simp [hmax, hp, hc]
  show testFrame (k :: d :: n1 :: n0 :: (p ++ c)) = _
  refine (if_neg hok).trans ?_
  rw [← hp, List.take_left, List.drop_left]

theorem testFrame_packetBytes {k d : Nat} {p : List Byte} (hk : k < 256) (hd : d < 256) (hp : p.length ≤ 1024) :
    testFrame (packetBytes k d p) = .good k d p := by
  have hlen : num2 (BitVec.ofNat 8 (p.length / 256)) (BitVec.ofNat 8 p.length) = p.length :=
    num2_bytes (decide_eq_true (by omega))
  refine (testFrame_checked (by rw [hlen]; exact hp) hlen.symm rfl).trans ((if_pos rfl).trans ?_)
  rw [toNat_byte (decide_eq_true hk), toNat_byte (decide_eq_true hd)]

end Tests

/-- Settles O5: the tests case by case, the check of the digits by running it, and what it catches by the register's injectivity. -/
theorem framesAreTested : Obligations.FramesAreTested :=
  ⟨⟨fun _ _ _ hk hd hp => testFrame_packetBytes hk hd hp,
    fun _ _ _ _ _ _ hmax hp hc hne => (testFrame_checked hmax hp hc).trans (if_neg hne),
    fun _ _ _ _ _ h => testFrame_format (.inr h), fun _ _ _ _ _ h => testFrame_format (.inl h)⟩,
    check_digits, check_checkBytes, fun _ _ _ _ => check_inj⟩

end Sys2Proof.Machine
end

section
/-! PROOFS. QUERY packets and the answers of the owners (R52, R98, R117, R128, R147, R168, R184, R185, R195, R199). -/

namespace Sys2Proof.Machine

/-! ## Taking a QUERY (R184) -/

section Take

variable {item : Nat} {key : List Byte} {s : State}

/-- Every QUERY row of the table delivers a QUERY of its item. -/
theorem exec_queryRows : ∀ q ∈ queryRows, ∀ s, exec q.1 s = queryItem q.2 s := by
  intro q hq s
  fin_cases hq <;> rfl

theorem takeQuery_empty (h : s.tif.slot = .empty) :
    takeQuery item key s = { s with tif := { s.tif with slot := .reserved, read := some ⟨item, key⟩ } } := by
  unfold takeQuery
  rw [h]
  rfl

theorem takeQuery_busy (h : s.tif.slot ≠ .empty) : takeQuery item key s = refuse .tif 16 .busy 65535 s := by
  unfold takeQuery
  split
  next he => exact absurd he h
  next => rfl

theorem refuseUnknown_empty (h : s.tif.slot = .empty) : refuseUnknown item s = refuse .tif 16 .badItem item s := by
  unfold refuseUnknown
  rw [h]
  rfl

theorem refuseUnknown_busy (h : s.tif.slot ≠ .empty) : refuseUnknown item s = refuse .tif 16 .busy 65535 s := by
  unfold refuseUnknown
  split
  next he => exact absurd he h
  next => rfl

/-- The items of the QUERY rows are 20, 32 to 38, and 48 to 65. -/
theorem mem_queryItems (h : item = 20 ∨ (32 ≤ item ∧ item ≤ 38) ∨ (48 ≤ item ∧ item ≤ 65)) : ∃ q ∈ queryRows, item = q.2 := by
  have hmem : item ∈ queryRows.map Prod.snd := by
    rcases h with rfl | ⟨h1, h2⟩ | ⟨h1, h2⟩
    · decide
    · interval_cases item <;> decide
    · interval_cases item <;> decide
  obtain ⟨q, hq, rfl⟩ := List.mem_map.1 hmem
  exact ⟨q, hq, rfl⟩

/-- A code of no row has no key size. -/
theorem queryKeySize_none (h : ∀ q ∈ queryRows, item ≠ q.2) : (queryKeySize item).isNone = true := by
  have hout : ¬ (item = 20 ∨ (32 ≤ item ∧ item ≤ 38) ∨ (48 ≤ item ∧ item ≤ 65)) := fun hin => by
    obtain ⟨q, hq, hitem⟩ := mem_queryItems hin
    exact h q hq hitem
  unfold queryKeySize
  rw [if_neg (by omega), if_neg (by rw [isTableItem_eq_false (by omega)]; exact Bool.false_ne_true)]
  by_cases hlow : item < 48
  · rw [if_pos hlow]
    rfl
  · rw [if_neg hlow, if_neg (by omega), if_neg (by simp; omega), if_neg (by omega), if_neg (by omega)]
    rfl

theorem ready_tif_iff : ready .tif s = true ↔ ∀ r, s.tif.read = some r → readOwner r ≠ .tif := by
  unfold ready noRead
  rw [show blockReady .tif s = true from rfl, Bool.true_and]
  cases s.tif.read <;> simp

end Take

/-! ## An answer at the TIF (R184, R195) -/

section Answer

variable {r : Read} {s : State}

theorem doQueryReadAnswer_waits (h : s.tif.read = some r) (hb : blockReady (readOwner r) s = false) : doQueryReadAnswer s = s := by
  unfold doQueryReadAnswer
  rw [h]
  exact if_neg (Bool.eq_false_iff.1 hb)

theorem doQueryReadAnswer_ready (h : s.tif.read = some r) (hb : blockReady (readOwner r) s = true) :
    doQueryReadAnswer s = takeAnswer r (answerOf s r) s := by
  unfold doQueryReadAnswer
  rw [h]
  exact if_pos hb

theorem takeAnswer_empty {a : Answer} (h : s.tif.slot = .empty) :
    takeAnswer r a s = { s with tif := { s.tif with read := none, slot := .empty } } := by
  have hslot : takeAnswer r a s = { s with tif := { s.tif with read := none, slot := s.tif.slot } } := by
    unfold takeAnswer
    dsimp only
    rw [h]
    simp only [onTif, State.withTif, h]
  rw [hslot, h]

theorem takeAnswer_values {body : List Byte} (h : s.tif.slot ≠ .empty) :
    takeAnswer r (.values body) s = { s with tif := { s.tif with read := none, slot := .full ⟨r.item, r.key, body⟩ } } := by
  unfold takeAnswer
  dsimp only
  split
  next he => exact absurd he h
  next => rfl

theorem takeAnswer_refused {why : Reason} (h : s.tif.slot ≠ .empty) : takeAnswer r (.refused why) s
    = refuse .tif 16 why (refusalKey r) { s with tif := { s.tif with read := none, slot := .empty } } := by
  unfold takeAnswer
  dsimp only
  split
  next he => exact absurd he h
  next => rfl

end Answer

/-! ## Keys -/

theorem numAll_put2 {n : Nat} (h : n < 65536) : numAll (put2 n) = n := by
  have := num2_bytes (decide_eq_true h : fits2 n = true)
  unfold num2 at this
  simpa [numAll, put2] using this

theorem numAll_two {a b : Nat} (ha : a < 256) (hb : b < 256) : numAll (put1 a ++ put1 b) = a * 256 + b := by
  simp [numAll, put1, Nat.mod_eq_of_lt ha, Nat.mod_eq_of_lt hb]

section Keys

variable {n k : Nat} {f : Fin n → Answer}

theorem indexed_val (i : Fin n) (h : n ≤ 65536) : indexed n (numAll (put2 i.val)) f = f i := by
  rw [numAll_put2 (by omega), indexed, asFin_val]

theorem indexed_out (hk : k < 65536) (h : n ≤ k) : indexed n (numAll (put2 k)) f = .refused .badItem := by
  rw [numAll_put2 hk, indexed, asFin_eq_none h]

variable {s : State} {g : Fin 96 → Answer}

theorem keyedById_some {slot : Fin 96} (hk : k < 65536) (h : slotOf s k = some slot) : keyedById s (numAll (put2 k)) g = g slot := by
  rw [numAll_put2 hk, keyedById, h]

theorem keyedById_none (hk : k < 65536) (h : slotOf s k = none) : keyedById s (numAll (put2 k)) g = .refused .unknownShowing := by
  rw [numAll_put2 hk, keyedById, h]

end Keys

/-! ## Answers that branch -/

section Bodies

variable {s : State}

theorem putEntry_eq (slot : Fin 96) : putEntry s slot
    = ((s.sch.list.find? fun e => e.slot == slot).map fun e => put1 e.kind.code ++ put3 e.due).getD (put1 255 ++ put3 0) := by
  unfold putEntry
  cases s.sch.list.find? fun e => e.slot == slot <;> rfl

theorem answerLedger_awaited {slot : Fin 96} (h : awaitsTally s slot = true) : answerLedger s slot = .refused .unknownShowing := if_pos h

theorem answerLedger_told {slot : Fin 96} (h : awaitsTally s slot = false) : answerLedger s slot = .values
    (put2 (s.slg.ledger.get slot).C ++ put2 (s.slg.ledger.get slot).S ++ put2 (s.slg.ledger.get slot).B ++ put2 (s.slg.ledger.get slot).P
      ++ put2 (s.slg.ledger.get slot).H ++ put2 (s.slg.ledger.get slot).A ++ put3 (s.slg.ledger.get slot).stamp
      ++ putFlag (s.slg.ledger.get slot).stale ++ putFlag (s.slg.ledger.get slot).oversold ++ putFlag (s.slg.ledger.get slot).soldout
      ++ putKey (s.slg.ledger.get slot).key) := if_neg (Bool.eq_false_iff.1 h)

/-- A HOLD query's key is its desk and its tag. -/
theorem answerHold_free (d : Fin 16) {tag : Nat} (ht : tag < 256) (h : (findHold s.slg d tag).bind (fun i => s.slg.holds.get i) = none) :
    answerHold s (numAll (put1 d.val ++ put1 tag)) = .values (putFlag false) := by
  have hd := d.isLt
  rw [numAll_two (by omega) ht, answerHold, show (d.val * 256 + tag) / 256 = d.val by omega, show (d.val * 256 + tag) % 256 = tag by omega,
    indexed, asFin_val]
  simp only [h]

theorem answerHold_live (d : Fin 16) {tag : Nat} {x : Hold} (ht : tag < 256)
    (h : (findHold s.slg d tag).bind (fun i => s.slg.holds.get i) = some x) : answerHold s (numAll (put1 d.val ++ put1 tag))
      = .values (putFlag true ++ put2 (showingId s x.slot) ++ put2 x.seats ++ put2 x.remaining) := by
  have hd := d.isLt
  rw [numAll_two (by omega) ht, answerHold, show (d.val * 256 + tag) / 256 = d.val by omega, show (d.val * 256 + tag) % 256 = tag by omega,
    indexed, asFin_val]
  simp only [h]

theorem answerHold_out {desk tag : Nat} (h : 16 ≤ desk) (hd : desk < 256) (ht : tag < 256) :
    answerHold s (numAll (put1 desk ++ put1 tag)) = .refused .badItem := by
  rw [numAll_two hd ht, answerHold, indexed, asFin_eq_none (by omega)]

theorem answerNotice_free {e : Fin 24} (h : s.ntc.entries.get e = none) : answerNotice s e = .values (put1 0) := by
  simp only [answerNotice, h]

theorem answerNotice_live {e : Fin 24} {n : Notice} (h : s.ntc.entries.get e = some n) : answerNotice s e
    = .values (put1 1 ++ put2 n.cls.val ++ putOpt (n.origin.map Fin.val) ++ put1 n.panels.toNat ++ put2 n.lifetime
      ++ putOpt (n.linked.map Fin.val) ++ put2 (sequencePlace s.ntc e + 1) ++ putContent n.content) := by
  simp only [answerNotice, h]

theorem answerTile_free {i : Fin 96} (h : (s.tst.slots.get i).state = .free) : answerTile s i = .values (put1 0) := by
  simp [answerTile, h, TileState.code]

theorem answerTile_valid {i : Fin 96} {k : Fin 96 × Fin 4} (h : (s.tst.slots.get i).state = .valid) (hk : (s.tst.slots.get i).key = some k) :
    answerTile s i = .values (put1 1 ++ (put2 (slotId s k.1) ++ put2 k.2.val) ++ put2 (s.tst.slots.get i).pins
      ++ put2 (s.tst.slots.get i).fmt ++ put2 (s.tst.useList.idxOf i + 1)) := by
  simp [answerTile, h, hk, TileState.code, putTileKey]

theorem answerTile_purging {i : Fin 96} {k : Fin 96 × Fin 4} (h : (s.tst.slots.get i).state = .purging) (hk : (s.tst.slots.get i).key = some k) :
    answerTile s i = .values (put1 2 ++ (put2 (slotId s k.1) ++ put2 k.2.val) ++ put2 (s.tst.slots.get i).pins
      ++ put2 (s.tst.slots.get i).fmt) := by
  simp [answerTile, h, hk, TileState.code, putTileKey]

theorem countTiles_eq (ok : Tile → Bool) : countTiles s ok = ((fins 96).filter fun i => ok (s.tst.slots.get i)).length := by
  unfold countTiles
  rw [Tab.list_eq_map_get, List.filter_map, List.length_map]
  rfl

theorem putStarted_eq (o : Option Job) : putStarted o = (o.map fun j => put1 1 ++ put2 j.panel.val ++ put2 j.number ++ put1 j.lane.code
    ++ put1 j.source.code ++ put2 j.count ++ put2 j.done).getD (put1 0) := by
  cases o <;> rfl

theorem putFault_eq (o : Option FaultRecord) : putFault o
    = (o.map fun f => put1 1 ++ put1 (match f.reason with | .outOfGrid => 0 | .noSource => 1) ++ put2 f.panel.val
      ++ put2 f.number ++ putFlag f.cleared).getD (put1 0) := by
  cases o with
  | none => rfl
  | some f =>
    obtain ⟨reason, panel, number, cleared⟩ := f
    cases reason <;> rfl

/-- A pane of a LAYOUT reply is its kind, its place and size, and the options of its kind. -/
theorem putPane_eq (x : Pane) : putPane x = (match x.kind with
      | .listing _ _ _ => put1 0 | .trailer _ => put1 1 | .deskStrip _ _ => put1 2 | .clock _ _ _ => put1 3
      | .noticeText _ _ => put1 4 | .text _ _ _ => put1 5)
    ++ put2 x.top ++ put2 x.left ++ put2 x.height ++ put2 x.width ++ (match x.kind with
      | .listing f st d => put2 f.val ++ put2 st.val ++ put2 d
      | .trailer w => put2 w.val
      | .deskStrip a b | .noticeText a b => put2 a ++ put2 b
      | .clock f a b => put1 f.code ++ put2 a ++ put2 b
      | .text p a b => put2 p.val ++ put2 a ++ put2 b) := by
  obtain ⟨kind, top, left, height, width⟩ := x
  cases kind <;> rfl

end Bodies

/-! ## SETTING (R185) -/

section Setting

variable {s : State} {item panel cls : Nat} {b : List Byte}

theorem answerOf_setting (hi : item < 65536) (hp : panel < 256) (hc : cls < 256) :
    answerOf s ⟨65, put2 item ++ put1 panel ++ put1 cls⟩ = answerSetting s item panel cls := by
  have h1 : numAll ((put2 item ++ put1 panel ++ put1 cls).take 2) = item := numAll_put2 hi
  have h2 : keyByte (put2 item ++ put1 panel ++ put1 cls) 2 = panel := toNat_byte (decide_eq_true hp)
  have h3 : keyByte (put2 item ++ put1 panel ++ put1 cls) 3 = cls := toNat_byte (decide_eq_true hc)
  show answerSetting s (numAll ((put2 item ++ put1 panel ++ put1 cls).take 2)) (keyByte _ 2) (keyByte _ 3) = _
  rw [h1, h2, h3]

theorem globalSetting_range (h : globalSetting s item = some b) : 1 ≤ item ∧ item ≤ 15 := by
  unfold globalSetting at h
  split at h <;> cases h <;> exact ⟨by decide, by decide⟩

theorem panelSetting_range {p : Fin 8} (h : panelSetting s p cls item = some b) : 16 ≤ item ∧ item ≤ 23 := by
  unfold panelSetting at h
  split at h
  case h_9 => cases h
  all_goals exact ⟨by decide, by decide⟩

theorem globalSetting_none (h : item = 0 ∨ 16 ≤ item) : globalSetting s item = none :=
  Option.eq_none_iff_forall_ne_some.2 fun b hb => by
    have := globalSetting_range hb
    omega

theorem answerSetting_global (h : globalSetting s item = some b) : answerSetting s item panel cls = .values b := by
  unfold answerSetting
  rw [h]

theorem answerSetting_panel (p : Fin 8) (hi : 16 ≤ item) (h : panelSetting s p cls item = some b) :
    answerSetting s item p.val cls = .values b := by
  unfold answerSetting
  rw [globalSetting_none (.inr hi), asFin_val, Option.bind_some, h]

theorem answerSetting_none (hi : item = 0 ∨ 16 ≤ item) (h : ∀ p : Fin 8, p.val = panel → panelSetting s p cls item = none) :
    answerSetting s item panel cls = .refused .badItem := by
  have hnone : ((asFin 8 panel).bind fun p => panelSetting s p cls item) = none := by
    cases hp : asFin 8 panel with
    | none => rfl
    | some p => exact h p (asFin_eq_some hp).symm
  unfold answerSetting
  rw [globalSetting_none hi, hnone]

theorem panelSetting_none {p : Fin 8} (h : item < 16 ∨ 23 < item) : panelSetting s p cls item = none :=
  Option.eq_none_iff_forall_ne_some.2 fun b hb => by
    have := panelSetting_range hb
    omega

end Setting

end Sys2Proof.Machine
end

section
/-! PROOFS. Queries answered: the rows of the table, the answers at the TIF, and what every item answers. -/

namespace Sys2Proof.Machine

/-- Settles O56: each QUERY row by the reply slot; each answer by its owner; each item by what its owner's answer is made of. -/
theorem queriesAreAnswered : Obligations.QueriesAreAnswered := by
  refine ⟨⟨fun q hq key clock rest s hdel => ?rows, fun item key clock rest s hdel hno => ?unknown, fun s => ready_tif_iff⟩,
    fun r s hr hread => ?answers, fun s => ?items, fun desk tag s hd hd' ht => answerHold_out hd hd' ht,
    ⟨rfl, rfl, rfl, rfl, rfl, rfl, rfl, rfl, rfl, rfl, rfl, rfl, rfl, rfl, fun x => by cases x <;> rfl⟩⟩
  case rows =>
    have htake {u : State} (hu : takeQuery q.2 key (s.withFifo rest) = u) : exec q.1 s = .next u :=
      (exec_queryRows q hq s).trans ((deliverTif_next (act := takeQuery q.2 key) hdel (if_pos rfl)).trans (congrArg Host.Outcome.next hu))
    exact ⟨fun h => htake (takeQuery_empty (s := s.withFifo rest) h), fun h => htake (takeQuery_busy h)⟩
  case unknown =>
    have htake {u : State} (hu : refuseUnknown item (s.withFifo rest) = u) : exec .queryUnknownItem s = .next u :=
      (deliverTif_next (act := refuseUnknown item) hdel (if_pos (queryKeySize_none hno))).trans (congrArg Host.Outcome.next hu)
    exact ⟨fun h => htake (refuseUnknown_empty h), fun h => htake (refuseUnknown_busy h)⟩
  case answers =>
    intro answered
    have hex {u : State} (hu : doQueryReadAnswer s = u) : exec .queryReadAnswer s = .next u :=
      (running_next _ hr).trans (congrArg Host.Outcome.next hu)
    refine ⟨fun hb => hex (doQueryReadAnswer_waits hread hb), fun hb => ?_⟩
    have htake {a : Answer} {u : State} (ha : answerOf s r = a) (hu : takeAnswer r a s = u) : exec .queryReadAnswer s = .next u :=
      hex ((doQueryReadAnswer_ready hread hb).trans (ha ▸ hu))
    exact ⟨fun h => htake rfl (takeAnswer_empty h),
      fun h => ⟨fun body ha => htake ha (takeAnswer_values h), fun why ha => htake ha (takeAnswer_refused h)⟩⟩
  case items =>
    intro tells flag opt id number t
    refine ⟨rfl, ?link, rfl, fun k slot hk hs => ⟨(keyedById_some hk hs).trans ?showing, keyedById_some hk hs⟩,
      fun k hk hs => ⟨keyedById_none hk hs, keyedById_none hk hs⟩, fun slot => ⟨answerLedger_awaited, fun hl f hf => ?ledger⟩,
      fun i => indexed_val i (by decide), fun i => indexed_val i (by decide), fun d tag ht => ⟨fun h => ?holdFree, fun i h hi hh => ?hold⟩,
      fun d => indexed_val d (by decide),
      fun e => ⟨fun h => (indexed_val e (by decide)).trans (answerNotice_free h), fun n h => (indexed_val e (by decide)).trans ?noticeLive⟩,
      fun p => ⟨indexed_val p (by decide), (indexed_val p (by decide)).trans ?map⟩, fun i => (indexed_val i (by decide)).trans ?layoutPanes,
      fun i => ⟨indexed_val i (by decide), indexed_val i (by decide)⟩, fun i => indexed_val i (by decide), fun i => indexed_val i (by decide),
      fun i => (indexed_val i (by decide)).trans ?templateItems, fun i => indexed_val i (by decide), fun p => (indexed_val p (by decide)).trans ?build,
      fun i => ⟨fun h => (indexed_val i (by decide)).trans (answerTile_free h), fun k hk => ⟨fun h => ?valid, fun h => ?purging⟩⟩,
      ?store, ?channels, fun n => (indexed_val n (by decide)).trans ?channel, fun p => indexed_val p (by decide),
      fun panel cls hp hc => ?setting, fun k hk x hx => ?range⟩
    case link => rfl
    case showing =>
      have hentry := putEntry_eq (s := s) slot
      unfold answerShowing
      rw [hentry]
      rfl
    case ledger =>
      refine (answerLedger_told hl).trans ?_
      rw [hf]
      rfl
    case holdFree => exact answerHold_free d ht (by rw [h]; rfl)
    case hold => exact answerHold_live d ht (by rw [hi]; exact hh)
    case noticeLive =>
      refine (answerNotice_live h).trans ?_
      cases n.content <;> rfl
    case map =>
      unfold answerNoticeMap
      rw [Tab.list_eq_map_get, List.map_map]
      rfl
    case layoutPanes =>
      exact congrArg (fun f => Answer.values (putCell (s.cmp.layouts.get i).background
        ++ (put1 (s.cmp.layouts.get i).panes.length ++ ((s.cmp.layouts.get i).panes.map f).flatten))) (funext putPane_eq)
    case templateItems => rfl
    case build => rfl
    case valid =>
      refine (indexed_val i (by decide)).trans ((answerTile_valid h hk).trans ?_)
      simp only [List.append_assoc]
      rfl
    case purging =>
      refine (indexed_val i (by decide)).trans ((answerTile_purging h hk).trans ?_)
      simp only [List.append_assoc]
      rfl
    case store =>
      show answerTileStore s = _
      unfold answerTileStore
      rw [countTiles_eq, countTiles_eq, countTiles_eq, countTiles_eq]
    case channels =>
      show answerChannels s = _
      unfold answerChannels
      rw [Tab.list_eq_map_get, List.map_map]
      rfl
    case channel =>
      simp only [answerChannel, putStarted_eq, putFault_eq]
      rfl
    case setting =>
      intro reads none'
      have hread {item : Nat} {body : List Byte} (hi : item < 65536) (h : answerSetting s item panel cls = .values body) : reads item body :=
        (answerOf_setting hi hp hc).trans h
      have hnone {item : Nat} (hi : item < 65536) (h : answerSetting s item panel cls = .refused .badItem) : none' item :=
        (answerOf_setting hi hp hc).trans h
      refine ⟨fun x hx => ?_, hread (by decide) rfl, hread (by decide) rfl, hread (by decide) rfl, ?_, fun hout item h1 h2 => ?_,
        fun item hlt h => ?_⟩
      · fin_cases hx <;> exact hread (by norm_num) rfl
      · rintro p rfl
        intro n x
        have hpanel {item : Nat} {body : List Byte} (hlow : 16 ≤ item) (hi : item < 65536) (h : panelSetting s p cls item = some body) :
            reads item body := hread hi (answerSetting_panel p hlow h)
        have hgeometry {o : Option (Nat × Nat)} (ho : x.geometryPending = o) :
            reads 22 (put2 (o.getD (x.columns, x.rows)).1 ++ put2 (o.getD (x.columns, x.rows)).2) := by
          subst ho
          exact hpanel (by decide) (by decide) rfl
        have hrate {o : Option Nat} (ho : x.ratePending = o) : reads 23 (put2 (o.getD x.rate)) := by
          subst ho
          exact hpanel (by decide) (by decide) rfl
        refine ⟨hpanel (by decide) (by decide) rfl, hpanel (by decide) (by decide) rfl, hpanel (by decide) (by decide) rfl, ?_, fun h => ?_,
          hpanel (by decide) (by decide) rfl, hpanel (by decide) (by decide) rfl, fun g hg => ?_, fun hg => ?_, fun g hg => ?_, fun hg => ?_⟩
        · rintro c rfl
          exact hpanel (by decide) (by decide) (congrArg (Option.map _) (asFin_val c))
        · exact hnone (by decide) (answerSetting_none (.inr (by decide)) fun q _ => congrArg (Option.map _) (asFin_eq_none h))
        · exact hgeometry hg
        · exact hgeometry hg
        · exact hrate hg
        · exact hrate hg
      · refine hnone (by omega) (answerSetting_none (.inr h1) fun p hpp => ?_)
        have := p.isLt
        omega
      · refine hnone hlt (answerSetting_none (by omega) fun p hpp => panelSetting_none (by omega))
    case range =>
      fin_cases hx <;> exact fun h => indexed_out hk h

end Sys2Proof.Machine
end
